-- ==== Sys2Proof/Word.lean ====
section
/-! DEFINITION. The word types of the A48 and the sorted association list that holds sparse state.

The widths follow R4 (registers of 64 bits) and R22 (integer registers of 64 bits, instruction words of 32). -/
namespace Sys2Proof

/-- A 64-bit register value (R4, R22). -/
abbrev Word := BitVec 64

/-- One byte of memory. -/
abbrev Byte := BitVec 8

/-- A 32-bit instruction word (R22). -/
abbrev IWord := BitVec 32

/-- A number of a logical core, 0 to 47 (R20). -/
abbrev CoreId := Fin 48

/-- Sparse plain data: pairs of a key and a value, keys strictly rising. -/
abbrev NMap (α : Type) := List (Nat × α)

end Sys2Proof
end

