-- ==== Sys2Proof/Machine/Bits.lean ====
section
/-! DEFINITION. Bit fields of registers, byte order, sign extension, and the operations on sparse state.

All multi-byte data are little-endian (R4, R22); bit 0 is the least significant. -/
namespace Sys2Proof.Machine

/-- A flag as a number. -/
def flag (b : Bool) : Nat := if b then 1 else 0

/-- A bit range of a register, written `[hi:lo]` in the register maps. -/
structure Fld where
  hi : Nat
  lo : Nat
  deriving DecidableEq, Repr

/-- The number of bits of a field. -/
def Fld.width (f : Fld) : Nat := f.hi + 1 - f.lo

/-- The field's bits set, all others clear. -/
def Fld.mask (f : Fld) : Word := BitVec.ofNat 64 ((2 ^ f.width - 1) <<< f.lo)

/-- The number a field holds. -/
def Fld.get (f : Fld) (w : Word) : Nat := (w.toNat >>> f.lo) % 2 ^ f.width

/-- The word with the field replaced by the low bits of a number. -/
def Fld.set (f : Fld) (v : Nat) (w : Word) : Word :=
  (w &&& ~~~ f.mask) ||| BitVec.ofNat 64 ((v % 2 ^ f.width) <<< f.lo)

/-- A register value made of fields. -/
def word (l : List (Fld × Nat)) : Word := l.foldl (fun w e => e.1.set e.2 w) 0

/-- Whether a one-bit field is set (a wider field: whether it is nonzero). -/
def Fld.test (f : Fld) (w : Word) : Bool := f.get w != 0

/-- Bits `[hi:lo]` of a number. -/
def bitsOf (w hi lo : Nat) : Nat := (w >>> lo) % 2 ^ (hi + 1 - lo)

/-- Bit `i` of a number. -/
def bitOf (w i : Nat) : Bool := (w >>> i) % 2 == 1

/-- The two's-complement value of the low `n` bits of a number. -/
def signedOf (n w : Nat) : Int :=
  if w % 2 ^ n < 2 ^ (n - 1) then (w % 2 ^ n : Nat) else ((w % 2 ^ n : Nat) : Int) - (2 ^ n : Nat)

/-- The low `n` bits of an integer in two's complement. -/
def wrapInt (n : Nat) (i : Int) : Nat := (i % (2 ^ n : Nat)).toNat

/-- The `n` bytes of a number, least significant first (R22). -/
def bytesOfNat : Nat → Nat → List Byte
  | 0, _ => []
  | n + 1, v => BitVec.ofNat 8 v :: bytesOfNat n (v / 256)

/-- The number spelled by bytes, least significant first (R22). -/
def natOfBytes : List Byte → Nat
  | [] => 0
  | b :: bs => b.toNat + 256 * natOfBytes bs

/-- The value stored under a key, if any. -/
def mapFind {α : Type} : NMap α → Nat → Option α
  | [], _ => none
  | (k, v) :: m, a => if a = k then some v else mapFind m a

/-- The map with a key bound to a value, keys kept rising. -/
def mapInsert {α : Type} : NMap α → Nat → α → NMap α
  | [], a, x => [(a, x)]
  | (k, v) :: m, a, x =>
    if a < k then (a, x) :: (k, v) :: m
    else if a = k then (k, x) :: m
    else (k, v) :: mapInsert m a x

/-- The map without a key. -/
def mapErase {α : Type} : NMap α → Nat → NMap α
  | [], _ => []
  | (k, v) :: m, a => if a = k then mapErase m a else (k, v) :: mapErase m a

/-- The value under a key, where an unlisted key reads as `d`. -/
def mapGet {α : Type} (d : Nat → α) (m : NMap α) (a : Nat) : α := (mapFind m a).getD (d a)

/-- The map after a write: a value equal to what an unlisted key reads as is not listed. -/
def mapPut {α : Type} [DecidableEq α] (d : Nat → α) (m : NMap α) (a : Nat) (x : α) : NMap α :=
  if x = d a then mapErase m a else mapInsert m a x

/-- The canonical form: keys strictly rising, no entry equal to what an unlisted key reads as. -/
def mapWf {α : Type} [DecidableEq α] (d : Nat → α) : NMap α → Bool
  | [] => true
  | [(k, v)] => decide (v ≠ d k)
  | (k, v) :: (k', v') :: m => decide (v ≠ d k) && decide (k < k') && mapWf d ((k', v') :: m)

/-- The canonical form of a map whose unlisted keys hold nothing: keys strictly rising. -/
def mapRising {α : Type} : NMap α → Bool
  | [] => true
  | [_] => true
  | (k, _) :: (k', v') :: m => decide (k < k') && mapRising ((k', v') :: m)

/-- Every key of the map within `[lo, hi)`, with its value. -/
def mapRange {α : Type} (m : NMap α) (lo hi : Nat) : NMap α :=
  m.filter fun e => decide (lo ≤ e.1) && decide (e.1 < hi)

/-- The map without the keys of `[lo, hi)`. -/
def mapDropRange {α : Type} (m : NMap α) (lo hi : Nat) : NMap α :=
  m.filter fun e => !(decide (lo ≤ e.1) && decide (e.1 < hi))

/-- Byte memory: an unlisted address reads as `d`. -/
def readBytes (d : Nat → Byte) (m : NMap Byte) (a : Nat) : Nat → List Byte
  | 0 => []
  | n + 1 => mapGet d m a :: readBytes d m (a + 1) n

/-- Byte memory after consecutive bytes are written from an address upward. -/
def writeBytes (d : Nat → Byte) (m : NMap Byte) (a : Nat) : List Byte → NMap Byte
  | [] => m
  | b :: bs => writeBytes d (mapPut d m a b) (a + 1) bs

/-- `a` rounded down to a multiple of `n`. -/
def alignDown (a n : Nat) : Nat := a / n * n

/-- A list of the numbers `lo, lo+1, …` of the given length. -/
def upFrom (lo : Nat) : Nat → List Nat
  | 0 => []
  | n + 1 => lo :: upFrom (lo + 1) n

end Sys2Proof.Machine
end

