-- ==== Sys2Proof/Syntax.lean ====
section
/-! DEFINITION. The commands of the A48 as a block: every row of the opcode table is one constructor of `Instr`.

An instruction of a core carries the core that issues it and every field of its word that its opcode, function code and
named width leave free (R27, Tables 2.1 to 2.3, 4.4 to 4.8, 5.1, 5.2, 5.6, 7.3, 12.7, 12.9). An event carries what the
outside decides: which port, what arrived, what a sensor read. -/
namespace Sys2Proof

/-- Format A with rd, rs1 and rs2. -/
structure OpR where
  rd : BitVec 5
  rs1 : BitVec 5
  rs2 : BitVec 5
  deriving DecidableEq, Repr

/-- Format I. -/
structure OpI where
  rd : BitVec 5
  rs1 : BitVec 5
  imm : BitVec 16
  deriving DecidableEq, Repr

/-- Opcode 0x06 (R450): `hi` is imm[15:8], `sh` is imm[5:0]. -/
structure OpSh where
  rd : BitVec 5
  rs1 : BitVec 5
  hi : BitVec 8
  sh : BitVec 6
  deriving DecidableEq, Repr

/-- Format S. -/
structure OpS where
  rs2 : BitVec 5
  rs1 : BitVec 5
  imm : BitVec 16
  deriving DecidableEq, Repr

/-- Format B. -/
structure OpB where
  rs1 : BitVec 5
  rs2 : BitVec 5
  off : BitVec 16
  deriving DecidableEq, Repr

/-- Format J. -/
structure OpJ where
  rd : BitVec 5
  off : BitVec 21
  deriving DecidableEq, Repr

/-- Opcode 0x1C (R451): `p` is the precision fn[5], `lo` is fn[4:0]. -/
structure OpF where
  rd : BitVec 5
  rs1 : BitVec 5
  rs2 : BitVec 5
  p : Bool
  lo : BitVec 5
  deriving DecidableEq, Repr

/-- FLW and FLD: imm[0] is the width, `immHi` is imm[15:1]. -/
structure OpFI where
  rd : BitVec 5
  rs1 : BitVec 5
  immHi : BitVec 15
  deriving DecidableEq, Repr

/-- FSW and FSD: as OpFI in format S. -/
structure OpFS where
  rs2 : BitVec 5
  rs1 : BitVec 5
  immHi : BitVec 15
  deriving DecidableEq, Repr

/-- LCALL and BRK: a code in bits [25:11]. -/
structure OpCode where
  code : BitVec 15
  deriving DecidableEq, Repr

/-- TMMA and TMMA4 (Table 4.4). -/
structure OpMma where
  z : Bool
  fmt : BitVec 3
  rs2 : BitVec 5
  rs1 : BitVec 5
  td : BitVec 3
  ta : BitVec 3
  tb : BitVec 3
  lo : BitVec 2
  deriving DecidableEq, Repr

/-- TLD and TST (Table 4.5); `cut` names the memory row at which a due interrupt or stop cuts the instruction short. -/
structure OpMov where
  t : BitVec 3
  rs1 : BitVec 5
  rs2 : BitVec 5
  rs3 : BitVec 5
  lo : BitVec 7
  cut : Option (Fin 512)
  deriving DecidableEq, Repr

/-- TZERO (Table 4.8): `rest` is bits [18:0]; `cut` says that a due interrupt or stop cuts the instruction short. -/
structure OpTz where
  t : BitVec 3
  rest : BitVec 19
  cut : Bool
  deriving DecidableEq, Repr

/-- TFREE (Table 4.8): `rest` is bits [13:0]. -/
structure OpTf where
  mask : BitVec 8
  rest : BitVec 14
  deriving DecidableEq, Repr

/-- TGETV and TPUTV (Table 4.8): `rest` is bits [9:0]; `cut` as in OpTz. -/
structure OpTv where
  t : BitVec 3
  v : BitVec 5
  g : BitVec 4
  rest : BitVec 10
  cut : Bool
  deriving DecidableEq, Repr

/-- Format M (Table 5.2); `cut` names the beat boundary at which a due interrupt or stop cuts the instruction short. -/
structure OpM where
  vd : BitVec 5
  rs1 : BitVec 5
  rs2 : BitVec 5
  men : Bool
  km : BitVec 3
  w : BitVec 2
  h : BitVec 2
  cut : Option (Fin 8)
  deriving DecidableEq, Repr

/-- Format V (Table 5.1); `cut` as in OpM. -/
structure OpV where
  vd : BitVec 5
  vs1 : BitVec 5
  vs2 : BitVec 5
  men : Bool
  km : BitVec 3
  w : BitVec 2
  s : Bool
  cut : Option (Fin 8)
  deriving DecidableEq, Repr

/-- The fused update formats (Table 5.6): `a`, `b`, `d` are bits [25:21], [20:16], [15:11]; `cut` as in OpM. -/
structure OpU where
  a : BitVec 5
  b : BitVec 5
  d : BitVec 5
  men : Bool
  km : BitVec 3
  p6 : Bool
  p5 : Bool
  lo : BitVec 5
  cut : Option (Fin 8)
  deriving DecidableEq, Repr

/-- FENCE (Table 7.3): predecessor and successor sets. -/
structure OpFence where
  rd : BitVec 5
  rs1 : BitVec 5
  rs2 : BitVec 5
  pp : BitVec 2
  ss : BitVec 2
  deriving DecidableEq, Repr

/-- Local atomics (Table 7.3): D, AQ and RL. -/
structure OpAmo where
  rd : BitVec 5
  rs1 : BitVec 5
  rs2 : BitVec 5
  d : Bool
  aq : Bool
  rl : Bool
  deriving DecidableEq, Repr

/-- Opcode 0x22 (Table 12.7). -/
structure OpRem where
  ra : BitVec 5
  rs1 : BitVec 5
  rs2 : BitVec 5
  cls : BitVec 2
  arg : BitVec 3
  d : Bool
  z : Bool
  deriving DecidableEq, Repr

/-- Opcode 0x23 (Table 12.9): `lo` is bits [4:0]. -/
structure OpBlz where
  rd : BitVec 5
  rs1 : BitVec 5
  rs2 : BitVec 5
  cls : BitVec 2
  lo : BitVec 5
  deriving DecidableEq, Repr

/-- A symbol error found in one DRAM access: the die, and the erroneous bits of its 16-bit symbol (R276). -/
structure SymErr where
  die : Nat
  bits : BitVec 16
  deriving DecidableEq, Repr

/-- A soft repair made by the march test in a physical bank: one spare row, or one spare column of a sub-array (R270). -/
structure MarchRepair where
  bank : Nat
  column : Bool
  index : Nat
  subarray : Nat
  deriving DecidableEq, Repr

/-- A bank that a march run could not repair, and its failing row (R270). -/
structure MarchFail where
  bank : Nat
  row : Nat
  deriving DecidableEq, Repr

/-- The 64-byte payload of the ring protocol, and a decision record (Table 8.6). -/
structure RingPayload where
  ring : Nat
  g : Nat
  group : Nat
  kind : Nat
  arg : Nat
  source : Nat
  culprit : Nat
  shard : Nat
  step : Nat
  members : Nat
  cause : Nat
  deriving DecidableEq, Repr

/-- A transport packet (Table 12.3): its header fields and its payload of whole units. `rsv` says that its UNITS field is 0, or that a bit
that is reserved in UNITS, SRC or DST is 1. -/
structure Packet where
  op : Nat
  resp : Bool
  seq : Bool
  cls : Nat
  stamp : Bool
  mirror : Bool
  retx : Bool
  new : Bool
  src : Nat
  dst : Nat
  psn : Nat
  addr : Nat
  arg : Nat
  status : Nat
  tag : Nat
  rsv : Bool
  data : List Byte
  deriving DecidableEq, Repr

/-- A flit as a port receives it (R309): what arrives on logical lanes 0 to 3 as four codewords of 544 symbols, the first symbol sent in the
lowest ten bits. -/
structure Flit where
  w0 : BitVec 5440
  w1 : BitVec 5440
  w2 : BitVec 5440
  w3 : BitVec 5440
  deriving DecidableEq, Repr

/-- What a lane has counted in stage 2 of training (R313): the symbols in error, of the symbols it was sent. -/
structure LaneErr where
  errs : Nat
  syms : Nat
  deriving DecidableEq, Repr

/-- A core at an instruction or beat boundary, with the instruction word at its PC where that is one that ILLEGAL is due for (R46; DESIGN CHOICE,
assumption 94). -/
structure AtBoundary where
  core : CoreId
  word : Option IWord
  deriving DecidableEq, Repr

/-- A fault record (Table 16.3). -/
structure FaultRec where
  seq : Nat
  time : Nat
  cls : Nat
  sev : Nat
  kind : Nat
  flags : Nat
  cause : Nat
  unit : Nat
  phys : Nat
  sub : Nat
  culprit : Nat
  addr : Nat
  ring : Nat
  arg : Nat
  deriving DecidableEq, Repr

/-- A 64-bit word of a core's registers: word `i` of a tile, of its scale column, of a vector or of a mask register. -/
inductive RegWord where
  | tile (t : BitVec 3) (i : Nat)
  | scale (t : BitVec 3) (i : Nat)
  | vec (v : BitVec 5) (i : Nat)
  | mask (m : BitVec 3) (i : Nat)
  deriving DecidableEq, Repr

/-- An error that arises in the hardware (R414), before anything has read it: a register word that no longer decodes; a value that the
next residue check of a column of an array, or of a lane, finds wrong; the word or sector at a local address where its last written value
lies, an L2 line, an array, a pinned way, a bank or the heartwood; a word of a line in a core's L1; a sector of a ring's sapwood, of the
newer or the older ring; a sector of a sub-ring's version of an ACCUM granule; and a word of bank memory with one wrong bit. -/
inductive Upset where
  | reg (c : CoreId) (w : RegWord)
  | residue (c : CoreId) (lane : Bool) (array unit : Nat)
  | word (addr : Nat)
  | l1 (c : CoreId) (addr : Nat)
  | sap (older : Bool) (addr : Nat)
  | version (sub addr : Nat)
  | soft (addr : Nat)
  deriving DecidableEq, Repr

/-- What FAULT_RECORD brings: a detector's record, or an upset that has no record until it is found. -/
inductive FaultIn where
  | record (r : FaultRec)
  | upset (u : Upset)
  deriving DecidableEq, Repr

/-- A reading of an ageing monitor of a logical core's island (R381). -/
structure MonRead where
  core : CoreId
  mon : Fin 8
  value : Nat
  deriving DecidableEq, Repr

/-- What a boot meets outside the Warden's own steps (R394, Table 15.2): whether the SFDP and directory of each chip can be read;
the flash reads that fail, as image and step; the physical cores that fail the self-test and the L2 ways that fail theirs, as
slice and way; the TSVs that fail in each stack, as stack and number; what the march test repairs and cannot repair; the monitor
readings at power-up; GPIO1:GPIO0; the REFCLK_CORE cycles the boot takes; whether the ageing record cannot be read (R384); and the VOUT_MODE of each
regulator that answers, by address (R441). -/
structure BootIn where
  sfdpA : Bool
  sfdpB : Bool
  readErr : List (Nat × Nat)
  coreFail : List Nat
  wayFail : List (Nat × Nat)
  tsvFail : List (Nat × Nat)
  rep : List MarchRepair
  fail : List MarchFail
  mon : List MonRead
  straps : Nat
  elapsed : Nat
  ageErr : Bool := false
  vmode : List (Nat × Nat) := []
  deriving DecidableEq, Repr

/-- What a board regulator answers to a poll (R441): none where it NACKs, else VOUT, IOUT, TEMPERATURE_1 and STATUS_WORD. -/
structure PmRead where
  addr : Nat
  vals : Option (Nat × Nat × Nat × Nat)
  deriving DecidableEq, Repr

/-- A frame of the management port (R406): source MAC, EtherType, the 64-byte request block, and its data. -/
structure MgmtFrame where
  mac : Nat
  etype : Nat
  block : List Byte
  data : List Byte
  deriving DecidableEq, Repr

/-- The commands: one constructor per row of the opcode table. -/
inductive Instr where
  | add (c : CoreId) (o : OpR)
  | sub (c : CoreId) (o : OpR)
  | and (c : CoreId) (o : OpR)
  | or (c : CoreId) (o : OpR)
  | xor (c : CoreId) (o : OpR)
  | sll (c : CoreId) (o : OpR)
  | srl (c : CoreId) (o : OpR)
  | sra (c : CoreId) (o : OpR)
  | slt (c : CoreId) (o : OpR)
  | sltu (c : CoreId) (o : OpR)
  | mul (c : CoreId) (o : OpR)
  | mulh (c : CoreId) (o : OpR)
  | mulhu (c : CoreId) (o : OpR)
  | div (c : CoreId) (o : OpR)
  | divu (c : CoreId) (o : OpR)
  | rem (c : CoreId) (o : OpR)
  | remu (c : CoreId) (o : OpR)
  | addi (c : CoreId) (o : OpI)
  | andi (c : CoreId) (o : OpI)
  | ori (c : CoreId) (o : OpI)
  | xori (c : CoreId) (o : OpI)
  | slti (c : CoreId) (o : OpI)
  | slli (c : CoreId) (o : OpSh)
  | srli (c : CoreId) (o : OpSh)
  | srai (c : CoreId) (o : OpSh)
  | lui (c : CoreId) (o : OpI)
  | lb (c : CoreId) (o : OpI)
  | lh (c : CoreId) (o : OpI)
  | lw (c : CoreId) (o : OpI)
  | ld (c : CoreId) (o : OpI)
  | lbu (c : CoreId) (o : OpI)
  | lhu (c : CoreId) (o : OpI)
  | lwu (c : CoreId) (o : OpI)
  | sb (c : CoreId) (o : OpS)
  | sh (c : CoreId) (o : OpS)
  | sw (c : CoreId) (o : OpS)
  | sd (c : CoreId) (o : OpS)
  | beq (c : CoreId) (o : OpB)
  | bne (c : CoreId) (o : OpB)
  | blt (c : CoreId) (o : OpB)
  | bge (c : CoreId) (o : OpB)
  | bltu (c : CoreId) (o : OpB)
  | bgeu (c : CoreId) (o : OpB)
  | jal (c : CoreId) (o : OpJ)
  | jalr (c : CoreId) (o : OpI)
  | fadd (c : CoreId) (o : OpF)
  | fsub (c : CoreId) (o : OpF)
  | fmul (c : CoreId) (o : OpF)
  | fdiv (c : CoreId) (o : OpF)
  | fsqrt (c : CoreId) (o : OpF)
  | fmadd (c : CoreId) (o : OpF)
  | feq (c : CoreId) (o : OpF)
  | flt (c : CoreId) (o : OpF)
  | fle (c : CoreId) (o : OpF)
  | fcvtff (c : CoreId) (o : OpF)
  | fcvtfh (c : CoreId) (o : OpF)
  | fcvthf (c : CoreId) (o : OpF)
  | fcvtif (c : CoreId) (o : OpF)
  | fcvtuf (c : CoreId) (o : OpF)
  | fcvtfi (c : CoreId) (o : OpF)
  | fcvtfu (c : CoreId) (o : OpF)
  | fmvxf (c : CoreId) (o : OpF)
  | fmvfx (c : CoreId) (o : OpF)
  | fstatr (c : CoreId) (o : OpF)
  | fstatw (c : CoreId) (o : OpF)
  | flw (c : CoreId) (o : OpFI)
  | fld (c : CoreId) (o : OpFI)
  | fsw (c : CoreId) (o : OpFS)
  | fsd (c : CoreId) (o : OpFS)
  | lcall (c : CoreId) (o : OpCode)
  | brk (c : CoreId) (o : OpCode)
  | qwin (c : CoreId) (o : OpR)
  | wfi (c : CoreId) (o : OpR)
  | rfe (c : CoreId) (o : OpR)
  | fseal (c : CoreId) (o : OpR)
  | taskj (c : CoreId) (o : OpR)
  | canreq (c : CoreId) (o : OpR)
  | cstop (c : CoreId) (o : OpR)
  | tmma (c : CoreId) (o : OpMma)
  | tmma4 (c : CoreId) (o : OpMma)
  | tld (c : CoreId) (o : OpMov)
  | tst (c : CoreId) (o : OpMov)
  | tzero (c : CoreId) (o : OpTz)
  | tfree (c : CoreId) (o : OpTf)
  | tgetv (c : CoreId) (o : OpTv)
  | tputv (c : CoreId) (o : OpTv)
  | vld (c : CoreId) (o : OpM)
  | vldff (c : CoreId) (o : OpM)
  | vldw (c : CoreId) (o : OpM)
  | vst (c : CoreId) (o : OpM)
  | vstn (c : CoreId) (o : OpM)
  | vstns (c : CoreId) (o : OpM)
  | vadd (c : CoreId) (o : OpV)
  | vsub (c : CoreId) (o : OpV)
  | vmul (c : CoreId) (o : OpV)
  | vmulhu (c : CoreId) (o : OpV)
  | vand (c : CoreId) (o : OpV)
  | vor (c : CoreId) (o : OpV)
  | vxor (c : CoreId) (o : OpV)
  | vsll (c : CoreId) (o : OpV)
  | vsrl (c : CoreId) (o : OpV)
  | vsra (c : CoreId) (o : OpV)
  | vmin (c : CoreId) (o : OpV)
  | vmax (c : CoreId) (o : OpV)
  | vminu (c : CoreId) (o : OpV)
  | vmaxu (c : CoreId) (o : OpV)
  | vabsdu (c : CoreId) (o : OpV)
  | vfadd (c : CoreId) (o : OpV)
  | vfsub (c : CoreId) (o : OpV)
  | vfmul (c : CoreId) (o : OpV)
  | vfdiv (c : CoreId) (o : OpV)
  | vfsqrt (c : CoreId) (o : OpV)
  | vfmax (c : CoreId) (o : OpV)
  | vfmin (c : CoreId) (o : OpV)
  | vfabs (c : CoreId) (o : OpV)
  | vfneg (c : CoreId) (o : OpV)
  | vfexp (c : CoreId) (o : OpV)
  | vflog (c : CoreId) (o : OpV)
  | vfrsqrt (c : CoreId) (o : OpV)
  | vfrecip (c : CoreId) (o : OpV)
  | vfceq (c : CoreId) (o : OpV)
  | vfclt (c : CoreId) (o : OpV)
  | vfcle (c : CoreId) (o : OpV)
  | vfma (c : CoreId) (o : OpV)
  | vfms (c : CoreId) (o : OpV)
  | vfnma (c : CoreId) (o : OpV)
  | vredsum (c : CoreId) (o : OpV)
  | vredmax (c : CoreId) (o : OpV)
  | vredmin (c : CoreId) (o : OpV)
  | vfredsum (c : CoreId) (o : OpV)
  | vfredmax (c : CoreId) (o : OpV)
  | vfredmin (c : CoreId) (o : OpV)
  | vfdot (c : CoreId) (o : OpV)
  | vsad (c : CoreId) (o : OpV)
  | vsadf (c : CoreId) (o : OpV)
  | vsetvl (c : CoreId) (o : OpV)
  | vmv (c : CoreId) (o : OpV)
  | vsplat (c : CoreId) (o : OpV)
  | vceq (c : CoreId) (o : OpV)
  | vclt (c : CoreId) (o : OpV)
  | vcltu (c : CoreId) (o : OpV)
  | vmand (c : CoreId) (o : OpV)
  | vmor (c : CoreId) (o : OpV)
  | vmxor (c : CoreId) (o : OpV)
  | vmandn (c : CoreId) (o : OpV)
  | vmpop (c : CoreId) (o : OpV)
  | vmfirst (c : CoreId) (o : OpV)
  | vcvtfw (c : CoreId) (o : OpV)
  | vcvtwf (c : CoreId) (o : OpV)
  | vcvtwfs (c : CoreId) (o : OpV)
  | vcvtif (c : CoreId) (o : OpV)
  | vcvtfi (c : CoreId) (o : OpV)
  | vcvtb (c : CoreId) (o : OpV)
  | vcvtbf (c : CoreId) (o : OpV)
  | vrand (c : CoreId) (o : OpV)
  | vrseed (c : CoreId) (o : OpV)
  | vmom (c : CoreId) (o : OpU)
  | vbias (c : CoreId) (o : OpU)
  | vsign (c : CoreId) (o : OpU)
  | vsrnd (c : CoreId) (o : OpU)
  | fence (c : CoreId) (o : OpFence)
  | fenceG (c : CoreId) (o : OpR)
  | amoadd (c : CoreId) (o : OpAmo)
  | amoswap (c : CoreId) (o : OpAmo)
  | amoand (c : CoreId) (o : OpAmo)
  | amoor (c : CoreId) (o : OpAmo)
  | amoxor (c : CoreId) (o : OpAmo)
  | amomax (c : CoreId) (o : OpAmo)
  | amomin (c : CoreId) (o : OpAmo)
  | amomaxu (c : CoreId) (o : OpAmo)
  | amominu (c : CoreId) (o : OpAmo)
  | amocas (c : CoreId) (o : OpAmo)
  | rget (c : CoreId) (o : OpRem)
  | rput (c : CoreId) (o : OpRem)
  | ratom (c : CoreId) (o : OpRem)
  | rexsum (c : CoreId) (o : OpRem)
  | rexsumsq (c : CoreId) (o : OpRem)
  | rservice (c : CoreId) (o : OpRem)
  | bsig (c : CoreId) (o : OpBlz)
  | bwait (c : CoreId) (o : OpBlz)
  | takeInterrupt (b : AtBoundary)
  | fetchLineFill (c : CoreId) (line : Nat)
  | tileRetire (c : CoreId)
  | mergePerform (c : CoreId) (idx : Nat)
  | l2FillComplete (slice line : Nat)
  | stackAccess (addr : Nat) (errs : List SymErr)
  | marchRunEnd (rep : List MarchRepair) (fail : List MarchFail)
  | pteSetComplete (st : Fin 12)
  | subCloseEffect (k : Fin 64)
  | poolWaitResume (idx : Nat)
  | claimResponse (p : Packet)
  | voteReady (p : Packet)
  | voteDoom (p : Packet)
  | voteRefuse (p : Packet)
  | voteFlipped (p : Packet)
  | voteClaim (p : Packet)
  | voteMirrored (p : Packet)
  | recvCommit (p : Packet)
  | recvDiscard (p : Packet)
  | recvRetire (p : Packet)
  | xferCopy (e : Fin 16)
  | xferGet (e : Fin 16)
  | xferPut (e : Fin 16)
  | xferZero (e : Fin 16)
  | xferExsum (e : Fin 16)
  | xferExsumsq (e : Fin 16)
  | xferSignal (e : Fin 16)
  | requestIssue (e : Fin 16)
  | requestComplete (e : Fin 16) (id : Nat)
  | descriptorComplete (e : Fin 16) (desc : Nat)
  | flitReceive (port : Fin 36) (f : Flit)
  | trainingComplete (port : Fin 36) (errs syms : List Nat) (ok : Bool)
  | joinAccept (port : Fin 36)
  | rideGet (p : Packet)
  | ridePut (p : Packet)
  | rideAtom (p : Packet)
  | rideExsum (p : Packet)
  | rideExsumsq (p : Packet)
  | rideSignal (p : Packet)
  | rideWait (p : Packet)
  | rideService (p : Packet)
  | rideMirrorPut (p : Packet)
  | rideResponse (p : Packet)
  | busyResend (id : Nat)
  | holdTimeout (src cls psn : Nat)
  | failover (id : Nat)
  | remoteCompletion (id : Nat)
  | bwaitRetire (c : CoreId)
  | post (v : Word)
  | taskDone (c : CoreId)
  | holdEntry (c : CoreId)
  | holdWake (c : CoreId)
  | activityStart (k : Fin 4)
  | coreRestWake (c : CoreId)
  | deviceWake (source : Fin 16) (b : BootIn)
  | avsFrame (m : Fin 2) (ok vdone : Bool)
  | poreset (b : BootIn)
  | warmrst (b : BootIn)
  | wdnReset (b : BootIn)
  | mgmtFrame (f : MgmtFrame)
  | faultRecord (e : FaultIn)
  | registerWrite (m a : Nat) (v : Word)
  | timer (c : CoreId)
  | vectorRetire (c : CoreId)
  | quietWindowEnd (c : CoreId)
  | wardenStopTaken (c : CoreId)
  | coreSwiWrite (c : CoreId) (v : Word)
  | numModeApply (c : CoreId)
  | arrayRampStep (c : CoreId)
  | vecVlApply (c : CoreId)
  | quiescentApply (c : CoreId)
  | prefetch (c : CoreId) (idx : Nat)
  | deadfall (c : CoreId) (v : Word)
  | thrashWindow (slice : Fin 8)
  | marchGo (v : Word)
  | pteSet (st : Fin 12) (v : Word)
  | accClear (st : Fin 12) (idx : Fin 4096) (v : Word)
  | accAdd (st : Fin 12) (idx : Fin 4096) (v : Word)
  | accAddsq (st : Fin 12) (idx : Fin 4096) (v : Word)
  | subOpen (k : Fin 64)
  | subCloseKeep (k : Fin 64)
  | subCloseDiscard (k : Fin 64)
  | silenceTimeout (member : Nat)
  | outcomeTimeout (ring : Nat)
  | resolveRetry (ring : Nat) (lead : Bool)
  | voteAlive (p : Packet)
  | ringNextWrite (v : Word)
  | ringGstepWrite (v : Word)
  | xferPost (m : Nat) (e : Fin 16) (v : Word)
  | xferAbort (e : Fin 16)
  | replayRequest (port : Fin 36) (ack : Nat)
  | replayTimeout (port : Fin 36)
  | portFailure (port : Fin 36)
  | fecThreshold (port : Fin 36) (ended : Bool)
  | retrain (port : Fin 36)
  | joinRefuse (port : Fin 36)
  | streamExpiry (src cls : Nat)
  | duplicateWaitExpiry (id : Nat)
  | blzValueWrite (b : Fin 16384) (v : Word)
  | blzAddWrite (b : Fin 16384) (v : Word)
  | cancel (v : Word)
  | sensorReading (q : Fin 4) (t : Nat)
  | activityEnd (k : Fin 4) (mon : List MonRead)
  | forActWrite (k : Fin 4) (v : Word)
  | coreRest (c : CoreId)
  | thermalTrip (q : Fin 4) (t : Nat)
  | railAck (k : Fin 5)
  | avsTimeout (k : Fin 5)
  | clockStep (c : CoreId)
  | ageMeasure (mon : List MonRead)
  | mailboxPost (v : Word)
  | svcqBaseWrite (v : Word)
  | wtSeedWrite (v : Word)
  | wtPointWrite (k : Fin 6) (v : Word)
  | pmbusPoll (r : List PmRead)
  | gpioEdge (pin : Fin 16)
  | updFallbackSet (c : CoreId) (v : Word)
  | updCountInc (c : CoreId) (k : Fin 2)
  | claimResend (ring : Nat) (lead : Bool)
  | wtXportHoldRelease (idx : Nat)
  | bankModeChange
  | ringOpen
  | openAccept
  | seal
  | ringCtrlDiscard
  | prepareComplete
  | mirrorDrainComplete
  | aliveTimer
  | recoverResolve
  | resetQuietEnd
  | postAccept
  | foresterTick
  | fcapAdjust
  | heatInAssert
  | heatInRelease
  | domainPowerDownDone
  | wakeComplete
  | oscCalibration
  | agePlan
  | agePlanPeriod
  | launchDrained
  | drainTimeout
  | wdnInfo
  | wdnQuote
  | wdnCert
  | wdnLaunch
  | wdnStop
  | wdnRelease
  | wdnRest
  | wdnOff
  | wdnFlashRead
  | wdnFlashWrite
  | wdnAgeRead
  | wdnLimits
  | wdnEnroll
  | wdnFloorRaise
  | wdnFaultRead
  | wdnMboxService
  | wdnTelemetry
  | smbStatus
  | smbJunctionTemp
  | smbModulePower
  | smbWdnBoot
  | smbDieid
  | tapBypass
  | tapIdcode
  | tapSamplePreload
  | tapExtest
  | tapClamp
  | tapHighz
  | tapExtestPulse
  | tapExtestTrain
  | poresetNAssert
  | vddAonRemoval
  | mgmtPortModeAlternate
  deriving DecidableEq, Repr

end Sys2Proof
end

