-- ==== Sys2Proof/Machine/Encode.lean ====
section
/-! DEFINITION. The words of the instruction formats (Tables 2.1, 4.4, 4.5, 4.8, 5.1, 5.2, 5.6, 7.3, 12.7, 12.9): CORE_CAUSE.INSTR shows
them. -/
namespace Sys2Proof.Machine

/-- Format A: opcode, the three register fields, and fn. -/
def encR (op fn : Nat) (o : OpR) : IWord :=
  BitVec.ofNat 32 (op * 2 ^ 26 + o.rd.toNat * 2 ^ 21 + o.rs1.toNat * 2 ^ 16 + o.rs2.toNat * 2 ^ 11 + fn)

/-- Format I. -/
def encI (op : Nat) (o : OpI) : IWord := BitVec.ofNat 32 (op * 2 ^ 26 + o.rd.toNat * 2 ^ 21 + o.rs1.toNat * 2 ^ 16 + o.imm.toNat)

/-- Opcode 0x06: `k` is imm[7:6] (R450). -/
def encSh (k : Nat) (o : OpSh) : IWord :=
  BitVec.ofNat 32 (6 * 2 ^ 26 + o.rd.toNat * 2 ^ 21 + o.rs1.toNat * 2 ^ 16 + o.hi.toNat * 2 ^ 8 + k * 2 ^ 6 + o.sh.toNat)

/-- Format S. -/
def encS (op : Nat) (o : OpS) : IWord := BitVec.ofNat 32 (op * 2 ^ 26 + o.rs2.toNat * 2 ^ 21 + o.rs1.toNat * 2 ^ 16 + o.imm.toNat)

/-- Format B. -/
def encB (op : Nat) (o : OpB) : IWord := BitVec.ofNat 32 (op * 2 ^ 26 + o.rs1.toNat * 2 ^ 21 + o.rs2.toNat * 2 ^ 16 + o.off.toNat)

/-- Format J. -/
def encJ (op : Nat) (o : OpJ) : IWord := BitVec.ofNat 32 (op * 2 ^ 26 + o.rd.toNat * 2 ^ 21 + o.off.toNat)

/-- Opcode 0x1C (R451). -/
def encF (op : Nat) (o : OpF) : IWord :=
  BitVec.ofNat 32 (0x1C * 2 ^ 26 + o.rd.toNat * 2 ^ 21 + o.rs1.toNat * 2 ^ 16 + o.rs2.toNat * 2 ^ 11 + op * 2 ^ 6 + flag o.p * 2 ^ 5 +
    o.lo.toNat)

/-- FLW and FLD. -/
def encFI (w : Nat) (o : OpFI) : IWord :=
  BitVec.ofNat 32 (0x1D * 2 ^ 26 + o.rd.toNat * 2 ^ 21 + o.rs1.toNat * 2 ^ 16 + o.immHi.toNat * 2 + w)

/-- FSW and FSD. -/
def encFS (w : Nat) (o : OpFS) : IWord :=
  BitVec.ofNat 32 (0x1E * 2 ^ 26 + o.rs2.toNat * 2 ^ 21 + o.rs1.toNat * 2 ^ 16 + o.immHi.toNat * 2 + w)

/-- LCALL and BRK. -/
def encCode (fn : Nat) (o : OpCode) : IWord := BitVec.ofNat 32 (0x20 * 2 ^ 26 + o.code.toNat * 2 ^ 11 + fn)

/-- FENCE (Table 7.3). -/
def encFence (o : OpFence) : IWord :=
  BitVec.ofNat 32 (0x21 * 2 ^ 26 + o.rd.toNat * 2 ^ 21 + o.rs1.toNat * 2 ^ 16 + o.rs2.toNat * 2 ^ 11 + o.pp.toNat * 2 ^ 2 + o.ss.toNat)

/-- Local atomics (Table 7.3). -/
def encAmo (op : Nat) (o : OpAmo) : IWord :=
  BitVec.ofNat 32 (0x21 * 2 ^ 26 + o.rd.toNat * 2 ^ 21 + o.rs1.toNat * 2 ^ 16 + o.rs2.toNat * 2 ^ 11 + 0x100 + op * 2 ^ 4 +
    flag o.d * 2 ^ 3 + flag o.aq * 2 ^ 2 + flag o.rl * 2)

/-- Opcode 0x22 (Table 12.7). -/
def encRem (op : Nat) (o : OpRem) : IWord :=
  BitVec.ofNat 32 (0x22 * 2 ^ 26 + o.ra.toNat * 2 ^ 21 + o.rs1.toNat * 2 ^ 16 + o.rs2.toNat * 2 ^ 11 + op * 2 ^ 7 + o.cls.toNat * 2 ^ 5 +
    o.arg.toNat * 2 ^ 2 + flag o.d * 2 + flag o.z)

/-- Opcode 0x23 (Table 12.9). -/
def encBlz (op : Nat) (o : OpBlz) : IWord :=
  BitVec.ofNat 32 (0x23 * 2 ^ 26 + o.rd.toNat * 2 ^ 21 + o.rs1.toNat * 2 ^ 16 + o.rs2.toNat * 2 ^ 11 + op * 2 ^ 7 + o.cls.toNat * 2 ^ 5 +
    o.lo.toNat)

/-- Format M (Table 5.2). -/
def encM (fn : Nat) (o : OpM) : IWord :=
  BitVec.ofNat 32 (0x30 * 2 ^ 26 + o.vd.toNat * 2 ^ 21 + o.rs1.toNat * 2 ^ 16 + o.rs2.toNat * 2 ^ 11 + flag o.men * 2 ^ 10 +
    o.km.toNat * 2 ^ 7 + o.w.toNat * 2 ^ 5 + o.h.toNat * 2 ^ 3 + fn)

/-- Format V (Table 5.1). -/
def encV (op fn : Nat) (o : OpV) : IWord :=
  BitVec.ofNat 32 (op * 2 ^ 26 + o.vd.toNat * 2 ^ 21 + o.vs1.toNat * 2 ^ 16 + o.vs2.toNat * 2 ^ 11 + flag o.men * 2 ^ 10 +
    o.km.toNat * 2 ^ 7 + o.w.toNat * 2 ^ 5 + flag o.s * 2 ^ 4 + fn)

/-- The fused update formats (Table 5.6). -/
def encU (op : Nat) (o : OpU) : IWord :=
  BitVec.ofNat 32 (op * 2 ^ 26 + o.a.toNat * 2 ^ 21 + o.b.toNat * 2 ^ 16 + o.d.toNat * 2 ^ 11 + flag o.men * 2 ^ 10 +
    o.km.toNat * 2 ^ 7 + flag o.p6 * 2 ^ 6 + flag o.p5 * 2 ^ 5 + o.lo.toNat)

/-- TMMA and TMMA4 (Table 4.4). -/
def encMma (q : Nat) (o : OpMma) : IWord :=
  BitVec.ofNat 32 (0x38 * 2 ^ 26 + q * 2 ^ 25 + flag o.z * 2 ^ 24 + o.fmt.toNat * 2 ^ 21 + o.rs2.toNat * 2 ^ 16 + o.rs1.toNat * 2 ^ 11 +
    o.td.toNat * 2 ^ 8 + o.ta.toNat * 2 ^ 5 + o.tb.toNat * 2 ^ 2 + o.lo.toNat)

/-- TLD and TST (Table 4.5). -/
def encMov (st : Nat) (o : OpMov) : IWord :=
  BitVec.ofNat 32 (0x39 * 2 ^ 26 + st * 2 ^ 25 + o.t.toNat * 2 ^ 22 + o.rs1.toNat * 2 ^ 17 + o.rs2.toNat * 2 ^ 12 + o.rs3.toNat * 2 ^ 7 +
    o.lo.toNat)

/-- TZERO (Table 4.8). -/
def encTz (o : OpTz) : IWord := BitVec.ofNat 32 (0x3A * 2 ^ 26 + o.t.toNat * 2 ^ 19 + o.rest.toNat)

/-- TFREE (Table 4.8). -/
def encTf (o : OpTf) : IWord := BitVec.ofNat 32 (0x3A * 2 ^ 26 + 2 ^ 22 + o.mask.toNat * 2 ^ 14 + o.rest.toNat)

/-- TGETV and TPUTV (Table 4.8). -/
def encTv (op : Nat) (o : OpTv) : IWord :=
  BitVec.ofNat 32 (0x3A * 2 ^ 26 + op * 2 ^ 22 + o.t.toNat * 2 ^ 19 + o.v.toNat * 2 ^ 14 + o.g.toNat * 2 ^ 10 + o.rest.toNat)

end Sys2Proof.Machine
end

