-- ==== Sys2Proof/Decode.lean ====
section
/-! DEFINITION. The words of the commands that are instructions of a core, and their decoding (R26 to R28, Table 2.1).

The block takes commands, so no step fetches a word; a word is what CORE_CAUSE.INSTR shows of an instruction. The rows of
the opcode table give no bits, so no host word spells a command. -/
namespace Sys2Proof
open Machine

/-- The command a word of the host's numbering spells: no row of the table gives bits. -/
def decodeTableWord (_nbits _w : Nat) : Option Instr := none

/-! ### Fields -/

/-- The field of `w` bits from bit `lo` of a word. -/
def fieldAt (n lo w : Nat) : BitVec w := BitVec.ofNat w (n / 2 ^ lo)
/-- One bit of a word. -/
def flagAt (n i : Nat) : Bool := decide (n / 2 ^ i % 2 = 1)

/-- Format A. -/
def opR (n : Nat) : OpR := { rd := fieldAt n 21 5, rs1 := fieldAt n 16 5, rs2 := fieldAt n 11 5 }
/-- Format I. -/
def opI (n : Nat) : OpI := { rd := fieldAt n 21 5, rs1 := fieldAt n 16 5, imm := fieldAt n 0 16 }
/-- Shift immediates. -/
def opSh (n : Nat) : OpSh := { rd := fieldAt n 21 5, rs1 := fieldAt n 16 5, hi := fieldAt n 8 8, sh := fieldAt n 0 6 }
/-- Format S. -/
def opS (n : Nat) : OpS := { rs2 := fieldAt n 21 5, rs1 := fieldAt n 16 5, imm := fieldAt n 0 16 }
/-- Format B. -/
def opB (n : Nat) : OpB := { rs1 := fieldAt n 21 5, rs2 := fieldAt n 16 5, off := fieldAt n 0 16 }
/-- Format J. -/
def opJ (n : Nat) : OpJ := { rd := fieldAt n 21 5, off := fieldAt n 0 21 }
/-- Opcode 0x1C. -/
def opF (n : Nat) : OpF :=
  { rd := fieldAt n 21 5, rs1 := fieldAt n 16 5, rs2 := fieldAt n 11 5, p := flagAt n 5, lo := fieldAt n 0 5 }
/-- FLW and FLD. -/
def opFI (n : Nat) : OpFI := { rd := fieldAt n 21 5, rs1 := fieldAt n 16 5, immHi := fieldAt n 1 15 }
/-- FSW and FSD. -/
def opFS (n : Nat) : OpFS := { rs2 := fieldAt n 21 5, rs1 := fieldAt n 16 5, immHi := fieldAt n 1 15 }
/-- LCALL and BRK. -/
def opCode (n : Nat) : OpCode := { code := fieldAt n 11 15 }
/-- TMMA and TMMA4. -/
def opMma (n : Nat) : OpMma :=
  { z := flagAt n 24, fmt := fieldAt n 21 3, rs2 := fieldAt n 16 5, rs1 := fieldAt n 11 5, td := fieldAt n 8 3, ta := fieldAt n 5 3,
    tb := fieldAt n 2 3, lo := fieldAt n 0 2 }
/-- TLD and TST. -/
def opMov (n : Nat) : OpMov :=
  { t := fieldAt n 22 3, rs1 := fieldAt n 17 5, rs2 := fieldAt n 12 5, rs3 := fieldAt n 7 5, lo := fieldAt n 0 7, cut := none }
/-- TZERO. -/
def opTz (n : Nat) : OpTz := { t := fieldAt n 19 3, rest := fieldAt n 0 19, cut := false }
/-- TFREE. -/
def opTf (n : Nat) : OpTf := { mask := fieldAt n 14 8, rest := fieldAt n 0 14 }
/-- TGETV and TPUTV. -/
def opTv (n : Nat) : OpTv := { t := fieldAt n 19 3, v := fieldAt n 14 5, g := fieldAt n 10 4, rest := fieldAt n 0 10, cut := false }
/-- Format M. -/
def opM (n : Nat) : OpM :=
  { vd := fieldAt n 21 5, rs1 := fieldAt n 16 5, rs2 := fieldAt n 11 5, men := flagAt n 10, km := fieldAt n 7 3, w := fieldAt n 5 2,
    h := fieldAt n 3 2, cut := none }
/-- Format V. -/
def opV (n : Nat) : OpV :=
  { vd := fieldAt n 21 5, vs1 := fieldAt n 16 5, vs2 := fieldAt n 11 5, men := flagAt n 10, km := fieldAt n 7 3, w := fieldAt n 5 2,
    s := flagAt n 4, cut := none }
/-- The fused update formats. -/
def opU (n : Nat) : OpU :=
  { a := fieldAt n 21 5, b := fieldAt n 16 5, d := fieldAt n 11 5, men := flagAt n 10, km := fieldAt n 7 3, p6 := flagAt n 6,
    p5 := flagAt n 5, lo := fieldAt n 0 5, cut := none }
/-- FENCE. -/
def opFence (n : Nat) : OpFence :=
  { rd := fieldAt n 21 5, rs1 := fieldAt n 16 5, rs2 := fieldAt n 11 5, pp := fieldAt n 2 2, ss := fieldAt n 0 2 }
/-- Local atomics. -/
def opAmo (n : Nat) : OpAmo :=
  { rd := fieldAt n 21 5, rs1 := fieldAt n 16 5, rs2 := fieldAt n 11 5, d := flagAt n 3, aq := flagAt n 2, rl := flagAt n 1 }
/-- Opcode 0x22. -/
def opRem (n : Nat) : OpRem :=
  { ra := fieldAt n 21 5, rs1 := fieldAt n 16 5, rs2 := fieldAt n 11 5, cls := fieldAt n 5 2, arg := fieldAt n 2 3, d := flagAt n 1,
    z := flagAt n 0 }
/-- Opcode 0x23. -/
def opBlz (n : Nat) : OpBlz :=
  { rd := fieldAt n 21 5, rs1 := fieldAt n 16 5, rs2 := fieldAt n 11 5, cls := fieldAt n 5 2, lo := fieldAt n 0 5 }

/-! ### Decoding (Tables 2.1 to 2.3, 4.4 to 4.8, 5.1 to 5.6, 7.3, 12.7, 12.9) -/

/-- Decoding within the integer register operations. -/
def decode00 (c : CoreId) (n : Nat) : Option Instr :=
  match n % 2048 with
  | 0 => some (.add c (opR n))
  | 1 => some (.sub c (opR n))
  | 2 => some (.and c (opR n))
  | 3 => some (.or c (opR n))
  | 4 => some (.xor c (opR n))
  | 5 => some (.sll c (opR n))
  | 6 => some (.srl c (opR n))
  | 7 => some (.sra c (opR n))
  | 8 => some (.slt c (opR n))
  | 9 => some (.sltu c (opR n))
  | 10 => some (.mul c (opR n))
  | 11 => some (.mulh c (opR n))
  | 12 => some (.mulhu c (opR n))
  | 13 => some (.div c (opR n))
  | 14 => some (.divu c (opR n))
  | 15 => some (.rem c (opR n))
  | 16 => some (.remu c (opR n))
  | _ => none

/-- Decoding within the shift immediates. -/
def decode06 (c : CoreId) (n : Nat) : Option Instr :=
  match n / 64 % 4 with
  | 0 => some (.slli c (opSh n))
  | 1 => some (.srli c (opSh n))
  | 2 => some (.srai c (opSh n))
  | _ => none

/-- Decoding within opcode 0x1C. -/
def decode1C (c : CoreId) (n : Nat) : Option Instr :=
  match n / 64 % 32 with
  | 0 => some (.fadd c (opF n))
  | 1 => some (.fsub c (opF n))
  | 2 => some (.fmul c (opF n))
  | 3 => some (.fdiv c (opF n))
  | 4 => some (.fsqrt c (opF n))
  | 5 => some (.fmadd c (opF n))
  | 6 => some (.feq c (opF n))
  | 7 => some (.flt c (opF n))
  | 8 => some (.fle c (opF n))
  | 9 => some (.fcvtff c (opF n))
  | 10 => some (.fcvtfh c (opF n))
  | 11 => some (.fcvthf c (opF n))
  | 12 => some (.fcvtif c (opF n))
  | 13 => some (.fcvtuf c (opF n))
  | 14 => some (.fcvtfi c (opF n))
  | 15 => some (.fcvtfu c (opF n))
  | 16 => some (.fmvxf c (opF n))
  | 17 => some (.fmvfx c (opF n))
  | 30 => some (.fstatr c (opF n))
  | 31 => some (.fstatw c (opF n))
  | _ => none

/-- Decoding within FLW and FLD. -/
def decode1D (c : CoreId) (n : Nat) : Option Instr :=
  match n % 2 with
  | 0 => some (.flw c (opFI n))
  | 1 => some (.fld c (opFI n))
  | _ => none

/-- Decoding within FSW and FSD. -/
def decode1E (c : CoreId) (n : Nat) : Option Instr :=
  match n % 2 with
  | 0 => some (.fsw c (opFS n))
  | 1 => some (.fsd c (opFS n))
  | _ => none

/-- Decoding within the system instructions. -/
def decode20 (c : CoreId) (n : Nat) : Option Instr :=
  match n % 2048 with
  | 1 => some (.lcall c (opCode n))
  | 2 => some (.brk c (opCode n))
  | 3 => some (.qwin c (opR n))
  | 4 => some (.wfi c (opR n))
  | 16 => some (.rfe c (opR n))
  | 17 => some (.fseal c (opR n))
  | 18 => some (.taskj c (opR n))
  | 19 => some (.canreq c (opR n))
  | 20 => some (.cstop c (opR n))
  | _ => none

/-- Decoding within opcode 0x21: FENCE has bits [10:4] clear, FENCE.G is fn 0x010, atomics have bits [10:8] = 1 and bit 0 clear. -/
def decode21 (c : CoreId) (n : Nat) : Option Instr :=
  if n % 2048 / 16 = 0 then some (.fence c (opFence n))
  else if n % 2048 = 0x010 then some (.fenceG c (opR n))
  else if n % 2048 / 256 = 1 ∧ n % 2 = 0 then
    match n / 16 % 16 with
    | 0 => some (.amoadd c (opAmo n))
    | 1 => some (.amoswap c (opAmo n))
    | 2 => some (.amoand c (opAmo n))
    | 3 => some (.amoor c (opAmo n))
    | 4 => some (.amoxor c (opAmo n))
    | 5 => some (.amomax c (opAmo n))
    | 6 => some (.amomin c (opAmo n))
    | 7 => some (.amomaxu c (opAmo n))
    | 8 => some (.amominu c (opAmo n))
    | 9 => some (.amocas c (opAmo n))
    | _ => none
  else none

/-- Decoding within opcode 0x22. -/
def decode22 (c : CoreId) (n : Nat) : Option Instr :=
  match n / 128 % 16 with
  | 0 => some (.rget c (opRem n))
  | 1 => some (.rput c (opRem n))
  | 2 => some (.ratom c (opRem n))
  | 3 => some (.rexsum c (opRem n))
  | 4 => some (.rexsumsq c (opRem n))
  | 5 => some (.rservice c (opRem n))
  | _ => none

/-- Decoding within opcode 0x23. -/
def decode23 (c : CoreId) (n : Nat) : Option Instr :=
  match n / 128 % 16 with
  | 0 => some (.bsig c (opBlz n))
  | 1 => some (.bwait c (opBlz n))
  | _ => none

/-- Decoding within the vector memory instructions. -/
def decode30 (c : CoreId) (n : Nat) : Option Instr :=
  match n % 8 with
  | 0 => some (.vld c (opM n))
  | 1 => some (.vldff c (opM n))
  | 2 => some (.vldw c (opM n))
  | 3 => some (.vst c (opM n))
  | 4 => some (.vstn c (opM n))
  | 5 => some (.vstns c (opM n))
  | _ => none

/-- Decoding within the integer vector operations. -/
def decode31 (c : CoreId) (n : Nat) : Option Instr :=
  match n % 16 with
  | 0 => some (.vadd c (opV n))
  | 1 => some (.vsub c (opV n))
  | 2 => some (.vmul c (opV n))
  | 3 => some (.vmulhu c (opV n))
  | 4 => some (.vand c (opV n))
  | 5 => some (.vor c (opV n))
  | 6 => some (.vxor c (opV n))
  | 7 => some (.vsll c (opV n))
  | 8 => some (.vsrl c (opV n))
  | 9 => some (.vsra c (opV n))
  | 10 => some (.vmin c (opV n))
  | 11 => some (.vmax c (opV n))
  | 12 => some (.vminu c (opV n))
  | 13 => some (.vmaxu c (opV n))
  | 14 => some (.vabsdu c (opV n))
  | _ => none

/-- Decoding within the floating vector operations. -/
def decode32 (c : CoreId) (n : Nat) : Option Instr :=
  match n % 16 with
  | 0 => some (.vfadd c (opV n))
  | 1 => some (.vfsub c (opV n))
  | 2 => some (.vfmul c (opV n))
  | 3 => some (.vfdiv c (opV n))
  | 4 => some (.vfsqrt c (opV n))
  | 5 => some (.vfmax c (opV n))
  | 6 => some (.vfmin c (opV n))
  | 7 => some (.vfabs c (opV n))
  | 8 => some (.vfneg c (opV n))
  | 9 => some (.vfexp c (opV n))
  | 10 => some (.vflog c (opV n))
  | 11 => some (.vfrsqrt c (opV n))
  | 12 => some (.vfrecip c (opV n))
  | 13 => some (.vfceq c (opV n))
  | 14 => some (.vfclt c (opV n))
  | 15 => some (.vfcle c (opV n))
  | _ => none

/-- Decoding within the fused vector operations. -/
def decode33 (c : CoreId) (n : Nat) : Option Instr :=
  match n % 16 with
  | 0 => some (.vfma c (opV n))
  | 1 => some (.vfms c (opV n))
  | 2 => some (.vfnma c (opV n))
  | _ => none

/-- Decoding within the reductions. -/
def decode34 (c : CoreId) (n : Nat) : Option Instr :=
  match n % 16 with
  | 0 => some (.vredsum c (opV n))
  | 1 => some (.vredmax c (opV n))
  | 2 => some (.vredmin c (opV n))
  | 3 => some (.vfredsum c (opV n))
  | 4 => some (.vfredmax c (opV n))
  | 5 => some (.vfredmin c (opV n))
  | 6 => some (.vfdot c (opV n))
  | 7 => some (.vsad c (opV n))
  | 8 => some (.vsadf c (opV n))
  | _ => none

/-- Decoding within the vector moves and masks. -/
def decode35 (c : CoreId) (n : Nat) : Option Instr :=
  match n % 16 with
  | 0 => some (.vsetvl c (opV n))
  | 1 => some (.vmv c (opV n))
  | 2 => some (.vsplat c (opV n))
  | 3 => some (.vceq c (opV n))
  | 4 => some (.vclt c (opV n))
  | 5 => some (.vcltu c (opV n))
  | 6 => some (.vmand c (opV n))
  | 7 => some (.vmor c (opV n))
  | 8 => some (.vmxor c (opV n))
  | 9 => some (.vmandn c (opV n))
  | 10 => some (.vmpop c (opV n))
  | 11 => some (.vmfirst c (opV n))
  | _ => none

/-- Decoding within the vector conversions. -/
def decode36 (c : CoreId) (n : Nat) : Option Instr :=
  match n % 16 with
  | 0 => some (.vcvtfw c (opV n))
  | 1 => some (.vcvtwf c (opV n))
  | 2 => some (.vcvtwfs c (opV n))
  | 3 => some (.vcvtif c (opV n))
  | 4 => some (.vcvtfi c (opV n))
  | 5 => some (.vcvtb c (opV n))
  | 6 => some (.vcvtbf c (opV n))
  | 7 => some (.vrand c (opV n))
  | 8 => some (.vrseed c (opV n))
  | _ => none

/-- Decoding within TMMA and TMMA4. -/
def decode38 (c : CoreId) (n : Nat) : Option Instr :=
  match n / 2 ^ 25 % 2 with
  | 0 => some (.tmma c (opMma n))
  | 1 => some (.tmma4 c (opMma n))
  | _ => none

/-- Decoding within TLD and TST. -/
def decode39 (c : CoreId) (n : Nat) : Option Instr :=
  match n / 2 ^ 25 % 2 with
  | 0 => some (.tld c (opMov n))
  | 1 => some (.tst c (opMov n))
  | _ => none

/-- Decoding within the other tile instructions. -/
def decode3A (c : CoreId) (n : Nat) : Option Instr :=
  match n / 2 ^ 22 % 16 with
  | 0 => some (.tzero c (opTz n))
  | 1 => some (.tfree c (opTf n))
  | 2 => some (.tgetv c (opTv n))
  | 3 => some (.tputv c (opTv n))
  | _ => none

/-- The instruction a word spells on a core; none for a reserved opcode or function code, which raises ILLEGAL (R28). A vector
instruction decodes with no cut: where it is cut is the outside's choice and no part of its word. -/
def decodeCore (c : CoreId) (w : IWord) : Option Instr :=
  let n := w.toNat
  match n / 2 ^ 26 with
  | 0 => decode00 c n
  | 1 => some (.addi c (opI n))
  | 2 => some (.andi c (opI n))
  | 3 => some (.ori c (opI n))
  | 4 => some (.xori c (opI n))
  | 5 => some (.slti c (opI n))
  | 6 => decode06 c n
  | 7 => some (.lui c (opI n))
  | 8 => some (.lb c (opI n))
  | 9 => some (.lh c (opI n))
  | 10 => some (.lw c (opI n))
  | 11 => some (.ld c (opI n))
  | 12 => some (.lbu c (opI n))
  | 13 => some (.lhu c (opI n))
  | 14 => some (.lwu c (opI n))
  | 16 => some (.sb c (opS n))
  | 17 => some (.sh c (opS n))
  | 18 => some (.sw c (opS n))
  | 19 => some (.sd c (opS n))
  | 20 => some (.beq c (opB n))
  | 21 => some (.bne c (opB n))
  | 22 => some (.blt c (opB n))
  | 23 => some (.bge c (opB n))
  | 24 => some (.bltu c (opB n))
  | 25 => some (.bgeu c (opB n))
  | 26 => some (.jal c (opJ n))
  | 27 => some (.jalr c (opI n))
  | 28 => decode1C c n
  | 29 => decode1D c n
  | 30 => decode1E c n
  | 32 => decode20 c n
  | 33 => decode21 c n
  | 34 => decode22 c n
  | 35 => decode23 c n
  | 48 => decode30 c n
  | 49 => decode31 c n
  | 50 => decode32 c n
  | 51 => decode33 c n
  | 52 => decode34 c n
  | 53 => decode35 c n
  | 54 => decode36 c n
  | 56 => decode38 c n
  | 57 => decode39 c n
  | 58 => decode3A c n
  | 60 => some (.vmom c (opU n))
  | 61 => some (.vbias c (opU n))
  | 62 => some (.vsign c (opU n))
  | 63 => some (.vsrnd c (opU n))
  | _ => none

/-! ### Encoding -/

/-- The core and the word of a command that is an instruction of a core. -/
def wordOf : Instr → Option (CoreId × IWord)
  | .add c o => some (c, encR 0x00 0x0 o)
  | .sub c o => some (c, encR 0x00 0x1 o)
  | .and c o => some (c, encR 0x00 0x2 o)
  | .or c o => some (c, encR 0x00 0x3 o)
  | .xor c o => some (c, encR 0x00 0x4 o)
  | .sll c o => some (c, encR 0x00 0x5 o)
  | .srl c o => some (c, encR 0x00 0x6 o)
  | .sra c o => some (c, encR 0x00 0x7 o)
  | .slt c o => some (c, encR 0x00 0x8 o)
  | .sltu c o => some (c, encR 0x00 0x9 o)
  | .mul c o => some (c, encR 0x00 0xa o)
  | .mulh c o => some (c, encR 0x00 0xb o)
  | .mulhu c o => some (c, encR 0x00 0xc o)
  | .div c o => some (c, encR 0x00 0xd o)
  | .divu c o => some (c, encR 0x00 0xe o)
  | .rem c o => some (c, encR 0x00 0xf o)
  | .remu c o => some (c, encR 0x00 0x10 o)
  | .addi c o => some (c, encI 0x1 o)
  | .andi c o => some (c, encI 0x2 o)
  | .ori c o => some (c, encI 0x3 o)
  | .xori c o => some (c, encI 0x4 o)
  | .slti c o => some (c, encI 0x5 o)
  | .slli c o => some (c, encSh 0 o)
  | .srli c o => some (c, encSh 1 o)
  | .srai c o => some (c, encSh 2 o)
  | .lui c o => some (c, encI 0x07 o)
  | .lb c o => some (c, encI 0x8 o)
  | .lh c o => some (c, encI 0x9 o)
  | .lw c o => some (c, encI 0xa o)
  | .ld c o => some (c, encI 0xb o)
  | .lbu c o => some (c, encI 0xc o)
  | .lhu c o => some (c, encI 0xd o)
  | .lwu c o => some (c, encI 0xe o)
  | .sb c o => some (c, encS 0x10 o)
  | .sh c o => some (c, encS 0x11 o)
  | .sw c o => some (c, encS 0x12 o)
  | .sd c o => some (c, encS 0x13 o)
  | .beq c o => some (c, encB 0x14 o)
  | .bne c o => some (c, encB 0x15 o)
  | .blt c o => some (c, encB 0x16 o)
  | .bge c o => some (c, encB 0x17 o)
  | .bltu c o => some (c, encB 0x18 o)
  | .bgeu c o => some (c, encB 0x19 o)
  | .jal c o => some (c, encJ 0x1A o)
  | .jalr c o => some (c, encI 0x1B o)
  | .fadd c o => some (c, encF 0 o)
  | .fsub c o => some (c, encF 1 o)
  | .fmul c o => some (c, encF 2 o)
  | .fdiv c o => some (c, encF 3 o)
  | .fsqrt c o => some (c, encF 4 o)
  | .fmadd c o => some (c, encF 5 o)
  | .feq c o => some (c, encF 6 o)
  | .flt c o => some (c, encF 7 o)
  | .fle c o => some (c, encF 8 o)
  | .fcvtff c o => some (c, encF 9 o)
  | .fcvtfh c o => some (c, encF 10 o)
  | .fcvthf c o => some (c, encF 11 o)
  | .fcvtif c o => some (c, encF 12 o)
  | .fcvtuf c o => some (c, encF 13 o)
  | .fcvtfi c o => some (c, encF 14 o)
  | .fcvtfu c o => some (c, encF 15 o)
  | .fmvxf c o => some (c, encF 16 o)
  | .fmvfx c o => some (c, encF 17 o)
  | .fstatr c o => some (c, encF 30 o)
  | .fstatw c o => some (c, encF 31 o)
  | .flw c o => some (c, encFI 0 o)
  | .fld c o => some (c, encFI 1 o)
  | .fsw c o => some (c, encFS 0 o)
  | .fsd c o => some (c, encFS 1 o)
  | .lcall c o => some (c, encCode 0x001 o)
  | .brk c o => some (c, encCode 0x002 o)
  | .qwin c o => some (c, encR 0x20 0x3 o)
  | .wfi c o => some (c, encR 0x20 0x4 o)
  | .rfe c o => some (c, encR 0x20 0x10 o)
  | .fseal c o => some (c, encR 0x20 0x11 o)
  | .taskj c o => some (c, encR 0x20 0x12 o)
  | .canreq c o => some (c, encR 0x20 0x13 o)
  | .cstop c o => some (c, encR 0x20 0x14 o)
  | .tmma c o => some (c, encMma 0 o)
  | .tmma4 c o => some (c, encMma 1 o)
  | .tld c o => some (c, encMov 0 o)
  | .tst c o => some (c, encMov 1 o)
  | .tzero c o => some (c, encTz o)
  | .tfree c o => some (c, encTf o)
  | .tgetv c o => some (c, encTv 2 o)
  | .tputv c o => some (c, encTv 3 o)
  | .vld c o => some (c, encM 0 o)
  | .vldff c o => some (c, encM 1 o)
  | .vldw c o => some (c, encM 2 o)
  | .vst c o => some (c, encM 3 o)
  | .vstn c o => some (c, encM 4 o)
  | .vstns c o => some (c, encM 5 o)
  | .vadd c o => some (c, encV 0x31 0 o)
  | .vsub c o => some (c, encV 0x31 1 o)
  | .vmul c o => some (c, encV 0x31 2 o)
  | .vmulhu c o => some (c, encV 0x31 3 o)
  | .vand c o => some (c, encV 0x31 4 o)
  | .vor c o => some (c, encV 0x31 5 o)
  | .vxor c o => some (c, encV 0x31 6 o)
  | .vsll c o => some (c, encV 0x31 7 o)
  | .vsrl c o => some (c, encV 0x31 8 o)
  | .vsra c o => some (c, encV 0x31 9 o)
  | .vmin c o => some (c, encV 0x31 10 o)
  | .vmax c o => some (c, encV 0x31 11 o)
  | .vminu c o => some (c, encV 0x31 12 o)
  | .vmaxu c o => some (c, encV 0x31 13 o)
  | .vabsdu c o => some (c, encV 0x31 14 o)
  | .vfadd c o => some (c, encV 0x32 0 o)
  | .vfsub c o => some (c, encV 0x32 1 o)
  | .vfmul c o => some (c, encV 0x32 2 o)
  | .vfdiv c o => some (c, encV 0x32 3 o)
  | .vfsqrt c o => some (c, encV 0x32 4 o)
  | .vfmax c o => some (c, encV 0x32 5 o)
  | .vfmin c o => some (c, encV 0x32 6 o)
  | .vfabs c o => some (c, encV 0x32 7 o)
  | .vfneg c o => some (c, encV 0x32 8 o)
  | .vfexp c o => some (c, encV 0x32 9 o)
  | .vflog c o => some (c, encV 0x32 10 o)
  | .vfrsqrt c o => some (c, encV 0x32 11 o)
  | .vfrecip c o => some (c, encV 0x32 12 o)
  | .vfceq c o => some (c, encV 0x32 13 o)
  | .vfclt c o => some (c, encV 0x32 14 o)
  | .vfcle c o => some (c, encV 0x32 15 o)
  | .vfma c o => some (c, encV 0x33 0 o)
  | .vfms c o => some (c, encV 0x33 1 o)
  | .vfnma c o => some (c, encV 0x33 2 o)
  | .vredsum c o => some (c, encV 0x34 0 o)
  | .vredmax c o => some (c, encV 0x34 1 o)
  | .vredmin c o => some (c, encV 0x34 2 o)
  | .vfredsum c o => some (c, encV 0x34 3 o)
  | .vfredmax c o => some (c, encV 0x34 4 o)
  | .vfredmin c o => some (c, encV 0x34 5 o)
  | .vfdot c o => some (c, encV 0x34 6 o)
  | .vsad c o => some (c, encV 0x34 7 o)
  | .vsadf c o => some (c, encV 0x34 8 o)
  | .vsetvl c o => some (c, encV 0x35 0 o)
  | .vmv c o => some (c, encV 0x35 1 o)
  | .vsplat c o => some (c, encV 0x35 2 o)
  | .vceq c o => some (c, encV 0x35 3 o)
  | .vclt c o => some (c, encV 0x35 4 o)
  | .vcltu c o => some (c, encV 0x35 5 o)
  | .vmand c o => some (c, encV 0x35 6 o)
  | .vmor c o => some (c, encV 0x35 7 o)
  | .vmxor c o => some (c, encV 0x35 8 o)
  | .vmandn c o => some (c, encV 0x35 9 o)
  | .vmpop c o => some (c, encV 0x35 10 o)
  | .vmfirst c o => some (c, encV 0x35 11 o)
  | .vcvtfw c o => some (c, encV 0x36 0 o)
  | .vcvtwf c o => some (c, encV 0x36 1 o)
  | .vcvtwfs c o => some (c, encV 0x36 2 o)
  | .vcvtif c o => some (c, encV 0x36 3 o)
  | .vcvtfi c o => some (c, encV 0x36 4 o)
  | .vcvtb c o => some (c, encV 0x36 5 o)
  | .vcvtbf c o => some (c, encV 0x36 6 o)
  | .vrand c o => some (c, encV 0x36 7 o)
  | .vrseed c o => some (c, encV 0x36 8 o)
  | .vmom c o => some (c, encU 0x3c o)
  | .vbias c o => some (c, encU 0x3d o)
  | .vsign c o => some (c, encU 0x3e o)
  | .vsrnd c o => some (c, encU 0x3f o)
  | .fence c o => some (c, encFence o)
  | .fenceG c o => some (c, encR 0x21 0x010 o)
  | .amoadd c o => some (c, encAmo 0x0 o)
  | .amoswap c o => some (c, encAmo 0x1 o)
  | .amoand c o => some (c, encAmo 0x2 o)
  | .amoor c o => some (c, encAmo 0x3 o)
  | .amoxor c o => some (c, encAmo 0x4 o)
  | .amomax c o => some (c, encAmo 0x5 o)
  | .amomin c o => some (c, encAmo 0x6 o)
  | .amomaxu c o => some (c, encAmo 0x7 o)
  | .amominu c o => some (c, encAmo 0x8 o)
  | .amocas c o => some (c, encAmo 0x9 o)
  | .rget c o => some (c, encRem 0 o)
  | .rput c o => some (c, encRem 1 o)
  | .ratom c o => some (c, encRem 2 o)
  | .rexsum c o => some (c, encRem 3 o)
  | .rexsumsq c o => some (c, encRem 4 o)
  | .rservice c o => some (c, encRem 5 o)
  | .bsig c o => some (c, encBlz 0 o)
  | .bwait c o => some (c, encBlz 1 o)
  | _ => none

/-- A command without the choice of where it is cut. -/
def uncut : Instr → Instr
  | .tld c o => .tld c { o with cut := none }
  | .tst c o => .tst c { o with cut := none }
  | .tzero c o => .tzero c { o with cut := false }
  | .tgetv c o => .tgetv c { o with cut := false }
  | .tputv c o => .tputv c { o with cut := false }
  | .vld c o => .vld c { o with cut := none }
  | .vldff c o => .vldff c { o with cut := none }
  | .vldw c o => .vldw c { o with cut := none }
  | .vst c o => .vst c { o with cut := none }
  | .vstn c o => .vstn c { o with cut := none }
  | .vstns c o => .vstns c { o with cut := none }
  | .vadd c o => .vadd c { o with cut := none }
  | .vsub c o => .vsub c { o with cut := none }
  | .vmul c o => .vmul c { o with cut := none }
  | .vmulhu c o => .vmulhu c { o with cut := none }
  | .vand c o => .vand c { o with cut := none }
  | .vor c o => .vor c { o with cut := none }
  | .vxor c o => .vxor c { o with cut := none }
  | .vsll c o => .vsll c { o with cut := none }
  | .vsrl c o => .vsrl c { o with cut := none }
  | .vsra c o => .vsra c { o with cut := none }
  | .vmin c o => .vmin c { o with cut := none }
  | .vmax c o => .vmax c { o with cut := none }
  | .vminu c o => .vminu c { o with cut := none }
  | .vmaxu c o => .vmaxu c { o with cut := none }
  | .vabsdu c o => .vabsdu c { o with cut := none }
  | .vfadd c o => .vfadd c { o with cut := none }
  | .vfsub c o => .vfsub c { o with cut := none }
  | .vfmul c o => .vfmul c { o with cut := none }
  | .vfdiv c o => .vfdiv c { o with cut := none }
  | .vfsqrt c o => .vfsqrt c { o with cut := none }
  | .vfmax c o => .vfmax c { o with cut := none }
  | .vfmin c o => .vfmin c { o with cut := none }
  | .vfabs c o => .vfabs c { o with cut := none }
  | .vfneg c o => .vfneg c { o with cut := none }
  | .vfexp c o => .vfexp c { o with cut := none }
  | .vflog c o => .vflog c { o with cut := none }
  | .vfrsqrt c o => .vfrsqrt c { o with cut := none }
  | .vfrecip c o => .vfrecip c { o with cut := none }
  | .vfceq c o => .vfceq c { o with cut := none }
  | .vfclt c o => .vfclt c { o with cut := none }
  | .vfcle c o => .vfcle c { o with cut := none }
  | .vfma c o => .vfma c { o with cut := none }
  | .vfms c o => .vfms c { o with cut := none }
  | .vfnma c o => .vfnma c { o with cut := none }
  | .vredsum c o => .vredsum c { o with cut := none }
  | .vredmax c o => .vredmax c { o with cut := none }
  | .vredmin c o => .vredmin c { o with cut := none }
  | .vfredsum c o => .vfredsum c { o with cut := none }
  | .vfredmax c o => .vfredmax c { o with cut := none }
  | .vfredmin c o => .vfredmin c { o with cut := none }
  | .vfdot c o => .vfdot c { o with cut := none }
  | .vsad c o => .vsad c { o with cut := none }
  | .vsadf c o => .vsadf c { o with cut := none }
  | .vsetvl c o => .vsetvl c { o with cut := none }
  | .vmv c o => .vmv c { o with cut := none }
  | .vsplat c o => .vsplat c { o with cut := none }
  | .vceq c o => .vceq c { o with cut := none }
  | .vclt c o => .vclt c { o with cut := none }
  | .vcltu c o => .vcltu c { o with cut := none }
  | .vmand c o => .vmand c { o with cut := none }
  | .vmor c o => .vmor c { o with cut := none }
  | .vmxor c o => .vmxor c { o with cut := none }
  | .vmandn c o => .vmandn c { o with cut := none }
  | .vmpop c o => .vmpop c { o with cut := none }
  | .vmfirst c o => .vmfirst c { o with cut := none }
  | .vcvtfw c o => .vcvtfw c { o with cut := none }
  | .vcvtwf c o => .vcvtwf c { o with cut := none }
  | .vcvtwfs c o => .vcvtwfs c { o with cut := none }
  | .vcvtif c o => .vcvtif c { o with cut := none }
  | .vcvtfi c o => .vcvtfi c { o with cut := none }
  | .vcvtb c o => .vcvtb c { o with cut := none }
  | .vcvtbf c o => .vcvtbf c { o with cut := none }
  | .vrand c o => .vrand c { o with cut := none }
  | .vrseed c o => .vrseed c { o with cut := none }
  | .vmom c o => .vmom c { o with cut := none }
  | .vbias c o => .vbias c { o with cut := none }
  | .vsign c o => .vsign c { o with cut := none }
  | .vsrnd c o => .vsrnd c { o with cut := none }
  | i => i

end Sys2Proof
end

