-- ==== Sys2Proof/Config.lean ====
section
/-! DEFINITION. The values the spec leaves open: constants without a body, of which no proof can see a value. -/
namespace Sys2Proof

/-- Free values, indexed by a counter that the state holds and each use advances (assumption 2). -/
opaque Config.free : Nat → Nat

/-- What a byte of a core array reads as before anything has written it (assumption 3): epoch, physical core, offset. -/
opaque Config.arrayByte : Nat → Nat → Nat → Byte

/-- What a byte of the sapwood pool's own address range reads as (R212, assumption 13): the free-value counter, address. -/
opaque Config.poolByte : Nat → Nat → Byte

/-- Entropy drawn by the Warden for the lane generators: draw number, logical core, lane (assumption 4). -/
opaque Config.laneSeed : Nat → Nat → Nat → Word

/-- The frame seal key drawn for a core (R35): draw number, logical core (assumption 4). -/
opaque Config.sealKey : Nat → Nat → BitVec 128

/-- The seal function (R34, R35): key and frame bytes 8 to 255 give the check word (assumption 6). -/
opaque Config.seal : BitVec 128 → List Byte → Word

/-- Whether scalar underflow judges tininess after rounding, which IEEE 754-2019 leaves to the implementation (assumption 7). -/
opaque Config.tinyAfter : Bool

/-- Whether a scalar fused multiply-add of 0, infinity and a quiet not-a-number signals invalid (assumption 7). -/
opaque Config.fmaZeroInfNan : Bool

/-- Whether a scalar conversion to an integer signals inexact (assumption 7). -/
opaque Config.toIntInexact : Bool

/-- The ordering class of mirror copies, which R328 does not name (assumption 14). -/
opaque Config.mirrorClass : Fin 4

/-- Which way a charge that is no multiple of 1/16 W is rounded (R347, assumption 15): class power times the clock's square. -/
opaque Config.chargeUp : Nat → Bool

/-- Which way a register shows a quantity that is no multiple of its unit (assumption 15): the quantity, the units in one. -/
opaque Config.showUp : Nat → Nat → Bool

/-- The fused RTH_q of a quadrant, in K/W (R350, assumption 16). -/
opaque Config.rth : Nat → Rat

/-- The fused TAU_q of a quadrant, in µs (R350, assumption 16). -/
opaque Config.tau : Nat → Rat

/-- What a register shows of a quantity outside its field (assumption 15). -/
opaque Config.showOut : Int → Nat

/-- The fused baseline voltage of a physical core at a clock in 100 MHz steps, in mV (R383, assumption 16). -/
opaque Config.vb : Nat → Nat → Nat

/-- The fused baseline voltage of VDD_SRAM, in mV (R383, assumption 16). -/
opaque Config.vbSram : Nat

/-- The fused baseline reading of a monitor of a physical core (R383, assumption 16). -/
opaque Config.base : Nat → Nat → Nat

/-- The fused sensitivity of a monitor of a physical core: σ in 0.25 ps per mV, or κ in mV per 1 % (R383, assumption 16). -/
opaque Config.sens : Nat → Nat → Rat

/-- HKEY0 to HKEY2: SHA-256 of the moduli of the signing keys (Table 15.1, assumption 5). -/
opaque Config.hkey : Nat → List Byte

/-- The revocation bits of HKEY0 to HKEY2 (Table 15.1, assumption 5). -/
opaque Config.hkeyRevoked : Nat → Bool

/-- The die identity, DIEID (Table 15.1, assumption 5). -/
opaque Config.dieid : Word

/-- The bytes of vector 0 that the Warden writes in boot step 6, eight instructions that jump to ENTRY (R394, assumption 18): entry,
core, byte. -/
opaque Config.bootStub : Nat → Nat → Nat → Byte

/-- Where a mailbox command finds an argument whose place in ARGS the spec does not give (Table 15.6, assumption 19): the command,
the argument, the bytes of ARGS. -/
opaque Config.mboxArg : Nat → Nat → List Byte → Nat

/-- A byte of a mailbox command's output whose layout the spec does not give (Table 15.6, assumption 19): the command, the values it
is made of, the byte. -/
opaque Config.mboxByte : Nat → List Nat → Nat → Byte

/-- The bytes of such an output, where the spec does not give their number (assumption 19). -/
opaque Config.mboxLen : Nat → List Nat → Nat

/-- A byte of the RSASSA-PSS signature of 256 bytes with the device key (R407, assumption 5). -/
opaque Config.deviceSign : List Byte → Nat → Byte

/-- A byte of a DER certificate, 0 the device's and 1 the intermediate's, and their lengths (R408, assumption 5). -/
opaque Config.certByte : Nat → Nat → Byte
opaque Config.certLen : Nat → Nat

/-- What a tile holds after a tile load into it has been cut short (R44, assumption 22): the free-value counter, a row; then for the
scale bytes. -/
opaque Config.cutTile : Nat → Nat → BitVec 2048
opaque Config.cutScale : Nat → Nat → BitVec 128

/-- A byte of the units of a control flit, whose records the spec does not lay out (R313, R336, assumption 109): the device number, the
physical port number, the byte. -/
opaque Config.joinByte : Nat → Nat → Nat → Byte

end Sys2Proof
end

