-- ==== Sys2Proof/Machine/Float.lean ====
section
/-! DEFINITION. Floating formats, exact values and rounding: the scalar operations of R25, R26 and R451 and the engine
operations of R56 to R68. -/
namespace Sys2Proof.Machine

/-- A binary interchange format: its exponent and fraction widths (Table 3.1). -/
structure Fmt where
  eb : Nat
  fb : Nat
  deriving DecidableEq, Repr

/-- FP32, binary32. -/
def f32 : Fmt := ⟨8, 23⟩
/-- BF16, bits [31:16] of binary32. -/
def bf16 : Fmt := ⟨8, 7⟩
/-- FP16, binary16. -/
def f16 : Fmt := ⟨5, 10⟩
/-- binary64, of the scalar operations only. -/
def f64 : Fmt := ⟨11, 52⟩

/-- The exponent bias. -/
def Fmt.bias (f : Fmt) : Nat := 2 ^ (f.eb - 1) - 1
/-- The exponent of the smallest normal value. -/
def Fmt.emin (f : Fmt) : Int := 1 - (f.bias : Int)
/-- The width of an encoding. -/
def Fmt.width (f : Fmt) : Nat := 1 + f.eb + f.fb
/-- The sign bit as a number. -/
def Fmt.signBit (f : Fmt) (neg : Bool) : Nat := if neg then 2 ^ (f.eb + f.fb) else 0
/-- An infinity of the given sign. -/
def Fmt.inf (f : Fmt) (neg : Bool) : Nat := f.signBit neg + (2 ^ f.eb - 1) * 2 ^ f.fb
/-- The largest finite value of the given sign. -/
def Fmt.maxFin (f : Fmt) (neg : Bool) : Nat := f.inf neg - 1
/-- The canonical not-a-number (R26, Table 3.1). -/
def Fmt.nan (f : Fmt) : Nat := f.inf false + 2 ^ (f.fb - 1)
/-- A zero of the given sign. -/
def Fmt.zero (f : Fmt) (neg : Bool) : Nat := f.signBit neg

/-- A decoded floating operand: a finite value is `(−1)^neg × m × 2^e`. -/
inductive FV where
  | nan (signalling : Bool)
  | inf (neg : Bool)
  | fin (neg : Bool) (m : Nat) (e : Int)
  deriving DecidableEq, Repr

/-- The operand an encoding stands for (R56). -/
def unpack (f : Fmt) (w : Nat) : FV :=
  let neg := bitOf w (f.eb + f.fb)
  let ex := bitsOf w (f.eb + f.fb - 1) f.fb
  let fr := w % 2 ^ f.fb
  if ex = 2 ^ f.eb - 1 then
    if fr = 0 then .inf neg else .nan (!bitOf fr (f.fb - 1))
  else if ex = 0 then .fin neg fr (f.emin - f.fb)
  else .fin neg (2 ^ f.fb + fr) ((ex : Int) - f.bias - f.fb)

/-- Whether an encoding is a nonzero subnormal. -/
def isSubnormal (f : Fmt) (w : Nat) : Bool :=
  bitsOf w (f.eb + f.fb - 1) f.fb == 0 && w % 2 ^ f.fb != 0

/-- The sign of an encoding. -/
def signOf (f : Fmt) (w : Nat) : Bool := bitOf w (f.eb + f.fb)

/-- Whether an encoding is a not-a-number. -/
def isNan (f : Fmt) (w : Nat) : Bool :=
  match unpack f w with
  | .nan _ => true
  | _ => false

/-- Flags an operation raises, and what it counts for one element (R77, R78). -/
structure Fl where
  nv : Bool := false
  dz : Bool := false
  ov : Bool := false
  uf : Bool := false
  nx : Bool := false
  fz : Bool := false
  sat : Bool := false
  flush : Bool := false
  deriving DecidableEq, Repr

/-- The flags of either of two operations. -/
def Fl.or (a b : Fl) : Fl :=
  ⟨a.nv || b.nv, a.dz || b.dz, a.ov || b.ov, a.uf || b.uf, a.nx || b.nx, a.fz || b.fz, a.sat || b.sat,
    a.flush || b.flush⟩

/-- The flags of a list of operations. -/
def Fl.all (l : List Fl) : Fl := l.foldl Fl.or {}

/-- The flags of an operation whose result is only an intermediate that a definition rounds: underflow is a result's alone, and a tiny one
that is flushed sets FZ and neither UF nor NX (R67; DEDUCED, assumption 98). -/
def Fl.inner (f : Fl) : Fl := { f with uf := false, nx := f.nx && !f.flush }

/-- An encoding and the flags that come with it. -/
abbrev FRes := Nat × Fl

/-- A rounding direction (CORE_FSTAT.RM). -/
inductive RM where
  | rne | rtz | rdn | rup
  deriving DecidableEq, Repr

/-- The direction CORE_FSTAT.RM selects. -/
def rmOf (n : Nat) : RM := if n = 0 then .rne else if n = 1 then .rtz else if n = 2 then .rdn else .rup

/-- A nonzero exact value: `(−1)^neg × (m + δ) × 2^e`, where `0 < δ < 1` if `sticky` and `δ = 0` otherwise. -/
structure Exact where
  neg : Bool
  m : Nat
  e : Int
  sticky : Bool := false
  deriving DecidableEq, Repr

/-- The exponent of an exact value: the power of two of its leading bit. -/
def Exact.exp (x : Exact) : Int := x.e + (Nat.log2 x.m : Int)

/-- The exact value with its significand lengthened so that at least `k` bits stand below its leading bit. -/
def Exact.widen (x : Exact) (k : Nat) : Exact := { x with m := x.m * 2 ^ k, e := x.e - k }

/-- Whether a magnitude is rounded up, from its kept part, the doubled remainder compared with the unit. -/
def roundsUp (rm : RM) (neg odd : Bool) (cmp : Ordering) (inexact : Bool) : Bool :=
  match rm with
  | .rne => cmp == .gt || (cmp == .eq && odd)
  | .rtz => false
  | .rdn => inexact && neg
  | .rup => inexact && !neg

/-- The significand of a magnitude at the unit `2^q`, rounded, and whether that was inexact. -/
def roundAt (rm : RM) (x : Exact) (q : Int) : Nat × Bool :=
  if q ≤ x.e then (x.m * 2 ^ (x.e - q).toNat, x.sticky)
  else
    let sh := (q - x.e).toNat
    let kept := x.m / 2 ^ sh
    let rem := x.m % 2 ^ sh
    let inexact := rem != 0 || x.sticky
    let cmp := match compare (2 * rem) (2 ^ sh) with
      | .eq => if x.sticky then .gt else .eq
      | o => o
    (if roundsUp rm x.neg (kept % 2 == 1) cmp inexact then kept + 1 else kept, inexact)

/-- The encoding, without sign, of a significand at the unit `2^(E - fb)` with `E ≥ emin`. -/
def encodeAt (f : Fmt) (mant : Nat) (ex : Int) : Nat :=
  if mant < 2 ^ f.fb then mant else (ex + f.bias).toNat * 2 ^ f.fb + (mant - 2 ^ f.fb)

/-- A rounding of an exact nonzero value to a format, with what R66 and R67 need to know of it. -/
structure Rounded where
  mag : Nat
  inexact : Bool
  ovf : Bool
  tiny : Bool
  tinyAfter : Bool
  deriving DecidableEq, Repr

/-- Rounding of an exact nonzero value into a format, the subnormal range included; `ovf` says that the rounded
magnitude, its exponent unbounded above, exceeds the largest finite value (R66). -/
def roundMag (f : Fmt) (rm : RM) (x : Exact) : Rounded :=
  let x := x.widen (f.fb + 3)
  let ex := x.exp
  let exq := if ex < f.emin then f.emin else ex
  let (mant, inexact) := roundAt rm x (exq - f.fb)
  let mag := encodeAt f mant exq
  let (mantU, _) := roundAt rm x (ex - f.fb)
  { mag := mag, inexact := inexact, ovf := decide (f.inf false ≤ mag), tiny := decide (ex < f.emin),
    tinyAfter := decide (ex < f.emin) && !(decide (ex = f.emin - 1) && decide (mantU = 2 ^ (f.fb + 1))) }

/-! ### The scalar operations (R25, R26, R451) -/

/-- What an overflowing scalar result becomes under a rounding direction (IEEE 754-2019). -/
def scalarOver (f : Fmt) (rm : RM) (neg : Bool) : Nat :=
  match rm with
  | .rne => f.inf neg
  | .rtz => f.maxFin neg
  | .rdn => if neg then f.inf true else f.maxFin false
  | .rup => if neg then f.maxFin true else f.inf false

/-- A scalar result rounded from an exact nonzero value; subnormals are kept. -/
def scalarRound (f : Fmt) (rm : RM) (x : Exact) : FRes :=
  let r := roundMag f rm x
  if r.ovf then (scalarOver f rm x.neg, { ov := true, nx := true })
  else (f.signBit x.neg + r.mag,
    { nx := r.inexact, uf := r.inexact && (if Config.tinyAfter then r.tinyAfter else r.tiny) })

/-- The canonical quiet not-a-number with NV set for a signalling operand. -/
def scalarNan (f : Fmt) (ops : List FV) : FRes :=
  (f.nan, { nv := ops.any fun v => match v with | .nan s => s | _ => false })

/-- The exact sum of two finite values; `none` where it is zero. -/
def exactAdd (n1 : Bool) (m1 : Nat) (e1 : Int) (n2 : Bool) (m2 : Nat) (e2 : Int) : Option Exact :=
  let e := if e1 ≤ e2 then e1 else e2
  let a : Int := (m1 * 2 ^ (e1 - e).toNat : Nat)
  let b : Int := (m2 * 2 ^ (e2 - e).toNat : Nat)
  let s := (if n1 then -a else a) + (if n2 then -b else b)
  if s = 0 then none else some { neg := decide (s < 0), m := s.natAbs, e := e }

/-- The exact quotient of two nonzero finite values, to at least 70 bits with a sticky remainder. -/
def exactDiv (neg : Bool) (m1 : Nat) (e1 : Int) (m2 : Nat) (e2 : Int) : Exact :=
  let k := Nat.log2 m2 + 70
  let n := m1 * 2 ^ k
  { neg := neg, m := n / m2, e := e1 - e2 - k, sticky := n % m2 != 0 }

/-- The integer square root, one result bit a step: `r` holds the root found so far. -/
def isqrtLoop : Nat → Nat → Nat → Nat
  | 0, _, r => r
  | k + 1, n, r => if (r + 2 ^ k) * (r + 2 ^ k) ≤ n then isqrtLoop k n (r + 2 ^ k) else isqrtLoop k n r

/-- The largest number whose square is at most `n`. -/
def isqrt (n : Nat) : Nat := isqrtLoop (Nat.log2 n / 2 + 1) n 0

/-- The exact square root of a positive finite value, to at least 64 bits with a sticky remainder. -/
def exactSqrt (m : Nat) (e : Int) : Exact :=
  let odd := (e % 2).toNat
  let n := m * 2 ^ (odd + 140)
  let r := isqrt n
  { neg := false, m := r, e := (e - odd - 140) / 2, sticky := r * r != n }

/-- Scalar addition. -/
def scalarAdd (f : Fmt) (rm : RM) (a b : Nat) : FRes :=
  match unpack f a, unpack f b with
  | .nan s, y => scalarNan f [.nan s, y]
  | x, .nan s => scalarNan f [x, .nan s]
  | .inf n, .inf n' => if n = n' then (f.inf n, {}) else (f.nan, { nv := true })
  | .inf n, .fin .. => (f.inf n, {})
  | .fin .., .inf n => (f.inf n, {})
  | .fin n1 m1 e1, .fin n2 m2 e2 =>
    match exactAdd n1 m1 e1 n2 m2 e2 with
    | some x => scalarRound f rm x
    | none => (f.zero (if m1 = 0 ∧ m2 = 0 ∧ n1 = n2 then n1 else rm = .rdn), {})

/-- An encoding with its sign changed. -/
def negate (f : Fmt) (a : Nat) : Nat := a ^^^ 2 ^ (f.eb + f.fb)

/-- Scalar multiplication. -/
def scalarMul (f : Fmt) (rm : RM) (a b : Nat) : FRes :=
  match unpack f a, unpack f b with
  | .nan s, y => scalarNan f [.nan s, y]
  | x, .nan s => scalarNan f [x, .nan s]
  | .inf n, .inf n' => (f.inf (n != n'), {})
  | .inf n, .fin n' m _ => if m = 0 then (f.nan, { nv := true }) else (f.inf (n != n'), {})
  | .fin n m _, .inf n' => if m = 0 then (f.nan, { nv := true }) else (f.inf (n != n'), {})
  | .fin n1 m1 e1, .fin n2 m2 e2 =>
    if m1 * m2 = 0 then (f.zero (n1 != n2), {})
    else scalarRound f rm { neg := n1 != n2, m := m1 * m2, e := e1 + e2 }

/-- Scalar division. -/
def scalarDiv (f : Fmt) (rm : RM) (a b : Nat) : FRes :=
  match unpack f a, unpack f b with
  | .nan s, y => scalarNan f [.nan s, y]
  | x, .nan s => scalarNan f [x, .nan s]
  | .inf _, .inf _ => (f.nan, { nv := true })
  | .inf n, .fin n' _ _ => (f.inf (n != n'), {})
  | .fin n _ _, .inf n' => (f.zero (n != n'), {})
  | .fin n1 m1 e1, .fin n2 m2 e2 =>
    if m2 = 0 then
      if m1 = 0 then (f.nan, { nv := true }) else (f.inf (n1 != n2), { dz := true })
    else if m1 = 0 then (f.zero (n1 != n2), {})
    else scalarRound f rm (exactDiv (n1 != n2) m1 e1 m2 e2)

/-- Scalar square root. -/
def scalarSqrt (f : Fmt) (rm : RM) (a : Nat) : FRes :=
  match unpack f a with
  | .nan s => scalarNan f [.nan s]
  | .inf n => if n then (f.nan, { nv := true }) else (f.inf false, {})
  | .fin n m e =>
    if m = 0 then (f.zero n, {})
    else if n then (f.nan, { nv := true })
    else scalarRound f rm (exactSqrt m e)

/-- Scalar fused multiply-add `c + a × b`, rounded once. -/
def scalarFma (f : Fmt) (rm : RM) (c a b : Nat) : FRes :=
  let x := unpack f a
  let y := unpack f b
  let z := unpack f c
  let zeroInf := match x, y with
    | .inf _, .fin _ m _ => m == 0
    | .fin _ m _, .inf _ => m == 0
    | _, _ => false
  let anyNan := match x, y, z with
    | .nan _, _, _ => true
    | _, .nan _, _ => true
    | _, _, .nan _ => true
    | _, _, _ => false
  if anyNan then
    let (r, fl) := scalarNan f [x, y, z]
    (r, { fl with nv := fl.nv || (zeroInf && Config.fmaZeroInfNan) })
  else if zeroInf then (f.nan, { nv := true })
  else
    let ps := (signOf f a != signOf f b)
    let pinf := match x, y with
      | .inf _, _ => true
      | _, .inf _ => true
      | _, _ => false
    match z with
    | .inf n => if pinf && n != ps then (f.nan, { nv := true }) else (f.inf n, {})
    | .nan _ => (f.nan, {})
    | .fin n3 m3 e3 =>
      if pinf then (f.inf ps, {})
      else match x, y with
        | .fin _ m1 e1, .fin _ m2 e2 =>
          match exactAdd ps (m1 * m2) (e1 + e2) n3 m3 e3 with
          | some v => scalarRound f rm v
          | none => (f.zero (if m1 * m2 = 0 ∧ m3 = 0 ∧ ps = n3 then n3 else rm = .rdn), {})
        | _, _ => (f.nan, {})

/-- The order of two operands, `none` where either is a not-a-number; zeros of both signs are equal. -/
def compareFV (a b : FV) : Option Ordering :=
  match a, b with
  | .nan _, _ => none
  | _, .nan _ => none
  | .inf n, .inf n' => some (if n = n' then .eq else if n then .lt else .gt)
  | .inf n, .fin .. => some (if n then .lt else .gt)
  | .fin .., .inf n => some (if n then .gt else .lt)
  | .fin n1 m1 e1, .fin n2 m2 e2 =>
    match exactAdd n1 m1 e1 (!n2) m2 e2 with
    | none => some .eq
    | some x => some (if x.neg then .lt else .gt)

/-- The value of a finite operand converted to another format, or an infinity or not-a-number carried over (FCVTFF,
FCVTFH, FCVTHF). -/
def scalarConvert (src dst : Fmt) (rm : RM) (a : Nat) : FRes :=
  match unpack src a with
  | .nan s => scalarNan dst [.nan s]
  | .inf n => (dst.inf n, {})
  | .fin n m e => if m = 0 then (dst.zero n, {}) else scalarRound dst rm { neg := n, m := m, e := e }

/-- An integer rounded to a format (FCVTIF, FCVTUF). -/
def scalarFromInt (f : Fmt) (rm : RM) (i : Int) : FRes :=
  if i = 0 then (f.zero false, {}) else scalarRound f rm { neg := decide (i < 0), m := i.natAbs, e := 0 }

/-- A finite value rounded to an integer, and whether that was inexact. -/
def roundToInt (rm : RM) (neg : Bool) (m : Nat) (e : Int) : Int × Bool :=
  let (r, inexact) := roundAt rm { neg := neg, m := m, e := e } 0
  (if neg then -(r : Int) else r, inexact)

/-- A value rounded to an integer and held within `[lo, hi]`; out of range and a not-a-number set NV (FCVTFI, FCVTFU). -/
def scalarToInt (f : Fmt) (rm : RM) (lo hi : Int) (a : Nat) : Int × Fl :=
  match unpack f a with
  | .nan _ => (hi, { nv := true })
  | .inf n => (if n then lo else hi, { nv := true })
  | .fin n m e =>
    let (i, inexact) := roundToInt rm n m e
    if hi < i then (hi, { nv := true }) else if i < lo then (lo, { nv := true })
    else (i, { nx := inexact && Config.toIntInexact })

/-! ### The engine operations (R56 to R68) -/

/-- The modes an engine instruction takes from NUM_MODE when it issues (R55). -/
structure NMode where
  ftz : Bool
  sat : Bool
  scsel : Bool
  deriving DecidableEq, Repr

/-- An operand after flush mode (R67). -/
def flushOp (f : Fmt) (ftz : Bool) (a : Nat) : FRes :=
  if ftz && isSubnormal f a then (f.zero (signOf f a), { fz := true, flush := true }) else (a, {})

/-- An engine result rounded by RNE from an exact nonzero value (R64, R66, R67); `satOk` marks a format conversion. -/
def engRound (f : Fmt) (ftz : Bool) (satOk : Bool) (x : Exact) : FRes :=
  let r := roundMag f .rne x
  if r.ovf then
    (if satOk then f.maxFin x.neg else f.inf x.neg, { ov := true, nx := true, sat := satOk })
  else if r.tiny && ftz then (f.zero x.neg, { fz := true, uf := true, nx := true, flush := true })
  else (f.signBit x.neg + r.mag, { nx := r.inexact, uf := r.inexact && r.tiny })

/-- The canonical not-a-number with NV set (R57). -/
def engNan (f : Fmt) : FRes := (f.nan, { nv := true })

/-- Sum of decoded operands by R57, R58 and one rounding. -/
def engAddV (f : Fmt) (ftz : Bool) (x y : FV) : FRes :=
  match x, y with
  | .nan _, _ => engNan f
  | _, .nan _ => engNan f
  | .inf n, .inf n' => if n = n' then (f.inf n, {}) else engNan f
  | .inf n, .fin .. => (f.inf n, {})
  | .fin .., .inf n => (f.inf n, {})
  | .fin n1 m1 e1, .fin n2 m2 e2 =>
    match exactAdd n1 m1 e1 n2 m2 e2 with
    | some v => engRound f ftz false v
    | none => (f.zero (m1 == 0 && m2 == 0 && n1 && n2), {})

/-- Two operands after flush mode, applied to an operation of their decoded values. -/
def engOp2 (f : Fmt) (ftz : Bool) (op : FV → FV → FRes) (a b : Nat) : FRes :=
  let (a, fa) := flushOp f ftz a
  let (b, fb) := flushOp f ftz b
  let (r, fr) := op (unpack f a) (unpack f b)
  (r, (fa.or fb).or fr)

/-- Engine addition. -/
def engAdd (f : Fmt) (ftz : Bool) (a b : Nat) : FRes := engOp2 f ftz (engAddV f ftz) a b

/-- Engine subtraction. -/
def engSub (f : Fmt) (ftz : Bool) (a b : Nat) : FRes := engAdd f ftz a (negate f b)

/-- Product of decoded operands by R57, R58 and one rounding. -/
def engMulV (f : Fmt) (ftz : Bool) (x y : FV) : FRes :=
  match x, y with
  | .nan _, _ => engNan f
  | _, .nan _ => engNan f
  | .inf n, .inf n' => (f.inf (n != n'), {})
  | .inf n, .fin n' m _ => if m = 0 then engNan f else (f.inf (n != n'), {})
  | .fin n m _, .inf n' => if m = 0 then engNan f else (f.inf (n != n'), {})
  | .fin n1 m1 e1, .fin n2 m2 e2 =>
    if m1 * m2 = 0 then (f.zero (n1 != n2), {})
    else engRound f ftz false { neg := n1 != n2, m := m1 * m2, e := e1 + e2 }

/-- Engine multiplication. -/
def engMul (f : Fmt) (ftz : Bool) (a b : Nat) : FRes := engOp2 f ftz (engMulV f ftz) a b

/-- The exact product of two finite encodings as a decoded value (for fused operations). -/
def fvMul (x y : FV) : FV :=
  match x, y with
  | .nan s, _ => .nan s
  | _, .nan s => .nan s
  | .inf n, .inf n' => .inf (n != n')
  | .inf n, .fin n' m _ => if m = 0 then .nan false else .inf (n != n')
  | .fin n m _, .inf n' => if m = 0 then .nan false else .inf (n != n')
  | .fin n1 m1 e1, .fin n2 m2 e2 => .fin (n1 != n2) (m1 * m2) (e1 + e2)

/-- A decoded value with its sign changed. -/
def fvNeg : FV → FV
  | .nan s => .nan s
  | .inf n => .inf (!n)
  | .fin n m e => .fin (!n) m e

/-- Engine fused multiply-add `(−1)^nc c + (−1)^np a × b`, rounded once (R76). -/
def engFma (f : Fmt) (ftz negC negP : Bool) (c a b : Nat) : FRes :=
  let (a, fa) := flushOp f ftz a
  let (b, fb) := flushOp f ftz b
  let (c, fc) := flushOp f ftz c
  let p := fvMul (unpack f a) (unpack f b)
  let (r, fr) := engAddV f ftz (if negC then fvNeg (unpack f c) else unpack f c) (if negP then fvNeg p else p)
  (r, ((fa.or fb).or fc).or fr)

/-- Quotient of decoded operands. A finite nonzero value over zero gives an infinity and sets OF; zero over zero and
infinity over infinity are invalid (R134). -/
def engDivV (f : Fmt) (ftz : Bool) (x y : FV) : FRes :=
  match x, y with
  | .nan _, _ => engNan f
  | _, .nan _ => engNan f
  | .inf _, .inf _ => engNan f
  | .inf n, .fin n' _ _ => (f.inf (n != n'), {})
  | .fin n _ _, .inf n' => (f.zero (n != n'), {})
  | .fin n1 m1 e1, .fin n2 m2 e2 =>
    if m2 = 0 then if m1 = 0 then engNan f else (f.inf (n1 != n2), { ov := true })
    else if m1 = 0 then (f.zero (n1 != n2), {})
    else engRound f ftz false (exactDiv (n1 != n2) m1 e1 m2 e2)

/-- Engine division. -/
def engDiv (f : Fmt) (ftz : Bool) (a b : Nat) : FRes := engOp2 f ftz (engDivV f ftz) a b

/-- One operand after flush mode, applied to an operation of its decoded value. -/
def engOp1 (f : Fmt) (ftz : Bool) (op : FV → FRes) (a : Nat) : FRes :=
  let (a, fa) := flushOp f ftz a
  let (r, fr) := op (unpack f a)
  (r, fa.or fr)

/-- Engine square root (R57: a negative nonzero value is invalid). -/
def engSqrt (f : Fmt) (ftz : Bool) (a : Nat) : FRes :=
  engOp1 f ftz (fun x => match x with
    | .nan _ => engNan f
    | .inf n => if n then engNan f else (f.inf false, {})
    | .fin n m e =>
      if m = 0 then (f.zero n, {}) else if n then engNan f else engRound f ftz false (exactSqrt m e)) a

/-- Engine reciprocal. -/
def engRecip (f : Fmt) (ftz : Bool) (a : Nat) : FRes :=
  engOp1 f ftz (fun x => engDivV f ftz (.fin false 1 0) x) a

/-- The exact reciprocal square root of a positive finite value, with a sticky remainder. -/
def exactRsqrt (m : Nat) (e : Int) : Exact :=
  let odd := (e % 2).toNat
  let m' := m * 2 ^ odd
  let n := 2 ^ (2 * Nat.log2 m' + 140)
  let q := n / m'
  let r := isqrt q
  { neg := false, m := r, e := -((e - odd) / 2) - (Nat.log2 m' + 70 : Nat), sticky := r * r * m' != n }

/-- Engine reciprocal square root: of a zero, the infinity of its sign and OF (R134); of a negative nonzero value, invalid (R57). -/
def engRsqrt (f : Fmt) (ftz : Bool) (a : Nat) : FRes :=
  engOp1 f ftz (fun x => match x with
    | .nan _ => engNan f
    | .inf n => if n then engNan f else (f.zero false, {})
    | .fin n m e =>
      if m = 0 then (f.inf n, { ov := true })
      else if n then engNan f else engRound f ftz false (exactRsqrt m e)) a

/-- The fraction bits of the fixed-point arithmetic of the exponential and the logarithm. -/
def fxBits : Nat := 320

/-- A Taylor sum of the exponential in fixed point: `t` is the running term, `k` its index, fuel counts terms. -/
def expLoop (r : Nat) : Nat → Nat → Nat → Nat → Nat
  | 0, _, _, acc => acc
  | fuel + 1, k, t, acc => expLoop r fuel (k + 1) (t * r / 2 ^ fxBits / (k + 1)) (acc + t)

/-- `2 atanh z` in fixed point: `t` is the running odd power of `z`, `k` its exponent. -/
def atanhLoop (z2 : Nat) : Nat → Nat → Nat → Nat → Nat
  | 0, _, _, acc => 2 * acc
  | fuel + 1, k, t, acc => atanhLoop z2 fuel (k + 2) (t * z2 / 2 ^ fxBits) (acc + t / k)

/-- `ln (n / d)` in fixed point for `d ≤ n ≤ 2 d`. -/
def fxLn (n d : Nat) : Nat :=
  let z := (n - d) * 2 ^ fxBits / (n + d)
  atanhLoop (z * z / 2 ^ fxBits) 110 1 z 0

/-- `ln 2` in fixed point. -/
def fxLn2 : Nat := fxLn 2 1

/-- `e^x` for a nonzero finite FP32 value: transcendental, so never exact and never half way. -/
def exactExp (neg : Bool) (m : Nat) (e : Int) : Exact :=
  if 9 < e + (Nat.log2 m : Int) then
    if neg then { neg := false, m := 1, e := -400, sticky := true } else { neg := false, m := 1, e := 400, sticky := true }
  else
    let x : Int := if 0 ≤ e + fxBits then (m * 2 ^ (e + fxBits).toNat : Nat) else 0
    let x := if neg then -x else x
    let n := x / (fxLn2 : Int)
    let r := (x - n * fxLn2).toNat
    { neg := false, m := expLoop r 90 0 (2 ^ fxBits) 0, e := n - fxBits, sticky := true }

/-- `ln x` for a positive finite value other than 1: transcendental, so never exact and never half way. -/
def exactLog (m : Nat) (e : Int) : Exact :=
  let k := Nat.log2 m
  let l : Int := (e + k) * fxLn2 + fxLn m (2 ^ k)
  { neg := decide (l < 0), m := l.natAbs, e := -(fxBits : Int), sticky := true }

/-- Engine `e^a`, correctly rounded. -/
def engExp (f : Fmt) (ftz : Bool) (a : Nat) : FRes :=
  engOp1 f ftz (fun x => match x with
    | .nan _ => engNan f
    | .inf n => if n then (f.zero false, {}) else (f.inf false, {})
    | .fin n m e =>
      if m = 0 then engRound f ftz false { neg := false, m := 1, e := 0 } else engRound f ftz false (exactExp n m e)) a

/-- Engine natural logarithm, correctly rounded: of a zero, minus infinity and OF (R134); of a negative nonzero value, invalid (R57). -/
def engLog (f : Fmt) (ftz : Bool) (a : Nat) : FRes :=
  engOp1 f ftz (fun x => match x with
    | .nan _ => engNan f
    | .inf n => if n then engNan f else (f.inf false, {})
    | .fin n m e =>
      if m = 0 then (f.inf true, { ov := true })
      else if n then engNan f
      else if exactAdd false m e true 1 0 = none then (f.zero false, {})
      else engRound f ftz false (exactLog m e)) a

/-- MAX and MIN (R59): the operand returned is unchanged unless flush mode replaced it. -/
def engMaxMin (f : Fmt) (ftz isMax : Bool) (a b : Nat) : FRes :=
  let (a, fa) := flushOp f ftz a
  let (b, fb) := flushOp f ftz b
  let fl := fa.or fb
  match compareFV (unpack f a) (unpack f b) with
  | none => (f.nan, { fl with nv := true })
  | some .eq => (if signOf f a = isMax then b else a, fl)
  | some .gt => (if isMax then a else b, fl)
  | some .lt => (if isMax then b else a, fl)

/-- A conversion between FP32 and a 16-bit format by RNE (Table 3.3); an infinite operand sets nothing (R66). -/
def engConvert (src dst : Fmt) (md : NMode) (a : Nat) : FRes :=
  let (a, fa) := flushOp src md.ftz a
  let (r, fr) := match unpack src a with
    | .nan _ => engNan dst
    | .inf n => (dst.inf n, {})
    | .fin n m e => if m = 0 then (dst.zero n, {}) else engRound dst md.ftz md.sat { neg := n, m := m, e := e }
  (r, fa.or fr)

/-- Stochastic rounding of an FP32 encoding to a 16-bit format with a draw of 16 bits (R65). -/
def engConvertSR (dst : Fmt) (md : NMode) (draw : Nat) (a : Nat) : FRes :=
  let (a, fa) := flushOp f32 md.ftz a
  let (r, fr) := match unpack f32 a with
    | .nan _ => engNan dst
    | .inf n => (dst.inf n, {})
    | .fin n m e =>
      if m = 0 then (dst.zero n, ({} : Fl))
      else
        let x : Exact := { neg := n, m := m, e := e }
        let ex := x.exp
        let tiny := decide (ex < dst.emin)
        if tiny && md.ftz then (dst.zero n, { fz := true, uf := true, nx := true, flush := true })
        else
          let exq := if ex < dst.emin then dst.emin else ex
          let q := exq - dst.fb
          let sh := (q - e).toNat
          let lo := m / 2 ^ sh
          let rem := m % 2 ^ sh
          let frac := rem * 65536 / 2 ^ sh
          let mant := if rem != 0 && 65536 ≤ frac + draw % 65536 then lo + 1 else lo
          let mag := encodeAt dst mant exq
          if dst.inf false ≤ mag then
            (if md.sat then dst.maxFin n else dst.inf n, { ov := true, nx := true, sat := md.sat })
          else (dst.signBit n + mag, { nx := rem != 0, uf := rem != 0 && tiny })
  (r, fa.or fr)

/-- Signed 32-bit integer to FP32 by RNE. -/
def engFromInt (i : Int) : FRes :=
  if i = 0 then (0, {}) else engRound f32 false false { neg := decide (i < 0), m := i.natAbs, e := 0 }

end Sys2Proof.Machine
end

