-- ==== Sys2Proof/Machine/Numbers.lean ====
section
/-! DEFINITION. Block formats and the defined dot product (R60 to R63, R69 to R76). -/
namespace Sys2Proof.Machine

/-- A block element format (Table 3.2). -/
structure ElFmt where
  fmt : Fmt
  bias : Nat
  maxCode : Nat
  emax : Nat
  unit : Nat
  deriving DecidableEq, Repr

/-- AB8: every value is a multiple of 2^-9. -/
def ab8 : ElFmt := ⟨⟨4, 3⟩, 7, 0x7F, 8, 9⟩
/-- AB4: every value is a multiple of 2^-1. -/
def ab4 : ElFmt := ⟨⟨2, 1⟩, 1, 0x7, 2, 1⟩

/-- The width of an element code. -/
def ElFmt.width (f : ElFmt) : Nat := 1 + f.fmt.eb + f.fmt.fb

/-- The sign of an element code. -/
def elNeg (f : ElFmt) (c : Nat) : Bool := bitOf c (f.fmt.eb + f.fmt.fb)

/-- The magnitude of an element code as a multiple of `2^-unit` (R60). -/
def elMag (f : ElFmt) (c : Nat) : Nat :=
  let ex := bitsOf c (f.fmt.eb + f.fmt.fb - 1) f.fmt.fb
  let fr := c % 2 ^ f.fmt.fb
  if ex = 0 then fr else (2 ^ f.fmt.fb + fr) * 2 ^ (ex - 1)

/-- An element code as a signed multiple of `2^-unit`. -/
def elInt (f : ElFmt) (c : Nat) : Int := if elNeg f c then -(elMag f c : Int) else elMag f c

/-- One element of a block as FP32 (R61, R63). -/
def elementToF32 (f : ElFmt) (md : NMode) (scale code : Nat) : FRes :=
  if scale = 0xFF then engNan f32
  else if scale = 0 then (0, {})
  else
    let m := elMag f code
    if m = 0 then (f32.zero (elNeg f code), {})
    else engRound f32 md.ftz md.sat { neg := elNeg f code, m := m, e := (scale : Int) - 127 - f.unit }

/-- The element code of `v = (−1)^neg × m × 2^e`, `m ≠ 0`, by `rne_element` (R69). -/
def rneElement (f : ElFmt) (neg : Bool) (m : Nat) (e : Int) : FRes :=
  let x : Exact := ({ neg := neg, m := m, e := e } : Exact).widen 8
  let ex := x.exp
  let emin : Int := 1 - (f.bias : Int)
  let exq := if ex < emin then emin else ex
  let (mant, inexact) := roundAt .rne x (exq - f.fmt.fb)
  let mag := if mant < 2 ^ f.fmt.fb then mant else (exq + f.bias).toNat * 2 ^ f.fmt.fb + (mant - 2 ^ f.fmt.fb)
  let s := if neg then 2 ^ (f.fmt.eb + f.fmt.fb) else 0
  if f.maxCode < mag then (s + f.maxCode, { ov := true, nx := true, sat := true })
  else if mag = 0 then (s, { uf := true, nx := true, flush := true })
  else (s + mag, { nx := inexact })

/-- A block: its scale byte, element codes, and the flags of each element. -/
structure Block where
  scale : Nat
  codes : List Nat
  fls : List Fl
  deriving DecidableEq, Repr

/-- The magnitude of a finite FP32 encoding as a comparable number: the encoding without its sign. -/
def magBits (w : Nat) : Nat := w % 2 ^ 31

/-- Conversion of FP32 values to one block (R69, Table 3.4). -/
def toBlock (f : ElFmt) (md : NMode) (xs : List Nat) : Block :=
  if xs.any (isNan f32) then ⟨0xFF, xs.map fun _ => 0, [{ nv := true }]⟩
  else
    let fx := xs.map (flushOp f32 md.ftz)
    let ys := fx.map Prod.fst
    let fl0 := fx.map Prod.snd
    if ys.all fun y => magBits y == 0 then ⟨0, ys.map fun _ => 0, fl0⟩
    else
      let finite := ys.filter fun y => decide (magBits y < f32.inf false)
      let amax0 := finite.foldl (fun a y => if a < magBits y then magBits y else a) 0
      let amax := if amax0 = 0 then f32.maxFin false else amax0
      match unpack f32 amax with
      | .fin _ am ae =>
        let ea := ae + (Nat.log2 am : Int)
        let sx := ea - f.emax
        let t := if f.emax = 8 then 496 else 7
        let big := if 0 ≤ ae - sx then decide (t ≤ am * 2 ^ (ae - sx).toNat)
          else decide (t * 2 ^ (sx - ae).toNat ≤ am)
        let sx := if !md.scsel && big then sx + 1 else sx
        let sx := if sx < -126 then -126 else sx
        let rs := ys.map fun y => match unpack f32 y with
          | .inf n => ((if n then 2 ^ (f.fmt.eb + f.fmt.fb) else 0) + f.maxCode,
              ({ ov := true, nx := true, sat := true } : Fl))
          | .fin n m e =>
            if m = 0 then (if n then 2 ^ (f.fmt.eb + f.fmt.fb) else 0, {}) else rneElement f n m (e - sx)
          | .nan _ => (0, {})
        ⟨(sx + 127).toNat, rs.map Prod.fst, (fl0.zip (rs.map Prod.snd)).map fun p => p.1.or p.2⟩
      | _ => ⟨0, ys.map fun _ => 0, fl0⟩

/-- `floor ((−1)^neg × m × 2^k)` for an exponent that may be negative: two's-complement truncation (R72). -/
def truncShift (neg : Bool) (m : Nat) (k : Int) : Int × Bool :=
  let v : Int := if neg then -(m : Int) else m
  if 0 ≤ k then (v * (2 ^ k.toNat : Nat), false)
  else (v / (2 ^ (-k).toNat : Nat), decide (v % (2 ^ (-k).toNat : Nat) ≠ 0))

/-- One product of a floating k-group: sign, significand product and exponents; `none` where either operand is 0. -/
structure GProd where
  neg : Bool
  m : Nat
  e : Int
  pe : Int
  deriving DecidableEq, Repr

/-- The group sum of up to eight products of BF16, FP16 or FP32 operands (R72). Operands are flushed before. A group in which no product
is present sums to +0: that every present product is -0 holds of it too, and the spec does not say which it means (DESIGN CHOICE, assumption
96). -/
def groupFloat (f : Fmt) (ftz : Bool) (pairs : List (Nat × Nat)) : FRes :=
  let ps := pairs.map fun p => ((flushOp f ftz p.1).1, (flushOp f ftz p.2).1)
  let prods := ps.map fun p => fvMul (unpack f p.1) (unpack f p.2)
  let isN := fun v : FV => match v with | .nan _ => true | _ => false
  if prods.any isN then engNan f32
  else
    let infs := prods.filterMap fun v => match v with | .inf n => some n | _ => none
    match infs with
    | n :: rest => if rest.any fun n' => n' != n then engNan f32 else (f32.inf n, {})
    | [] =>
      let live := ps.filterMap fun p => match unpack f p.1, unpack f p.2 with
        | .fin n1 m1 e1, .fin n2 m2 e2 =>
          if m1 * m2 = 0 then none
          else
            let x1 := if m1 < 2 ^ f.fb then f.emin else e1 + f.fb
            let x2 := if m2 < 2 ^ f.fb then f.emin else e2 + f.fb
            some ({ neg := n1 != n2, m := m1 * m2, e := e1 + e2, pe := x1 + x2 } : GProd)
        | _, _ => none
      match live with
      | [] =>
        let allNeg := prods.all fun v => match v with | .fin n _ _ => n | _ => false
        (f32.zero (allNeg && !prods.isEmpty), {})
      | p0 :: rest =>
        let emax := rest.foldl (fun a p => if a < p.pe then p.pe else a) p0.pe
        let qs := live.map fun p => truncShift p.neg p.m (p.e - (emax - 39))
        let s := (qs.map Prod.fst).foldl (· + ·) (0 : Int)
        let lost : Fl := { nx := qs.any Prod.snd }
        if s = 0 then (f32.zero false, lost)
        else
          let (r, fl) := engRound f32 ftz false { neg := decide (s < 0), m := s.natAbs, e := emax - 39 }
          (r, lost.or fl)

/-- The group sum of one pair of blocks (R73). -/
def groupBlock (f : ElFmt) (ftz : Bool) (sa : Nat) (ea : List Nat) (sb : Nat) (eb : List Nat) : FRes :=
  if sa = 0xFF ∨ sb = 0xFF then engNan f32
  else if sa = 0 ∨ sb = 0 then (0, {})
  else
    let s := ((ea.zip eb).map fun p => elInt f p.1 * elInt f p.2).foldl (· + ·) (0 : Int)
    if s = 0 then (0, {})
    else engRound f32 ftz false
      { neg := decide (s < 0), m := s.natAbs, e := (sa : Int) + sb - 254 - 2 * f.unit }

/-- The accumulation of group sums in ascending order (R74): the flags are those of the output element, whose group sums and partial sums
are intermediates; a flushed operand is accounted apart (R75). -/
def accumulate (ftz : Bool) (c : Nat) (gs : List FRes) : FRes :=
  gs.foldl (fun acc g =>
    let (r, fl) := engAddV f32 ftz (unpack f32 acc.1) (unpack f32 g.1)
    (r, (acc.2.inner.or g.2.inner).or fl)) ((flushOp f32 ftz c).1, {})

/-- A list cut into groups of `n`; fuel bounds the number of groups. -/
def chunks {α : Type} (n : Nat) : Nat → List α → List (List α)
  | 0, _ => []
  | fuel + 1, l => if l.isEmpty then [] else l.take n :: chunks n fuel (l.drop n)

/-- The defined dot product of two lists of floating operands added to `c` (R72, R74). -/
def dotFloat (f : Fmt) (ftz : Bool) (c : Nat) (a b : List Nat) : FRes :=
  accumulate ftz c ((chunks 8 a.length (a.zip b)).map (groupFloat f ftz))

end Sys2Proof.Machine
end

