-- ==== Sys2Proof/Machine/RegNames.lean ====
section
/-! DEFINITION. The register maps of every chapter: each register's local address and its fields' bit ranges (R5, Table 0.4).
A name is the spec's own; `fld<REGISTER>_<FIELD>` is a field of it. Arrays of registers take their index or indices. -/
namespace Sys2Proof.Machine

/-! ### R53 -/
/-- Table 2.7: CORE_ID. -/
def CORE_ID (i : Nat) : Nat := 0xf0001000000 + i * 0x10000
def fldCORE_ID_PHYS : Fld := ⟨15, 8⟩
def fldCORE_ID_QUAD : Fld := ⟨7, 6⟩
def fldCORE_ID_LOGICAL : Fld := ⟨5, 0⟩
/-- Table 2.8: CORE_STATUS. -/
def CORE_STATUS (i : Nat) : Nat := 0xf0001000008 + i * 0x10000
def fldCORE_STATUS_QW : Fld := ⟨7, 7⟩
def fldCORE_STATUS_RSV : Fld := ⟨6, 6⟩
def fldCORE_STATUS_STOPPED : Fld := ⟨5, 5⟩
def fldCORE_STATUS_STEP : Fld := ⟨4, 4⟩
def fldCORE_STATUS_IE : Fld := ⟨3, 3⟩
def fldCORE_STATUS_LEVEL : Fld := ⟨1, 0⟩
/-- Table 2.9: CORE_RSP. -/
def CORE_RSP (i : Nat) : Nat := 0xf0001000010 + i * 0x10000
def fldCORE_RSP_RSP : Fld := ⟨63, 0⟩
/-- Table 2.10: CORE_CAUSE. -/
def CORE_CAUSE (i : Nat) : Nat := 0xf0001000018 + i * 0x10000
def fldCORE_CAUSE_INSTR : Fld := ⟨39, 8⟩
def fldCORE_CAUSE_FROM_LEVEL : Fld := ⟨7, 6⟩
def fldCORE_CAUSE_VECTOR : Fld := ⟨5, 0⟩
/-- Table 2.11: CORE_FADDR. -/
def CORE_FADDR (i : Nat) : Nat := 0xf0001000020 + i * 0x10000
def fldCORE_FADDR_FADDR : Fld := ⟨63, 0⟩
/-- Table 2.12: CORE_IPEND. -/
def CORE_IPEND (i : Nat) : Nat := 0xf0001000028 + i * 0x10000
def fldCORE_IPEND_PEND : Fld := ⟨63, 16⟩
/-- Table 2.13: CORE_IEN. -/
def CORE_IEN (i : Nat) : Nat := 0xf0001000030 + i * 0x10000
def fldCORE_IEN_EN : Fld := ⟨63, 16⟩
/-- Table 2.14: CORE_SWI. -/
def CORE_SWI (i : Nat) : Nat := 0xf0001000038 + i * 0x10000
def fldCORE_SWI_SWI : Fld := ⟨63, 32⟩
/-- Table 2.15: CORE_CYCLE. -/
def CORE_CYCLE (i : Nat) : Nat := 0xf0001000040 + i * 0x10000
def fldCORE_CYCLE_CYCLE : Fld := ⟨63, 0⟩
/-- Table 2.16: CORE_REFTIME. -/
def CORE_REFTIME (i : Nat) : Nat := 0xf0001000048 + i * 0x10000
def fldCORE_REFTIME_REFTIME : Fld := ⟨63, 0⟩
/-- Table 2.17: CORE_TIMER_CMP. -/
def CORE_TIMER_CMP (i : Nat) : Nat := 0xf0001000050 + i * 0x10000
def fldCORE_TIMER_CMP_CMP : Fld := ⟨63, 0⟩
/-- Table 2.18: CORE_QWIN. -/
def CORE_QWIN (i : Nat) : Nat := 0xf0001000058 + i * 0x10000
def fldCORE_QWIN_CLAMP : Fld := ⟨14, 14⟩
def fldCORE_QWIN_OPEN : Fld := ⟨13, 13⟩
def fldCORE_QWIN_REMAIN : Fld := ⟨12, 0⟩
/-- Table 2.19: CORE_QREFUSE. -/
def CORE_QREFUSE (i : Nat) : Nat := 0xf0001000060 + i * 0x10000
def fldCORE_QREFUSE_OVF : Fld := ⟨63, 63⟩
def fldCORE_QREFUSE_COUNT : Fld := ⟨47, 0⟩
/-- Table 2.20: CORE_EXC_COUNT. -/
def CORE_EXC_COUNT (i : Nat) : Nat := 0xf0001000068 + i * 0x10000
def fldCORE_EXC_COUNT_OVF : Fld := ⟨63, 63⟩
def fldCORE_EXC_COUNT_COUNT : Fld := ⟨47, 0⟩
/-- Table 2.21: CORE_STOPINFO. -/
def CORE_STOPINFO (i : Nat) : Nat := 0xf0001000070 + i * 0x10000
def fldCORE_STOPINFO_VECTOR2 : Fld := ⟨61, 56⟩
def fldCORE_STOPINFO_REASON : Fld := ⟨51, 48⟩
def fldCORE_STOPINFO_PC : Fld := ⟨43, 0⟩
/-- Table 2.22: CORE_FSTAT. -/
def CORE_FSTAT (i : Nat) : Nat := 0xf0001000078 + i * 0x10000
def fldCORE_FSTAT_RM : Fld := ⟨6, 5⟩
def fldCORE_FSTAT_NV : Fld := ⟨4, 4⟩
def fldCORE_FSTAT_DZ : Fld := ⟨3, 3⟩
def fldCORE_FSTAT_OF : Fld := ⟨2, 2⟩
def fldCORE_FSTAT_UF : Fld := ⟨1, 1⟩
def fldCORE_FSTAT_NX : Fld := ⟨0, 0⟩

/-! ### R82 -/
/-- Table 3.7: NUM_MODE. -/
def NUM_MODE (i : Nat) : Nat := 0xf0001000800 + i * 0x10000
def fldNUM_MODE_UPD_SAT : Fld := ⟨17, 17⟩
def fldNUM_MODE_UPD_FTZ : Fld := ⟨16, 16⟩
def fldNUM_MODE_TILE_SCSEL : Fld := ⟨10, 10⟩
def fldNUM_MODE_TILE_SAT : Fld := ⟨9, 9⟩
def fldNUM_MODE_TILE_FTZ : Fld := ⟨8, 8⟩
def fldNUM_MODE_VEC_SCSEL : Fld := ⟨2, 2⟩
def fldNUM_MODE_VEC_SAT : Fld := ⟨1, 1⟩
def fldNUM_MODE_VEC_FTZ : Fld := ⟨0, 0⟩
/-- Table 3.8: NUM_FLAGS. -/
def NUM_FLAGS (i : Nat) : Nat := 0xf0001000808 + i * 0x10000
def fldNUM_FLAGS_UPD : Fld := ⟨20, 16⟩
def fldNUM_FLAGS_TILE : Fld := ⟨12, 8⟩
def fldNUM_FLAGS_VEC : Fld := ⟨4, 0⟩
/-- Table 3.9: NUM_VEC_SAT. -/
def NUM_VEC_SAT (i : Nat) : Nat := 0xf0001000810 + i * 0x10000
def fldNUM_VEC_SAT_COUNT : Fld := ⟨31, 0⟩
/-- Table 3.10: NUM_VEC_FLUSH. -/
def NUM_VEC_FLUSH (i : Nat) : Nat := 0xf0001000818 + i * 0x10000
def fldNUM_VEC_FLUSH_COUNT : Fld := ⟨31, 0⟩
/-- Table 3.11: NUM_TILE_SAT. -/
def NUM_TILE_SAT (i : Nat) : Nat := 0xf0001000820 + i * 0x10000
def fldNUM_TILE_SAT_COUNT : Fld := ⟨31, 0⟩
/-- Table 3.12: NUM_TILE_FLUSH. -/
def NUM_TILE_FLUSH (i : Nat) : Nat := 0xf0001000828 + i * 0x10000
def fldNUM_TILE_FLUSH_COUNT : Fld := ⟨31, 0⟩
/-- Table 3.13: NUM_UPD_SAT. -/
def NUM_UPD_SAT (i : Nat) : Nat := 0xf0001000830 + i * 0x10000
def fldNUM_UPD_SAT_COUNT : Fld := ⟨31, 0⟩
/-- Table 3.14: NUM_UPD_FLUSH. -/
def NUM_UPD_FLUSH (i : Nat) : Nat := 0xf0001000838 + i * 0x10000
def fldNUM_UPD_FLUSH_COUNT : Fld := ⟨31, 0⟩
/-- Table 3.15: NUM_RESIDUE. -/
def NUM_RESIDUE (i : Nat) : Nat := 0xf0001000840 + i * 0x10000
def fldNUM_RESIDUE_OVF : Fld := ⟨63, 63⟩
def fldNUM_RESIDUE_COUNT : Fld := ⟨47, 0⟩

/-! ### R118 -/
/-- Table 4.11: TILE_CFG. -/
def TILE_CFG (i : Nat) : Nat := 0xf0001000a00 + i * 0x10000
def fldTILE_CFG_OUT : Fld := ⟨15, 12⟩
def fldTILE_CFG_ACTIVE : Fld := ⟨11, 8⟩
def fldTILE_CFG_SPARE : Fld := ⟨7, 4⟩
def fldTILE_CFG_ARRAYS : Fld := ⟨2, 0⟩
/-- Table 4.12: TILE_INUSE. -/
def TILE_INUSE (i : Nat) : Nat := 0xf0001000a08 + i * 0x10000
def fldTILE_INUSE_INUSE : Fld := ⟨7, 0⟩
/-- Table 4.13: TILE_RAMP. -/
def TILE_RAMP (i : Nat) : Nat := 0xf0001000a10 + i * 0x10000
def fldTILE_RAMP_DOWN : Fld := ⟨3, 3⟩
def fldTILE_RAMP_LEVEL : Fld := ⟨2, 0⟩
/-- Table 4.14: TILE_FINFO. -/
def TILE_FINFO (i : Nat) : Nat := 0xf0001000a18 + i * 0x10000
def fldTILE_FINFO_REASON : Fld := ⟨35, 32⟩
def fldTILE_FINFO_MROW : Fld := ⟨31, 16⟩
def fldTILE_FINFO_OFFSET : Fld := ⟨15, 0⟩
/-- Table 4.15: TILE_BUSY. -/
def TILE_BUSY (i : Nat) : Nat := 0xf0001000a20 + i * 0x10000
def fldTILE_BUSY_OVF : Fld := ⟨63, 63⟩
def fldTILE_BUSY_COUNT : Fld := ⟨47, 0⟩
/-- Table 4.16: TILE_RAMPLOSS. -/
def TILE_RAMPLOSS (i : Nat) : Nat := 0xf0001000a28 + i * 0x10000
def fldTILE_RAMPLOSS_OVF : Fld := ⟨63, 63⟩
def fldTILE_RAMPLOSS_COUNT : Fld := ⟨47, 0⟩
/-- Table 4.17: TILE_REUSE. -/
def TILE_REUSE (i : Nat) : Nat := 0xf0001000a30 + i * 0x10000
def fldTILE_REUSE_OVF : Fld := ⟨63, 63⟩
def fldTILE_REUSE_COUNT : Fld := ⟨47, 0⟩
/-- Table 4.18: TILE_RESTART. -/
def TILE_RESTART (i : Nat) : Nat := 0xf0001000a38 + i * 0x10000
def fldTILE_RESTART_OVF : Fld := ⟨63, 63⟩
def fldTILE_RESTART_COUNT : Fld := ⟨47, 0⟩
/-- Table 4.19: TILE_PORTWAIT. -/
def TILE_PORTWAIT (i : Nat) : Nat := 0xf0001000a40 + i * 0x10000
def fldTILE_PORTWAIT_OVF : Fld := ⟨63, 63⟩
def fldTILE_PORTWAIT_COUNT : Fld := ⟨47, 0⟩

/-! ### R151 -/
/-- Table 5.7: VEC_VL. -/
def VEC_VL (i : Nat) : Nat := 0xf0001000c00 + i * 0x10000
def fldVEC_VL_VL : Fld := ⟨10, 0⟩
/-- Table 5.8: VEC_VPROG. -/
def VEC_VPROG (i : Nat) : Nat := 0xf0001000c08 + i * 0x10000
def fldVEC_VPROG_DONE : Fld := ⟨10, 0⟩
/-- Table 5.9: VEC_STATUS. -/
def VEC_STATUS (i : Nat) : Nat := 0xf0001000c10 + i * 0x10000
def fldVEC_STATUS_FF : Fld := ⟨1, 1⟩
def fldVEC_STATUS_UNRET : Fld := ⟨0, 0⟩
/-- Table 5.10: VEC_RNG. -/
def VEC_RNG (i : Nat) : Nat := 0xf0001000c18 + i * 0x10000
def fldVEC_RNG_MODE : Fld := ⟨0, 0⟩
/-- Table 5.11: VEC_RNG_SHARD. -/
def VEC_RNG_SHARD (i : Nat) : Nat := 0xf0001000c20 + i * 0x10000
def fldVEC_RNG_SHARD_SHARD : Fld := ⟨63, 0⟩
/-- Table 5.12: VEC_RNG_RING. -/
def VEC_RNG_RING (i : Nat) : Nat := 0xf0001000c28 + i * 0x10000
def fldVEC_RNG_RING_RING : Fld := ⟨63, 0⟩
/-- Table 5.13: VEC_BUSY. -/
def VEC_BUSY (i : Nat) : Nat := 0xf0001000c30 + i * 0x10000
def fldVEC_BUSY_OVF : Fld := ⟨63, 63⟩
def fldVEC_BUSY_COUNT : Fld := ⟨47, 0⟩
/-- Table 5.14: VEC_MISALIGN. -/
def VEC_MISALIGN (i : Nat) : Nat := 0xf0001000c38 + i * 0x10000
def fldVEC_MISALIGN_OVF : Fld := ⟨63, 63⟩
def fldVEC_MISALIGN_COUNT : Fld := ⟨47, 0⟩
/-- Table 5.15: VEC_RESUME. -/
def VEC_RESUME (i : Nat) : Nat := 0xf0001000c40 + i * 0x10000
def fldVEC_RESUME_OVF : Fld := ⟨63, 63⟩
def fldVEC_RESUME_COUNT : Fld := ⟨47, 0⟩
/-- Table 5.16: VEC_RNG_STATE. -/
def VEC_RNG_STATE (i j : Nat) : Nat := 0xf0001000d00 + i * 0x10000 + j * 0x8
def fldVEC_RNG_STATE_STATE : Fld := ⟨63, 0⟩

/-! ### R178 -/
/-- Table 6.10: UPD_PIVOT_MIN. -/
def UPD_PIVOT_MIN (i : Nat) : Nat := 0xf0001000e00 + i * 0x10000
def fldUPD_PIVOT_MIN_MIN : Fld := ⟨31, 0⟩
/-- Table 6.11: UPD_FALLBACK. -/
def UPD_FALLBACK (i : Nat) : Nat := 0xf0001000e08 + i * 0x10000
def fldUPD_FALLBACK_FLAG : Fld := ⟨63, 63⟩
def fldUPD_FALLBACK_SET : Fld := ⟨62, 62⟩
def fldUPD_FALLBACK_SHARD : Fld := ⟨31, 0⟩
/-- Table 6.12: UPD_FALLBACK_COUNT. -/
def UPD_FALLBACK_COUNT (i : Nat) : Nat := 0xf0001000e10 + i * 0x10000
def fldUPD_FALLBACK_COUNT_OVF : Fld := ⟨63, 63⟩
def fldUPD_FALLBACK_COUNT_INC : Fld := ⟨62, 62⟩
def fldUPD_FALLBACK_COUNT_COUNT : Fld := ⟨47, 0⟩
/-- Table 6.13: UPD_DONE_COUNT. -/
def UPD_DONE_COUNT (i : Nat) : Nat := 0xf0001000e18 + i * 0x10000
def fldUPD_DONE_COUNT_OVF : Fld := ⟨63, 63⟩
def fldUPD_DONE_COUNT_INC : Fld := ⟨62, 62⟩
def fldUPD_DONE_COUNT_COUNT : Fld := ⟨47, 0⟩
/-- Table 6.14: UPD_STATUS. -/
def UPD_STATUS (i : Nat) : Nat := 0xf0001000e20 + i * 0x10000
def fldUPD_STATUS_SHARD : Fld := ⟨63, 32⟩
def fldUPD_STATUS_PHASE : Fld := ⟨3, 0⟩
/-- Table 6.15: UPD_CLIP. -/
def UPD_CLIP (i : Nat) : Nat := 0xf0001000e28 + i * 0x10000
def fldUPD_CLIP_MB : Fld := ⟨63, 32⟩
def fldUPD_CLIP_C : Fld := ⟨31, 0⟩
/-- Table 6.16: UPD_NORM2. -/
def UPD_NORM2 (i : Nat) : Nat := 0xf0001000e30 + i * 0x10000
def fldUPD_NORM2_N2 : Fld := ⟨63, 0⟩

/-! ### R233 -/
/-- Table 8.11: RING_CTRL. -/
def RING_CTRL : Nat := 0xf0000050000
def fldRING_CTRL_DISCARD : Fld := ⟨2, 2⟩
def fldRING_CTRL_SEAL : Fld := ⟨1, 1⟩
def fldRING_CTRL_OPEN : Fld := ⟨0, 0⟩
/-- Table 8.12: RING_STATUS. -/
def RING_STATUS : Nat := 0xf0000050008
def fldRING_STATUS_UNDECIDED : Fld := ⟨15, 15⟩
def fldRING_STATUS_NUMEX : Fld := ⟨14, 14⟩
def fldRING_STATUS_OPEN_PEND : Fld := ⟨13, 13⟩
def fldRING_STATUS_OLD_DOOM : Fld := ⟨11, 11⟩
def fldRING_STATUS_OLD_STATE : Fld := ⟨10, 8⟩
def fldRING_STATUS_NEW_DOOM : Fld := ⟨7, 7⟩
def fldRING_STATUS_NEW_STATE : Fld := ⟨6, 4⟩
/-- Table 8.13: RING_NEWER. -/
def RING_NEWER : Nat := 0xf0000050010
def fldRING_NEWER_RING : Fld := ⟨63, 0⟩
/-- Table 8.14: RING_OLDER. -/
def RING_OLDER : Nat := 0xf0000050018
def fldRING_OLDER_RING : Fld := ⟨63, 0⟩
/-- Table 8.15: RING_VISIBLE. -/
def RING_VISIBLE : Nat := 0xf0000050020
def fldRING_VISIBLE_VISIBLE_RING : Fld := ⟨63, 0⟩
/-- Table 8.16: RING_PREV. -/
def RING_PREV : Nat := 0xf0000050028
def fldRING_PREV_PREV : Fld := ⟨63, 0⟩
/-- Table 8.17: RING_NEXT. -/
def RING_NEXT : Nat := 0xf0000050030
def fldRING_NEXT_NEXT : Fld := ⟨63, 0⟩
/-- Table 8.18: RING_GSTEP. -/
def RING_GSTEP : Nat := 0xf0000050038
def fldRING_GSTEP_G : Fld := ⟨63, 0⟩
/-- Table 8.19: RING_GROUP. -/
def RING_GROUP : Nat := 0xf0000050040
def fldRING_GROUP_GROUP_ID : Fld := ⟨63, 48⟩
def fldRING_GROUP_NM1 : Fld := ⟨45, 32⟩
def fldRING_GROUP_LEADER : Fld := ⟨17, 0⟩
/-- Table 8.20: RING_HOLDERS. -/
def RING_HOLDERS : Nat := 0xf0000050048
def fldRING_HOLDERS_H2 : Fld := ⟨49, 32⟩
def fldRING_HOLDERS_H1 : Fld := ⟨17, 0⟩
/-- Table 8.21: RING_MEMBERS. -/
def RING_MEMBERS : Nat := 0xf0000050050
def fldRING_MEMBERS_ADDR : Fld := ⟨43, 0⟩
/-- Table 8.22: RING_MODE. -/
def RING_MODE : Nat := 0xf0000050058
def fldRING_MODE_MIRROR_IN : Fld := ⟨29, 16⟩
def fldRING_MODE_MIRROR : Fld := ⟨0, 0⟩
/-- Table 8.23: RING_MIRROR. -/
def RING_MIRROR : Nat := 0xf0000050060
def fldRING_MIRROR_DEVICE : Fld := ⟨61, 44⟩
def fldRING_MIRROR_BASE : Fld := ⟨43, 16⟩
/-- Table 8.24: RING_TRIP. -/
def RING_TRIP : Nat := 0xf0000050068
def fldRING_TRIP_SUB_LIMIT : Fld := ⟨11, 4⟩
def fldRING_TRIP_RING_NV : Fld := ⟨2, 2⟩
def fldRING_TRIP_SUB_NV : Fld := ⟨1, 0⟩
/-- Table 8.25: RING_TIMEOUT. -/
def RING_TIMEOUT : Nat := 0xf0000050070
def fldRING_TIMEOUT_EFFECTIVE : Fld := ⟨63, 32⟩
def fldRING_TIMEOUT_VALUE : Fld := ⟨31, 0⟩
/-- Table 8.26: RING_POOL. -/
def RING_POOL : Nat := 0xf0000050078
def fldRING_POOL_FREE : Fld := ⟨55, 32⟩
def fldRING_POOL_TOTAL : Fld := ⟨23, 0⟩
/-- Table 8.27: RING_SUBCTRL. -/
def RING_SUBCTRL : Nat := 0xf0000050080
def fldRING_SUBCTRL_ERR : Fld := ⟨63, 63⟩
def fldRING_SUBCTRL_OP : Fld := ⟨7, 6⟩
def fldRING_SUBCTRL_K : Fld := ⟨5, 0⟩
/-- Table 8.28: RING_SUBOPEN. -/
def RING_SUBOPEN : Nat := 0xf0000050088
def fldRING_SUBOPEN_OPEN : Fld := ⟨63, 1⟩
/-- Table 8.29: RING_SUBDOOM. -/
def RING_SUBDOOM : Nat := 0xf0000050090
def fldRING_SUBDOOM_DOOM : Fld := ⟨63, 1⟩
/-- Table 8.30: RING_REFUSE. -/
def RING_REFUSE : Nat := 0xf0000050098
def fldRING_REFUSE_VALID : Fld := ⟨63, 63⟩
def fldRING_REFUSE_SHARD : Fld := ⟨31, 0⟩
/-- Table 8.31: RING_REFUSE_STEP. -/
def RING_REFUSE_STEP : Nat := 0xf00000500a0
def fldRING_REFUSE_STEP_STEP : Fld := ⟨63, 0⟩
/-- Table 8.32: RING_EVENT. -/
def RING_EVENT : Nat := 0xf00000500a8
def fldRING_EVENT_EV : Fld := ⟨10, 0⟩
/-- Table 8.33: RING_EVENT_ROUTE. -/
def RING_EVENT_ROUTE : Nat := 0xf00000500b0
def fldRING_EVENT_ROUTE_CORES : Fld := ⟨47, 0⟩
/-- Table 8.34: RING_CAUSE. -/
def RING_CAUSE : Nat := 0xf00000500b8
def fldRING_CAUSE_CULPRIT : Fld := ⟨49, 32⟩
def fldRING_CAUSE_LOCAL : Fld := ⟨8, 8⟩
def fldRING_CAUSE_CAUSE : Fld := ⟨7, 0⟩
/-- Table 8.35: RING_CAUSE_RING. -/
def RING_CAUSE_RING : Nat := 0xf00000500c0
def fldRING_CAUSE_RING_RING : Fld := ⟨63, 0⟩
/-- Table 8.36: RING_COMMITS. -/
def RING_COMMITS : Nat := 0xf00000500c8
def fldRING_COMMITS_OVF : Fld := ⟨63, 63⟩
def fldRING_COMMITS_COUNT : Fld := ⟨47, 0⟩
/-- Table 8.37: RING_DISCARDS. -/
def RING_DISCARDS : Nat := 0xf00000500d0
def fldRING_DISCARDS_OVF : Fld := ⟨63, 63⟩
def fldRING_DISCARDS_COUNT : Fld := ⟨47, 0⟩
/-- Table 8.38: RING_SUBDISCARDS. -/
def RING_SUBDISCARDS : Nat := 0xf00000500d8
def fldRING_SUBDISCARDS_OVF : Fld := ⟨63, 63⟩
def fldRING_SUBDISCARDS_COUNT : Fld := ⟨47, 0⟩
/-- Table 8.39: RING_CORE_SUB. -/
def RING_CORE_SUB (i : Nat) : Nat := 0xf0000050200 + i * 0x8
def fldRING_CORE_SUB_SUB : Fld := ⟨5, 0⟩

/-! ### R258, R259 -/
/-- Table 9.3: CORE_L1CFG. -/
def CORE_L1CFG (i : Nat) : Nat := 0xf0001000400 + i * 0x10000
def fldCORE_L1CFG_DEFHINT : Fld := ⟨9, 8⟩
def fldCORE_L1CFG_NOW : Fld := ⟨6, 4⟩
def fldCORE_L1CFG_SHARE : Fld := ⟨2, 0⟩
/-- Table 9.4: CORE_PF. -/
def CORE_PF (i : Nat) : Nat := 0xf0001000408 + i * 0x10000
def fldCORE_PF_DIST : Fld := ⟨11, 4⟩
def fldCORE_PF_EN : Fld := ⟨0, 0⟩
/-- Table 9.5: CORE_DEADFALL. -/
def CORE_DEADFALL (i : Nat) : Nat := 0xf0001000410 + i * 0x10000
def fldCORE_DEADFALL_LM1 : Fld := ⟨55, 48⟩
def fldCORE_DEADFALL_LINE : Fld := ⟨43, 7⟩
/-- Table 9.6: CORE_L1_HIT. -/
def CORE_L1_HIT (i : Nat) : Nat := 0xf0001000418 + i * 0x10000
def fldCORE_L1_HIT_OVF : Fld := ⟨63, 63⟩
def fldCORE_L1_HIT_COUNT : Fld := ⟨47, 0⟩
/-- Table 9.7: CORE_L1_MISS. -/
def CORE_L1_MISS (i : Nat) : Nat := 0xf0001000420 + i * 0x10000
def fldCORE_L1_MISS_OVF : Fld := ⟨63, 63⟩
def fldCORE_L1_MISS_COUNT : Fld := ⟨47, 0⟩
/-- Table 9.8: CORE_PF_ISSUE. -/
def CORE_PF_ISSUE (i : Nat) : Nat := 0xf0001000428 + i * 0x10000
def fldCORE_PF_ISSUE_OVF : Fld := ⟨63, 63⟩
def fldCORE_PF_ISSUE_COUNT : Fld := ⟨47, 0⟩
/-- Table 9.9: CORE_PF_SKIP. -/
def CORE_PF_SKIP (i : Nat) : Nat := 0xf0001000430 + i * 0x10000
def fldCORE_PF_SKIP_OVF : Fld := ⟨63, 63⟩
def fldCORE_PF_SKIP_COUNT : Fld := ⟨47, 0⟩
/-- Table 9.10: L2_CFG. -/
def L2_CFG (i : Nat) : Nat := 0xf0002000000 + i * 0x10000
def fldL2_CFG_OUT : Fld := ⟨31, 16⟩
def fldL2_CFG_SPARE : Fld := ⟨14, 14⟩
def fldL2_CFG_HASH : Fld := ⟨13, 12⟩
def fldL2_CFG_PINNED : Fld := ⟨3, 0⟩
/-- Table 9.11: L2_THRASH_CFG. -/
def L2_THRASH_CFG (i : Nat) : Nat := 0xf0002000008 + i * 0x10000
def fldL2_THRASH_CFG_CORES : Fld := ⟨63, 16⟩
def fldL2_THRASH_CFG_THRESH : Fld := ⟨15, 0⟩
/-- Table 9.12: L2_THRASH_STATUS. -/
def L2_THRASH_STATUS (i : Nat) : Nat := 0xf0002000010 + i * 0x10000
def fldL2_THRASH_STATUS_EVENT : Fld := ⟨63, 63⟩
def fldL2_THRASH_STATUS_GROUP : Fld := ⟨6, 0⟩
/-- Table 9.13: L2_THRASH_SETS. -/
def L2_THRASH_SETS (i : Nat) : Nat := 0xf0002000018 + i * 0x10000
def fldL2_THRASH_SETS_OVF : Fld := ⟨63, 63⟩
def fldL2_THRASH_SETS_COUNT : Fld := ⟨47, 0⟩
/-- Table 9.14: L2_HIT. -/
def L2_HIT (i : Nat) : Nat := 0xf0002000020 + i * 0x10000
def fldL2_HIT_OVF : Fld := ⟨63, 63⟩
def fldL2_HIT_COUNT : Fld := ⟨47, 0⟩
/-- Table 9.15: L2_MISS. -/
def L2_MISS (i : Nat) : Nat := 0xf0002000028 + i * 0x10000
def fldL2_MISS_OVF : Fld := ⟨63, 63⟩
def fldL2_MISS_COUNT : Fld := ⟨47, 0⟩
/-- Table 9.16: L2_MERGED. -/
def L2_MERGED (i : Nat) : Nat := 0xf0002000030 + i * 0x10000
def fldL2_MERGED_OVF : Fld := ⟨63, 63⟩
def fldL2_MERGED_COUNT : Fld := ⟨47, 0⟩
/-- Table 9.17: L2_READ_AFTER_DEADFALL. -/
def L2_READ_AFTER_DEADFALL (i : Nat) : Nat := 0xf0002000038 + i * 0x10000
def fldL2_READ_AFTER_DEADFALL_OVF : Fld := ⟨63, 63⟩
def fldL2_READ_AFTER_DEADFALL_COUNT : Fld := ⟨47, 0⟩

/-! ### R287, R288 -/
/-- Table 10.3: BANK_GRP_CFG. -/
def BANK_GRP_CFG (i : Nat) : Nat := 0xf0003000000 + i * 0x10000
def fldBANK_GRP_CFG_NHOME3 : Fld := ⟨35, 34⟩
def fldBANK_GRP_CFG_NHOME2 : Fld := ⟨33, 32⟩
def fldBANK_GRP_CFG_NHOME1 : Fld := ⟨31, 30⟩
def fldBANK_GRP_CFG_NHOME0 : Fld := ⟨29, 28⟩
def fldBANK_GRP_CFG_PHYS3 : Fld := ⟨27, 21⟩
def fldBANK_GRP_CFG_PHYS2 : Fld := ⟨20, 14⟩
def fldBANK_GRP_CFG_PHYS1 : Fld := ⟨13, 7⟩
def fldBANK_GRP_CFG_PHYS0 : Fld := ⟨6, 0⟩
/-- Table 10.4: BANK_HOME_BEATS. -/
def BANK_HOME_BEATS (i : Nat) : Nat := 0xf0003000008 + i * 0x10000
def fldBANK_HOME_BEATS_OVF : Fld := ⟨63, 63⟩
def fldBANK_HOME_BEATS_COUNT : Fld := ⟨47, 0⟩
/-- Table 10.5: BANK_SHARED_WAIT. -/
def BANK_SHARED_WAIT (i : Nat) : Nat := 0xf0003000010 + i * 0x10000
def fldBANK_SHARED_WAIT_OVF : Fld := ⟨63, 63⟩
def fldBANK_SHARED_WAIT_COUNT : Fld := ⟨47, 0⟩
/-- Table 10.6: BANK_ECC. -/
def BANK_ECC (i : Nat) : Nat := 0xf0003000018 + i * 0x10000
def fldBANK_ECC_UE : Fld := ⟨63, 32⟩
def fldBANK_ECC_CE : Fld := ⟨31, 0⟩
/-- Table 10.7: BANK_REPAIR. -/
def BANK_REPAIR (i : Nat) : Nat := 0xf0003000020 + i * 0x10000
def fldBANK_REPAIR_COLS3 : Fld := ⟨43, 39⟩
def fldBANK_REPAIR_ROWS3 : Fld := ⟨38, 33⟩
def fldBANK_REPAIR_COLS2 : Fld := ⟨32, 28⟩
def fldBANK_REPAIR_ROWS2 : Fld := ⟨27, 22⟩
def fldBANK_REPAIR_COLS1 : Fld := ⟨21, 17⟩
def fldBANK_REPAIR_ROWS1 : Fld := ⟨16, 11⟩
def fldBANK_REPAIR_COLS0 : Fld := ⟨10, 6⟩
def fldBANK_REPAIR_ROWS0 : Fld := ⟨5, 0⟩
/-- Table 10.8: BANK_MODE. -/
def BANK_MODE : Nat := 0xf0003008000
def fldBANK_MODE_NOW : Fld := ⟨1, 1⟩
def fldBANK_MODE_SINGLE : Fld := ⟨0, 0⟩
/-- Table 10.9: BANK_MARCH_CTRL. -/
def BANK_MARCH_CTRL : Nat := 0xf0003008008
def fldBANK_MARCH_CTRL_GO : Fld := ⟨63, 63⟩
def fldBANK_MARCH_CTRL_MODE : Fld := ⟨16, 16⟩
def fldBANK_MARCH_CTRL_LAST : Fld := ⟨14, 8⟩
def fldBANK_MARCH_CTRL_FIRST : Fld := ⟨6, 0⟩
/-- Table 10.10: BANK_MARCH_STATUS. -/
def BANK_MARCH_STATUS : Nat := 0xf0003008010
def fldBANK_MARCH_STATUS_BUSY : Fld := ⟨63, 63⟩
def fldBANK_MARCH_STATUS_DONE : Fld := ⟨62, 62⟩
def fldBANK_MARCH_STATUS_FAIL : Fld := ⟨61, 61⟩
def fldBANK_MARCH_STATUS_BANK : Fld := ⟨38, 32⟩
def fldBANK_MARCH_STATUS_ROW : Fld := ⟨14, 0⟩
/-- Table 10.11: BANK_REGION. -/
def BANK_REGION (i j : Nat) : Nat := 0xf0003008400 + i * 0x20 + j * 0x8
def fldBANK_REGION_VALID : Fld := ⟨63, 63⟩
def fldBANK_REGION_LAST : Fld := ⟨13, 8⟩
def fldBANK_REGION_FIRST : Fld := ⟨5, 0⟩
/-- Table 10.12: STK_CFG. -/
def STK_CFG (i : Nat) : Nat := 0xf0004000000 + i * 0x100000
def fldSTK_CFG_DIEFAIL : Fld := ⟨39, 35⟩
def fldSTK_CFG_TSVSP : Fld := ⟨30, 24⟩
def fldSTK_CFG_DIETHR : Fld := ⟨23, 8⟩
def fldSTK_CFG_ILV : Fld := ⟨1, 0⟩
/-- Table 10.13: STK_PTE_SET. -/
def STK_PTE_SET (i : Nat) : Nat := 0xf0004000008 + i * 0x100000
def fldSTK_PTE_SET_COUNTM1 : Fld := ⟨63, 44⟩
def fldSTK_PTE_SET_FIRST : Fld := ⟨43, 24⟩
def fldSTK_PTE_SET_MIRROR : Fld := ⟨3, 3⟩
def fldSTK_PTE_SET_KIND : Fld := ⟨1, 0⟩
/-- Table 10.14: STK_PTE_STATUS. -/
def STK_PTE_STATUS (i : Nat) : Nat := 0xf0004000010 + i * 0x100000
def fldSTK_PTE_STATUS_BUSY : Fld := ⟨63, 63⟩
def fldSTK_PTE_STATUS_ERR : Fld := ⟨62, 62⟩
def fldSTK_PTE_STATUS_REASON : Fld := ⟨61, 58⟩
def fldSTK_PTE_STATUS_NEXT : Fld := ⟨19, 0⟩
/-- Table 10.15: STK_PTE_QUERY. -/
def STK_PTE_QUERY (i : Nat) : Nat := 0xf0004000018 + i * 0x100000
def fldSTK_PTE_QUERY_GRANULE : Fld := ⟨43, 24⟩
def fldSTK_PTE_QUERY_MIRROR : Fld := ⟨3, 3⟩
def fldSTK_PTE_QUERY_VER : Fld := ⟨2, 2⟩
def fldSTK_PTE_QUERY_KIND : Fld := ⟨1, 0⟩
/-- Table 10.16: STK_SCRUB. -/
def STK_SCRUB (i : Nat) : Nat := 0xf0004000020 + i * 0x100000
def fldSTK_SCRUB_EN : Fld := ⟨31, 31⟩
def fldSTK_SCRUB_HOURS : Fld := ⟨15, 0⟩
/-- Table 10.17: STK_SCRUB_STATUS. -/
def STK_SCRUB_STATUS (i : Nat) : Nat := 0xf0004000028 + i * 0x100000
def fldSTK_SCRUB_STATUS_POS : Fld := ⟨51, 32⟩
def fldSTK_SCRUB_STATUS_PASSES : Fld := ⟨31, 0⟩
/-- Table 10.18: STK_ECC. -/
def STK_ECC (i : Nat) : Nat := 0xf0004000030 + i * 0x100000
def fldSTK_ECC_UE : Fld := ⟨63, 32⟩
def fldSTK_ECC_CE : Fld := ⟨31, 0⟩
/-- Table 10.19: STK_PAGE_HIT. -/
def STK_PAGE_HIT (i : Nat) : Nat := 0xf0004000038 + i * 0x100000
def fldSTK_PAGE_HIT_OVF : Fld := ⟨63, 63⟩
def fldSTK_PAGE_HIT_COUNT : Fld := ⟨47, 0⟩
/-- Table 10.19: STK_PAGE_MISS. -/
def STK_PAGE_MISS (i : Nat) : Nat := 0xf0004000040 + i * 0x100000
def fldSTK_PAGE_MISS_OVF : Fld := ⟨63, 63⟩
def fldSTK_PAGE_MISS_COUNT : Fld := ⟨47, 0⟩
/-- Table 10.20: STK_REPAIR. -/
def STK_REPAIR (i : Nat) : Nat := 0xf0004000048 + i * 0x100000
def fldSTK_REPAIR_ROWS : Fld := ⟨48, 32⟩
def fldSTK_REPAIR_COLS : Fld := ⟨14, 0⟩

/-! ### R305, R306 -/
/-- Table 11.8: XFER_POST. -/
def XFER_POST (i : Nat) : Nat := 0xf0005000000 + i * 0x10000
def fldXFER_POST_DESC : Fld := ⟨43, 6⟩
/-- Table 11.9: XFER_STATUS. -/
def XFER_STATUS (i : Nat) : Nat := 0xf0005000008 + i * 0x10000
def fldXFER_STATUS_IDLE : Fld := ⟨63, 63⟩
def fldXFER_STATUS_TAGHWM : Fld := ⟨43, 32⟩
def fldXFER_STATUS_TAGS : Fld := ⟨27, 16⟩
def fldXFER_STATUS_ACTIVE : Fld := ⟨11, 8⟩
def fldXFER_STATUS_QUEUED : Fld := ⟨6, 0⟩
/-- Table 11.10: XFER_CTRL. -/
def XFER_CTRL (i : Nat) : Nat := 0xf0005000010 + i * 0x10000
def fldXFER_CTRL_CORE : Fld := ⟨13, 8⟩
def fldXFER_CTRL_ABORT : Fld := ⟨0, 0⟩
/-- Table 11.11: XFER_DONE_COUNT. -/
def XFER_DONE_COUNT (i : Nat) : Nat := 0xf0005000018 + i * 0x10000
def fldXFER_DONE_COUNT_OVF : Fld := ⟨63, 63⟩
def fldXFER_DONE_COUNT_COUNT : Fld := ⟨47, 0⟩
/-- Table 11.11: XFER_ERR_COUNT. -/
def XFER_ERR_COUNT (i : Nat) : Nat := 0xf0005000020 + i * 0x10000
def fldXFER_ERR_COUNT_OVF : Fld := ⟨63, 63⟩
def fldXFER_ERR_COUNT_COUNT : Fld := ⟨47, 0⟩
/-- Table 11.12: XFER_ERR. -/
def XFER_ERR (i : Nat) : Nat := 0xf0005000028 + i * 0x10000
def fldXFER_ERR_CODE : Fld := ⟨63, 60⟩
def fldXFER_ERR_ADDR : Fld := ⟨43, 0⟩
/-- Table 11.13: XFER_BYTES. -/
def XFER_BYTES (i : Nat) : Nat := 0xf0005000030 + i * 0x10000
def fldXFER_BYTES_OVF : Fld := ⟨63, 63⟩
def fldXFER_BYTES_COUNT : Fld := ⟨47, 0⟩
/-- Table 11.14: XFER_STALL. -/
def XFER_STALL (i j : Nat) : Nat := 0xf0005000100 + i * 0x10000 + j * 0x8
def fldXFER_STALL_OVF : Fld := ⟨63, 63⟩
def fldXFER_STALL_COUNT : Fld := ⟨47, 0⟩
/-- Table 11.15: CORE_ISSUE. -/
def CORE_ISSUE (i : Nat) : Nat := 0xf0001000f00 + i * 0x10000
def fldCORE_ISSUE_MISS : Fld := ⟨24, 16⟩
def fldCORE_ISSUE_NOW : Fld := ⟨1, 1⟩
def fldCORE_ISSUE_A20 : Fld := ⟨0, 0⟩
/-- Table 11.16: CORE_STALL. -/
def CORE_STALL (i j : Nat) : Nat := 0xf0001000f40 + i * 0x10000 + j * 0x8
def fldCORE_STALL_OVF : Fld := ⟨63, 63⟩
def fldCORE_STALL_COUNT : Fld := ⟨47, 0⟩

/-! ### R337, R338, R339 -/
/-- Table 12.12: RIDE_DEVICE. -/
def RIDE_DEVICE : Nat := 0xf0006300000
def fldRIDE_DEVICE_JOINED : Fld := ⟨31, 31⟩
def fldRIDE_DEVICE_NUMBER : Fld := ⟨17, 0⟩
/-- Table 12.13: RIDE_STATUS. -/
def RIDE_STATUS : Nat := 0xf0006300008
def fldRIDE_STATUS_FAILED : Fld := ⟨21, 16⟩
def fldRIDE_STATUS_TRAINING : Fld := ⟨13, 8⟩
def fldRIDE_STATUS_UP : Fld := ⟨5, 0⟩
/-- Table 12.14: RIDE_EVENT. -/
def RIDE_EVENT : Nat := 0xf0006300010
def fldRIDE_EVENT_EV : Fld := ⟨6, 0⟩
/-- Table 12.15: RIDE_EVENT_ROUTE. -/
def RIDE_EVENT_ROUTE : Nat := 0xf0006300018
def fldRIDE_EVENT_ROUTE_CORES : Fld := ⟨47, 0⟩
/-- Table 12.16: RIDE_PATHFAIL. -/
def RIDE_PATHFAIL : Nat := 0xf0006300020
def fldRIDE_PATHFAIL_DEVICE : Fld := ⟨17, 0⟩
/-- Table 12.17: RIDE_OUTSTANDING. -/
def RIDE_OUTSTANDING : Nat := 0xf0006300028
def fldRIDE_OUTSTANDING_HWM : Fld := ⟨48, 32⟩
def fldRIDE_OUTSTANDING_NOW : Fld := ⟨16, 0⟩
/-- Table 12.17: RIDE_STREAMS. -/
def RIDE_STREAMS : Nat := 0xf0006300030
def fldRIDE_STREAMS_HWM : Fld := ⟨48, 32⟩
def fldRIDE_STREAMS_NOW : Fld := ⟨16, 0⟩
/-- Table 12.18: RIDE_PATHFAIL_COUNT. -/
def RIDE_PATHFAIL_COUNT : Nat := 0xf0006300040
def fldRIDE_PATHFAIL_COUNT_OVF : Fld := ⟨63, 63⟩
def fldRIDE_PATHFAIL_COUNT_COUNT : Fld := ⟨47, 0⟩
/-- Table 12.18: RIDE_STALE_DROP. -/
def RIDE_STALE_DROP : Nat := 0xf0006300048
def fldRIDE_STALE_DROP_OVF : Fld := ⟨63, 63⟩
def fldRIDE_STALE_DROP_COUNT : Fld := ⟨47, 0⟩
/-- Table 12.18: RIDE_DUP_DROP. -/
def RIDE_DUP_DROP : Nat := 0xf0006300050
def fldRIDE_DUP_DROP_OVF : Fld := ⟨63, 63⟩
def fldRIDE_DUP_DROP_COUNT : Fld := ⟨47, 0⟩
/-- Table 12.18: RIDE_BUSY_SENT. -/
def RIDE_BUSY_SENT : Nat := 0xf0006300058
def fldRIDE_BUSY_SENT_OVF : Fld := ⟨63, 63⟩
def fldRIDE_BUSY_SENT_COUNT : Fld := ⟨47, 0⟩
/-- Table 12.18: RIDE_BUSY_RECV. -/
def RIDE_BUSY_RECV : Nat := 0xf0006300060
def fldRIDE_BUSY_RECV_OVF : Fld := ⟨63, 63⟩
def fldRIDE_BUSY_RECV_COUNT : Fld := ⟨47, 0⟩
/-- Table 12.18: RIDE_FAILOVER. -/
def RIDE_FAILOVER : Nat := 0xf0006300068
def fldRIDE_FAILOVER_OVF : Fld := ⟨63, 63⟩
def fldRIDE_FAILOVER_COUNT : Fld := ⟨47, 0⟩
/-- Table 12.18: RIDE_MIRROR_STALL. -/
def RIDE_MIRROR_STALL : Nat := 0xf0006300070
def fldRIDE_MIRROR_STALL_OVF : Fld := ⟨63, 63⟩
def fldRIDE_MIRROR_STALL_COUNT : Fld := ⟨47, 0⟩
/-- Table 12.19: RIDE_PORT_STATUS. -/
def RIDE_PORT_STATUS (i : Nat) : Nat := 0xf0006000000 + i * 0x10000
def fldRIDE_PORT_STATUS_LANES : Fld := ⟨14, 10⟩
def fldRIDE_PORT_STATUS_SPARE : Fld := ⟨6, 4⟩
def fldRIDE_PORT_STATUS_ACTIVE : Fld := ⟨3, 3⟩
def fldRIDE_PORT_STATUS_STATE : Fld := ⟨2, 0⟩
/-- Table 12.20: RIDE_PORT_CTRL. -/
def RIDE_PORT_CTRL (i : Nat) : Nat := 0xf0006000008 + i * 0x10000
def fldRIDE_PORT_CTRL_RETRAIN : Fld := ⟨32, 32⟩
def fldRIDE_PORT_CTRL_FECTHR : Fld := ⟨31, 0⟩
/-- Table 12.21: RIDE_PORT_FEC. -/
def RIDE_PORT_FEC (i : Nat) : Nat := 0xf0006000010 + i * 0x10000
def fldRIDE_PORT_FEC_OVF : Fld := ⟨63, 63⟩
def fldRIDE_PORT_FEC_COUNT : Fld := ⟨47, 0⟩
/-- Table 12.21: RIDE_PORT_BAD. -/
def RIDE_PORT_BAD (i : Nat) : Nat := 0xf0006000018 + i * 0x10000
def fldRIDE_PORT_BAD_OVF : Fld := ⟨63, 63⟩
def fldRIDE_PORT_BAD_COUNT : Fld := ⟨47, 0⟩
/-- Table 12.21: RIDE_PORT_REPLAY. -/
def RIDE_PORT_REPLAY (i : Nat) : Nat := 0xf0006000020 + i * 0x10000
def fldRIDE_PORT_REPLAY_OVF : Fld := ⟨63, 63⟩
def fldRIDE_PORT_REPLAY_COUNT : Fld := ⟨47, 0⟩
/-- Table 12.21: RIDE_PORT_RETRAIN. -/
def RIDE_PORT_RETRAIN (i : Nat) : Nat := 0xf0006000028 + i * 0x10000
def fldRIDE_PORT_RETRAIN_OVF : Fld := ⟨63, 63⟩
def fldRIDE_PORT_RETRAIN_COUNT : Fld := ⟨47, 0⟩
/-- Table 12.22: CORE_RSTAT. -/
def CORE_RSTAT (i : Nat) : Nat := 0xf0001000900 + i * 0x10000
def fldCORE_RSTAT_ERR : Fld := ⟨63, 63⟩
def fldCORE_RSTAT_CODE : Fld := ⟨55, 48⟩
def fldCORE_RSTAT_DEVICE : Fld := ⟨17, 0⟩
/-- Table 12.23: CORE_RFADDR. -/
def CORE_RFADDR (i : Nat) : Nat := 0xf0001000908 + i * 0x10000
def fldCORE_RFADDR_GADDR : Fld := ⟨63, 0⟩
/-- Table 12.24: CORE_ROUT. -/
def CORE_ROUT (i : Nat) : Nat := 0xf0001000910 + i * 0x10000
def fldCORE_ROUT_COUNT : Fld := ⟨8, 0⟩
/-- Table 12.25: CORE_RFAILS. -/
def CORE_RFAILS (i : Nat) : Nat := 0xf0001000918 + i * 0x10000
def fldCORE_RFAILS_OVF : Fld := ⟨63, 63⟩
def fldCORE_RFAILS_COUNT : Fld := ⟨47, 0⟩
/-- Table 12.26: BLZ_VALUE. -/
def BLZ_VALUE (i : Nat) : Nat := 0xf0100000000 + i * 0x40
def fldBLZ_VALUE_VALUE : Fld := ⟨31, 0⟩
/-- Table 12.27: BLZ_ADD. -/
def BLZ_ADD (i : Nat) : Nat := 0xf0100000008 + i * 0x40
def fldBLZ_ADD_AMOUNT : Fld := ⟨31, 0⟩
/-- Table 12.28: BLZ_CFG. -/
def BLZ_CFG (i : Nat) : Nat := 0xf0100000010 + i * 0x40
def fldBLZ_CFG_OWNER : Fld := ⟨5, 0⟩
/-- Table 12.29: BLZ_STATUS. -/
def BLZ_STATUS (i : Nat) : Nat := 0xf0100000018 + i * 0x40
def fldBLZ_STATUS_BLZ_OVF : Fld := ⟨63, 63⟩
def fldBLZ_STATUS_WAITERS : Fld := ⟨5, 0⟩

/-! ### R362 -/
/-- Table 13.7: FOR_POST. -/
def FOR_POST : Nat := 0xf0000020000
def fldFOR_POST_POST : Fld := ⟨63, 0⟩
/-- Table 13.8: FOR_STATUS. -/
def FOR_STATUS : Nat := 0xf0000020008
def fldFOR_STATUS_CATCHUP : Fld := ⟨63, 63⟩
def fldFOR_STATUS_ERRV : Fld := ⟨62, 62⟩
def fldFOR_STATUS_ERRCODE : Fld := ⟨59, 56⟩
def fldFOR_STATUS_READY : Fld := ⟨42, 32⟩
def fldFOR_STATUS_USED : Fld := ⟨10, 0⟩
/-- Table 13.9: FOR_BUDGET. -/
def FOR_BUDGET : Nat := 0xf0000020010
def fldFOR_BUDGET_LIMIT : Fld := ⟨43, 32⟩
def fldFOR_BUDGET_WATTS : Fld := ⟨11, 0⟩
/-- Table 13.10: FOR_CFG. -/
def FOR_CFG : Nat := 0xf0000020018
def fldFOR_CFG_HORIZON : Fld := ⟨47, 32⟩
def fldFOR_CFG_STARVE : Fld := ⟨31, 16⟩
def fldFOR_CFG_UNCORE : Fld := ⟨11, 0⟩
/-- Table 13.11: FOR_CREDIT_CFG. -/
def FOR_CREDIT_CFG : Nat := 0xf0000020020
def fldFOR_CREDIT_CFG_CAP : Fld := ⟨63, 32⟩
def fldFOR_CREDIT_CFG_RESERVE : Fld := ⟨31, 0⟩
/-- Table 13.12: FOR_THERM. -/
def FOR_THERM : Nat := 0xf0000020028
def fldFOR_THERM_HEAT : Fld := ⟨63, 63⟩
def fldFOR_THERM_FMAX : Fld := ⟨23, 16⟩
def fldFOR_THERM_TLIM : Fld := ⟨11, 0⟩
/-- Table 13.13: FOR_INLET. -/
def FOR_INLET : Nat := 0xf0000020030
def fldFOR_INLET_TEMP : Fld := ⟨11, 0⟩
/-- Table 13.14: FOR_CANCEL. -/
def FOR_CANCEL : Nat := 0xf0000020038
def fldFOR_CANCEL_MODE : Fld := ⟨63, 63⟩
def fldFOR_CANCEL_SUB : Fld := ⟨5, 0⟩
/-- Table 13.15: FOR_CAD_POST. -/
def FOR_CAD_POST : Nat := 0xf0000020040
def fldFOR_CAD_POST_POST : Fld := ⟨63, 0⟩
/-- Table 13.16: FOR_Q. -/
def FOR_Q (i : Nat) : Nat := 0xf0000020080 + i * 0x8
def fldFOR_Q_CREDIT : Fld := ⟨63, 32⟩
def fldFOR_Q_DRAW : Fld := ⟨31, 16⟩
def fldFOR_Q_ALLOT : Fld := ⟨15, 0⟩
/-- Table 13.17: FOR_QT. -/
def FOR_QT (i : Nat) : Nat := 0xf00000200a0 + i * 0x8
def fldFOR_QT_TPRED : Fld := ⟨43, 32⟩
def fldFOR_QT_FCAP : Fld := ⟨23, 16⟩
def fldFOR_QT_THROTTLE : Fld := ⟨0, 0⟩
/-- Table 13.18: FOR_CLASS. -/
def FOR_CLASS (i : Nat) : Nat := 0xf0000020100 + i * 0x8
def fldFOR_CLASS_POWER : Fld := ⟨15, 0⟩
/-- Table 13.19: FOR_ACT. -/
def FOR_ACT (i : Nat) : Nat := 0xf0000020200 + i * 0x10
def fldFOR_ACT_EN : Fld := ⟨63, 63⟩
def fldFOR_ACT_DEFER : Fld := ⟨62, 62⟩
def fldFOR_ACT_MAXDEFER : Fld := ⟨55, 48⟩
def fldFOR_ACT_PERIOD : Fld := ⟨31, 0⟩
/-- Table 13.19: FOR_ACT_STATE. -/
def FOR_ACT_STATE (i : Nat) : Nat := 0xf0000020208 + i * 0x10
def fldFOR_ACT_STATE_LAG : Fld := ⟨63, 32⟩
def fldFOR_ACT_STATE_DEFERRED : Fld := ⟨15, 0⟩
/-- Table 13.20: FOR_CORE. -/
def FOR_CORE (i : Nat) : Nat := 0xf0000020400 + i * 0x8
def fldFOR_CORE_BUSY : Fld := ⟨63, 63⟩
def fldFOR_CORE_HOLD : Fld := ⟨62, 62⟩
def fldFOR_CORE_DONE : Fld := ⟨61, 61⟩
def fldFOR_CORE_EN : Fld := ⟨60, 60⟩
def fldFOR_CORE_SLOT : Fld := ⟨57, 48⟩
def fldFOR_CORE_DESC : Fld := ⟨43, 6⟩
/-- Table 13.21: FOR_DISPATCHES. -/
def FOR_DISPATCHES : Nat := 0xf0000020700
def fldFOR_DISPATCHES_OVF : Fld := ⟨63, 63⟩
def fldFOR_DISPATCHES_COUNT : Fld := ⟨47, 0⟩
/-- Table 13.21: FOR_HOLDS. -/
def FOR_HOLDS : Nat := 0xf0000020708
def fldFOR_HOLDS_OVF : Fld := ⟨63, 63⟩
def fldFOR_HOLDS_COUNT : Fld := ⟨47, 0⟩
/-- Table 13.21: FOR_THROTTLES. -/
def FOR_THROTTLES : Nat := 0xf0000020710
def fldFOR_THROTTLES_OVF : Fld := ⟨63, 63⟩
def fldFOR_THROTTLES_COUNT : Fld := ⟨47, 0⟩
/-- Table 13.21: FOR_DEFERS. -/
def FOR_DEFERS : Nat := 0xf0000020718
def fldFOR_DEFERS_OVF : Fld := ⟨63, 63⟩
def fldFOR_DEFERS_COUNT : Fld := ⟨47, 0⟩
/-- Table 13.21: FOR_LATE. -/
def FOR_LATE : Nat := 0xf0000020720
def fldFOR_LATE_OVF : Fld := ⟨63, 63⟩
def fldFOR_LATE_COUNT : Fld := ⟨47, 0⟩
/-- Table 13.21: FOR_POSTWAIT. -/
def FOR_POSTWAIT : Nat := 0xf0000020728
def fldFOR_POSTWAIT_OVF : Fld := ⟨63, 63⟩
def fldFOR_POSTWAIT_COUNT : Fld := ⟨47, 0⟩

/-! ### R388, R389 -/
/-- Table 14.11: PWR_STATE. -/
def PWR_STATE : Nat := 0xf0000030000
def fldPWR_STATE_TRIPPED : Fld := ⟨63, 63⟩
def fldPWR_STATE_DOMON : Fld := ⟨43, 4⟩
def fldPWR_STATE_STATE : Fld := ⟨2, 0⟩
/-- Table 14.12: PWR_WAKE_LAST. -/
def PWR_WAKE_LAST : Nat := 0xf0000030008
def fldPWR_WAKE_LAST_STAMP : Fld := ⟨63, 16⟩
def fldPWR_WAKE_LAST_FROM : Fld := ⟨6, 4⟩
def fldPWR_WAKE_LAST_SOURCE : Fld := ⟨3, 0⟩
/-- Table 14.13: PWR_WAKE_EN. -/
def PWR_WAKE_EN : Nat := 0xf0000030010
def fldPWR_WAKE_EN_GPIO : Fld := ⟨19, 16⟩
def fldPWR_WAKE_EN_EN : Fld := ⟨7, 3⟩
/-- Table 14.14: PWR_WAKE_TIMER. -/
def PWR_WAKE_TIMER : Nat := 0xf0000030018
def fldPWR_WAKE_TIMER_CMP : Fld := ⟨63, 0⟩
/-- Table 14.15: PWR_AVS_CFG. -/
def PWR_AVS_CFG : Nat := 0xf0000030020
def fldPWR_AVS_CFG_TIMEOUT : Fld := ⟨31, 16⟩
def fldPWR_AVS_CFG_SLEW : Fld := ⟨15, 8⟩
def fldPWR_AVS_CFG_CLKDIV : Fld := ⟨7, 0⟩
/-- Table 14.16: PWR_AVS_STATUS. -/
def PWR_AVS_STATUS : Nat := 0xf0000030028
def fldPWR_AVS_STATUS_BUSY1 : Fld := ⟨63, 63⟩
def fldPWR_AVS_STATUS_BUSY0 : Fld := ⟨62, 62⟩
def fldPWR_AVS_STATUS_LOCK : Fld := ⟨12, 8⟩
def fldPWR_AVS_STATUS_FAIL : Fld := ⟨4, 0⟩
/-- Table 14.17: PWR_RAIL. -/
def PWR_RAIL (i : Nat) : Nat := 0xf0000030040 + i * 0x8
def fldPWR_RAIL_NEED : Fld := ⟨47, 32⟩
def fldPWR_RAIL_TARGET : Fld := ⟨31, 16⟩
def fldPWR_RAIL_NOW : Fld := ⟨15, 0⟩
/-- Table 14.18: PWR_CORE. -/
def PWR_CORE (i : Nat) : Nat := 0xf0000030100 + i * 0x8
def fldPWR_CORE_STATE : Fld := ⟨63, 61⟩
def fldPWR_CORE_REST : Fld := ⟨60, 60⟩
def fldPWR_CORE_WSRC : Fld := ⟨59, 56⟩
def fldPWR_CORE_VNEED : Fld := ⟨55, 40⟩
def fldPWR_CORE_FREQ : Fld := ⟨28, 24⟩
def fldPWR_CORE_FREQREQ : Fld := ⟨20, 16⟩
/-- Table 14.19: PWR_VF_CHANGES. -/
def PWR_VF_CHANGES : Nat := 0xf0000030700
def fldPWR_VF_CHANGES_OVF : Fld := ⟨63, 63⟩
def fldPWR_VF_CHANGES_COUNT : Fld := ⟨47, 0⟩
/-- Table 14.19: PWR_AVS_FRAMES. -/
def PWR_AVS_FRAMES : Nat := 0xf0000030708
def fldPWR_AVS_FRAMES_OVF : Fld := ⟨63, 63⟩
def fldPWR_AVS_FRAMES_COUNT : Fld := ⟨47, 0⟩
/-- Table 14.19: PWR_AVS_RETRY. -/
def PWR_AVS_RETRY : Nat := 0xf0000030710
def fldPWR_AVS_RETRY_OVF : Fld := ⟨63, 63⟩
def fldPWR_AVS_RETRY_COUNT : Fld := ⟨47, 0⟩
/-- Table 14.19: PWR_AVS_TIMEOUT. -/
def PWR_AVS_TIMEOUT : Nat := 0xf0000030718
def fldPWR_AVS_TIMEOUT_OVF : Fld := ⟨63, 63⟩
def fldPWR_AVS_TIMEOUT_COUNT : Fld := ⟨47, 0⟩
/-- Table 14.19: PWR_OSC_CAL. -/
def PWR_OSC_CAL : Nat := 0xf0000030720
def fldPWR_OSC_CAL_OVF : Fld := ⟨63, 63⟩
def fldPWR_OSC_CAL_COUNT : Fld := ⟨47, 0⟩
/-- Table 14.20: AGE_CFG. -/
def AGE_CFG : Nat := 0xf0000040000
def fldAGE_CFG_VMAX : Fld := ⟨63, 48⟩
def fldAGE_CFG_LIMIT : Fld := ⟨47, 32⟩
def fldAGE_CFG_GUARD : Fld := ⟨31, 16⟩
def fldAGE_CFG_PERIOD : Fld := ⟨15, 0⟩
/-- Table 14.21: AGE_STATUS. -/
def AGE_STATUS : Nat := 0xf0000040008
def fldAGE_STATUS_BUSY : Fld := ⟨63, 63⟩
def fldAGE_STATUS_BASE : Fld := ⟨62, 62⟩
def fldAGE_STATUS_WORN : Fld := ⟨61, 61⟩
def fldAGE_STATUS_PLANS : Fld := ⟨31, 0⟩
/-- Table 14.22: AGE_CTRL. -/
def AGE_CTRL : Nat := 0xf0000040010
def fldAGE_CTRL_PLAN : Fld := ⟨1, 1⟩
def fldAGE_CTRL_MEASURE : Fld := ⟨0, 0⟩
/-- Table 14.23: AGE_HOURS. -/
def AGE_HOURS : Nat := 0xf0000040018
def fldAGE_HOURS_LASTPLAN : Fld := ⟨63, 32⟩
def fldAGE_HOURS_HOURS : Fld := ⟨31, 0⟩
/-- Table 14.24: AGE_VSRAM. -/
def AGE_VSRAM : Nat := 0xf0000040020
def fldAGE_VSRAM_V : Fld := ⟨15, 0⟩
/-- Table 14.25: AGE_SPARES. -/
def AGE_SPARES : Nat := 0xf0000040028
def fldAGE_SPARES_TSVS : Fld := ⟨53, 44⟩
def fldAGE_SPARES_LANES : Fld := ⟨43, 38⟩
def fldAGE_SPARES_COLS : Fld := ⟨37, 30⟩
def fldAGE_SPARES_WAYS : Fld := ⟨29, 22⟩
def fldAGE_SPARES_PORTS : Fld := ⟨21, 18⟩
def fldAGE_SPARES_BANKS : Fld := ⟨17, 14⟩
def fldAGE_SPARES_CORES : Fld := ⟨13, 10⟩
/-- Table 14.26: AGE_ISLAND. -/
def AGE_ISLAND (i : Nat) : Nat := 0xf0000040100 + i * 0x8
def fldAGE_ISLAND_WORN : Fld := ⟨63, 63⟩
def fldAGE_ISLAND_RETIRE : Fld := ⟨62, 62⟩
def fldAGE_ISLAND_DREP : Fld := ⟨47, 32⟩
def fldAGE_ISLAND_DRO : Fld := ⟨31, 16⟩
def fldAGE_ISLAND_DELTA : Fld := ⟨15, 0⟩
/-- Table 14.27: AGE_VTAB. -/
def AGE_VTAB (i j : Nat) : Nat := 0xf0000041000 + i * 0x100 + j * 0x8
def fldAGE_VTAB_V : Fld := ⟨15, 0⟩
/-- Table 14.27: AGE_MON. -/
def AGE_MON (i j : Nat) : Nat := 0xf0000044000 + i * 0x40 + j * 0x8
def fldAGE_MON_READING : Fld := ⟨31, 0⟩

/-! ### R412, R413 -/
/-- Table 15.7: CAN_STATUS. -/
def CAN_STATUS : Nat := 0xf0000000000
def fldCAN_STATUS_PENDING : Fld := ⟨63, 63⟩
def fldCAN_STATUS_LFAIL : Fld := ⟨62, 62⟩
def fldCAN_STATUS_LCODE : Fld := ⟨55, 48⟩
def fldCAN_STATUS_SECTION : Fld := ⟨47, 32⟩
def fldCAN_STATUS_LAUNCHES : Fld := ⟨31, 0⟩
/-- Table 15.8: CAN_BOOT_SERIAL. -/
def CAN_BOOT_SERIAL : Nat := 0xf0000000008
def fldCAN_BOOT_SERIAL_SERIAL : Fld := ⟨63, 0⟩
/-- Table 15.9: CAN_LAUNCH_SERIAL. -/
def CAN_LAUNCH_SERIAL : Nat := 0xf0000000010
def fldCAN_LAUNCH_SERIAL_SERIAL : Fld := ⟨63, 0⟩
/-- Table 15.10: CAN_FAULT. -/
def CAN_FAULT : Nat := 0xf0000000018
def fldCAN_FAULT_DETAIL : Fld := ⟨63, 32⟩
def fldCAN_FAULT_OFFSET : Fld := ⟨31, 0⟩
/-- Table 15.11: CAN_POLICY. -/
def CAN_POLICY : Nat := 0xf0000000020
def fldCAN_POLICY_DRAIN_MS : Fld := ⟨63, 48⟩
def fldCAN_POLICY_LAUNCH_SIG : Fld := ⟨1, 1⟩
def fldCAN_POLICY_WINDTHROW : Fld := ⟨0, 0⟩
/-- Table 15.12: WDN_BOOT. -/
def WDN_BOOT : Nat := 0xf0000010000
def fldWDN_BOOT_STEP : Fld := ⟨63, 60⟩
def fldWDN_BOOT_FAILSTEP : Fld := ⟨59, 56⟩
def fldWDN_BOOT_FCODE : Fld := ⟨55, 48⟩
def fldWDN_BOOT_IMAGE : Fld := ⟨47, 47⟩
def fldWDN_BOOT_FALLBACK : Fld := ⟨46, 46⟩
def fldWDN_BOOT_RECOVERY : Fld := ⟨45, 45⟩
def fldWDN_BOOT_RESHAPED : Fld := ⟨44, 44⟩
def fldWDN_BOOT_READY_MS : Fld := ⟨31, 0⟩
/-- Table 15.13: WDN_MBOX_POST. -/
def WDN_MBOX_POST : Nat := 0xf0000010008
def fldWDN_MBOX_POST_REQ : Fld := ⟨43, 6⟩
/-- Table 15.14: WDN_MBOX_STATUS. -/
def WDN_MBOX_STATUS : Nat := 0xf0000010010
def fldWDN_MBOX_STATUS_IDLE : Fld := ⟨63, 63⟩
def fldWDN_MBOX_STATUS_QUEUED : Fld := ⟨52, 48⟩
def fldWDN_MBOX_STATUS_SERVED : Fld := ⟨47, 0⟩
/-- Table 15.15: WDN_SVCQ_BASE. -/
def WDN_SVCQ_BASE : Nat := 0xf0000010018
def fldWDN_SVCQ_BASE_BASE : Fld := ⟨43, 6⟩
def fldWDN_SVCQ_BASE_LOG2N : Fld := ⟨3, 0⟩
/-- Table 15.16: WDN_SVCQ_HEAD. -/
def WDN_SVCQ_HEAD : Nat := 0xf0000010020
def fldWDN_SVCQ_HEAD_COUNT : Fld := ⟨31, 0⟩
/-- Table 15.16: WDN_SVCQ_TAIL. -/
def WDN_SVCQ_TAIL : Nat := 0xf0000010028
def fldWDN_SVCQ_TAIL_COUNT : Fld := ⟨31, 0⟩
/-- Table 15.17: WDN_DIEID. -/
def WDN_DIEID : Nat := 0xf0000010030
def fldWDN_DIEID_DIEID : Fld := ⟨63, 0⟩
/-- Table 15.18: WDN_SVN. -/
def WDN_SVN : Nat := 0xf0000010038
def fldWDN_SVN_OWNER : Fld := ⟨16, 16⟩
def fldWDN_SVN_FLOOR : Fld := ⟨15, 8⟩
def fldWDN_SVN_SVN : Fld := ⟨7, 0⟩
/-- Table 15.19: WDN_MEAS. -/
def WDN_MEAS (i j : Nat) : Nat := 0xf0000010100 + i * 0x20 + j * 0x8
def fldWDN_MEAS_BYTES : Fld := ⟨63, 0⟩

/-! ### R426, R427 -/
/-- Table 16.7: FLT_HEAD. -/
def FLT_HEAD : Nat := 0xf0000070000
def fldFLT_HEAD_SEQ : Fld := ⟨63, 0⟩
/-- Table 16.7: FLT_OLDEST. -/
def FLT_OLDEST : Nat := 0xf0000070008
def fldFLT_OLDEST_SEQ : Fld := ⟨63, 0⟩
/-- Table 16.8: FLT_SEL. -/
def FLT_SEL : Nat := 0xf0000070010
def fldFLT_SEL_SEQ : Fld := ⟨63, 0⟩
/-- Table 16.9: FLT_REC. -/
def FLT_REC (i : Nat) : Nat := 0xf0000070040 + i * 0x8
def fldFLT_REC_BYTES : Fld := ⟨63, 0⟩
/-- Table 16.10: FLT_ROUTE. -/
def FLT_ROUTE : Nat := 0xf0000070018
def fldFLT_ROUTE_MINSEV : Fld := ⟨18, 16⟩
def fldFLT_ROUTE_SWI : Fld := ⟨12, 8⟩
def fldFLT_ROUTE_CORE : Fld := ⟨5, 0⟩
/-- Table 16.10: FLT_CFG. -/
def FLT_CFG : Nat := 0xf0000070020
def fldFLT_CFG_CEWIN : Fld := ⟨15, 0⟩
/-- Table 16.11: FLT_RECORDS. -/
def FLT_RECORDS : Nat := 0xf0000070100
def fldFLT_RECORDS_OVF : Fld := ⟨63, 63⟩
def fldFLT_RECORDS_COUNT : Fld := ⟨47, 0⟩
/-- Table 16.11: FLT_LOST. -/
def FLT_LOST : Nat := 0xf0000070108
def fldFLT_LOST_OVF : Fld := ⟨63, 63⟩
def fldFLT_LOST_COUNT : Fld := ⟨47, 0⟩
/-- Table 16.11: FLT_CE_SUPPRESSED. -/
def FLT_CE_SUPPRESSED : Nat := 0xf0000070110
def fldFLT_CE_SUPPRESSED_OVF : Fld := ⟨63, 63⟩
def fldFLT_CE_SUPPRESSED_COUNT : Fld := ⟨47, 0⟩
/-- Table 16.11: FLT_INJECTED. -/
def FLT_INJECTED : Nat := 0xf0000070118
def fldFLT_INJECTED_OVF : Fld := ⟨63, 63⟩
def fldFLT_INJECTED_COUNT : Fld := ⟨47, 0⟩
/-- Table 16.12: FLT_MCSEQ. -/
def FLT_MCSEQ (i : Nat) : Nat := 0xf0000070200 + i * 0x8
def fldFLT_MCSEQ_SEQ : Fld := ⟨63, 0⟩
/-- Table 16.13: WT_CTRL. -/
def WT_CTRL : Nat := 0xf0000060000
def fldWT_CTRL_ALLOWED : Fld := ⟨63, 63⟩
def fldWT_CTRL_EN : Fld := ⟨0, 0⟩
/-- Table 16.13: WT_SEED. -/
def WT_SEED : Nat := 0xf0000060008
def fldWT_SEED_SEED : Fld := ⟨31, 0⟩
/-- Table 16.14: WT_POINT. -/
def WT_POINT (i : Nat) : Nat := 0xf0000060040 + i * 0x8
def fldWT_POINT_ON : Fld := ⟨63, 63⟩
def fldWT_POINT_COUNT : Fld := ⟨47, 32⟩
def fldWT_POINT_PARAM : Fld := ⟨31, 24⟩
def fldWT_POINT_RATE : Fld := ⟨23, 20⟩
def fldWT_POINT_TARGET : Fld := ⟨19, 0⟩
/-- Table 16.15: WT_INJECT. -/
def WT_INJECT (i : Nat) : Nat := 0xf0000060100 + i * 0x8
def fldWT_INJECT_OVF : Fld := ⟨63, 63⟩
def fldWT_INJECT_COUNT : Fld := ⟨47, 0⟩
/-- Table 16.16: WT_STATUS. -/
def WT_STATUS : Nat := 0xf0000060018
def fldWT_STATUS_ACTIVE : Fld := ⟨5, 0⟩

end Sys2Proof.Machine
end

