-- ==== Sys2Proof/Machine/RegTable.lean ====
section
/-! DEFINITION. The register table: each register's fields with their access codes (Table 0.5) and reset values (R9).
A reset entry of canopy, entropy, fuse or record stands here as 0: assumptions 4 and 5. -/
namespace Sys2Proof.Machine

/-- The access codes of Table 0.5 (R5). -/
inductive Acc where
  | ro | rw | w1c | w1s | rc | wo | ll | ci
  deriving DecidableEq, Repr

/-- A field of a register: its bits, its access code and its reset value. -/
structure RegFld where
  fld : Fld
  acc : Acc
  reset : Nat
  deriving DecidableEq, Repr

/-- One register, or an array of like registers: the first address, the extents and strides, the fields. -/
structure RegRow where
  base : Nat
  dims : List (Nat × Nat)
  flds : List RegFld
  deriving DecidableEq, Repr

/-- Registers of R53. -/
def regRows02 : List RegRow := [
  ⟨CORE_ID 0, [(48, 0x10000)], [⟨fldCORE_ID_PHYS, .ro, 0⟩, ⟨fldCORE_ID_QUAD, .ro, 0⟩,
    ⟨fldCORE_ID_LOGICAL, .ro, 0⟩]⟩,
  ⟨CORE_STATUS 0, [(48, 0x10000)], [⟨fldCORE_STATUS_QW, .ro, 0⟩, ⟨fldCORE_STATUS_RSV, .ro, 0⟩,
    ⟨fldCORE_STATUS_STOPPED, .ro, 1⟩, ⟨fldCORE_STATUS_STEP, .rw, 0⟩, ⟨fldCORE_STATUS_IE, .rw, 0⟩,
    ⟨fldCORE_STATUS_LEVEL, .ro, 1⟩]⟩,
  ⟨CORE_RSP 0, [(48, 0x10000)], [⟨fldCORE_RSP_RSP, .rw, 0⟩]⟩,
  ⟨CORE_CAUSE 0, [(48, 0x10000)], [⟨fldCORE_CAUSE_INSTR, .ro, 0⟩, ⟨fldCORE_CAUSE_FROM_LEVEL, .ro, 0⟩,
    ⟨fldCORE_CAUSE_VECTOR, .ro, 0⟩]⟩,
  ⟨CORE_FADDR 0, [(48, 0x10000)], [⟨fldCORE_FADDR_FADDR, .ro, 0⟩]⟩,
  ⟨CORE_IPEND 0, [(48, 0x10000)], [⟨fldCORE_IPEND_PEND, .w1c, 0⟩]⟩,
  ⟨CORE_IEN 0, [(48, 0x10000)], [⟨fldCORE_IEN_EN, .rw, 0⟩]⟩,
  ⟨CORE_SWI 0, [(48, 0x10000)], [⟨fldCORE_SWI_SWI, .wo, 0⟩]⟩,
  ⟨CORE_CYCLE 0, [(48, 0x10000)], [⟨fldCORE_CYCLE_CYCLE, .ro, 0⟩]⟩,
  ⟨CORE_REFTIME 0, [(48, 0x10000)], [⟨fldCORE_REFTIME_REFTIME, .ro, 0⟩]⟩,
  ⟨CORE_TIMER_CMP 0, [(48, 0x10000)], [⟨fldCORE_TIMER_CMP_CMP, .rw, 0xffffffffffffffff⟩]⟩,
  ⟨CORE_QWIN 0, [(48, 0x10000)], [⟨fldCORE_QWIN_CLAMP, .w1c, 0⟩, ⟨fldCORE_QWIN_OPEN, .ro, 0⟩,
    ⟨fldCORE_QWIN_REMAIN, .ro, 0⟩]⟩,
  ⟨CORE_QREFUSE 0, [(48, 0x10000)], [⟨fldCORE_QREFUSE_OVF, .w1c, 0⟩, ⟨fldCORE_QREFUSE_COUNT, .ro, 0⟩]⟩,
  ⟨CORE_EXC_COUNT 0, [(48, 0x10000)], [⟨fldCORE_EXC_COUNT_OVF, .w1c, 0⟩, ⟨fldCORE_EXC_COUNT_COUNT, .ro, 0⟩]⟩,
  ⟨CORE_STOPINFO 0, [(48, 0x10000)], [⟨fldCORE_STOPINFO_VECTOR2, .ro, 0⟩, ⟨fldCORE_STOPINFO_REASON, .ro, 4⟩,
    ⟨fldCORE_STOPINFO_PC, .ro, 0⟩]⟩,
  ⟨CORE_FSTAT 0, [(48, 0x10000)], [⟨fldCORE_FSTAT_RM, .rw, 0⟩, ⟨fldCORE_FSTAT_NV, .rw, 0⟩,
    ⟨fldCORE_FSTAT_DZ, .rw, 0⟩, ⟨fldCORE_FSTAT_OF, .rw, 0⟩, ⟨fldCORE_FSTAT_UF, .rw, 0⟩,
    ⟨fldCORE_FSTAT_NX, .rw, 0⟩]⟩]

/-- Registers of R82. -/
def regRows03 : List RegRow := [
  ⟨NUM_MODE 0, [(48, 0x10000)], [⟨fldNUM_MODE_UPD_SAT, .rw, 0⟩, ⟨fldNUM_MODE_UPD_FTZ, .rw, 0⟩,
    ⟨fldNUM_MODE_TILE_SCSEL, .rw, 0⟩, ⟨fldNUM_MODE_TILE_SAT, .rw, 0⟩, ⟨fldNUM_MODE_TILE_FTZ, .rw, 0⟩,
    ⟨fldNUM_MODE_VEC_SCSEL, .rw, 0⟩, ⟨fldNUM_MODE_VEC_SAT, .rw, 0⟩, ⟨fldNUM_MODE_VEC_FTZ, .rw, 0⟩]⟩,
  ⟨NUM_FLAGS 0, [(48, 0x10000)], [⟨fldNUM_FLAGS_UPD, .w1c, 0⟩, ⟨fldNUM_FLAGS_TILE, .w1c, 0⟩,
    ⟨fldNUM_FLAGS_VEC, .w1c, 0⟩]⟩,
  ⟨NUM_VEC_SAT 0, [(48, 0x10000)], [⟨fldNUM_VEC_SAT_COUNT, .rw, 0⟩]⟩,
  ⟨NUM_VEC_FLUSH 0, [(48, 0x10000)], [⟨fldNUM_VEC_FLUSH_COUNT, .rw, 0⟩]⟩,
  ⟨NUM_TILE_SAT 0, [(48, 0x10000)], [⟨fldNUM_TILE_SAT_COUNT, .rw, 0⟩]⟩,
  ⟨NUM_TILE_FLUSH 0, [(48, 0x10000)], [⟨fldNUM_TILE_FLUSH_COUNT, .rw, 0⟩]⟩,
  ⟨NUM_UPD_SAT 0, [(48, 0x10000)], [⟨fldNUM_UPD_SAT_COUNT, .rw, 0⟩]⟩,
  ⟨NUM_UPD_FLUSH 0, [(48, 0x10000)], [⟨fldNUM_UPD_FLUSH_COUNT, .rw, 0⟩]⟩,
  ⟨NUM_RESIDUE 0, [(48, 0x10000)], [⟨fldNUM_RESIDUE_OVF, .w1c, 0⟩, ⟨fldNUM_RESIDUE_COUNT, .ro, 0⟩]⟩]

/-- Registers of R118. -/
def regRows04 : List RegRow := [
  ⟨TILE_CFG 0, [(48, 0x10000)], [⟨fldTILE_CFG_OUT, .ro, 0⟩, ⟨fldTILE_CFG_ACTIVE, .ro, 0⟩,
    ⟨fldTILE_CFG_SPARE, .ro, 0⟩, ⟨fldTILE_CFG_ARRAYS, .ci, 0⟩]⟩,
  ⟨TILE_INUSE 0, [(48, 0x10000)], [⟨fldTILE_INUSE_INUSE, .rw, 0⟩]⟩,
  ⟨TILE_RAMP 0, [(48, 0x10000)], [⟨fldTILE_RAMP_DOWN, .ro, 0⟩, ⟨fldTILE_RAMP_LEVEL, .ro, 0⟩]⟩,
  ⟨TILE_FINFO 0, [(48, 0x10000)], [⟨fldTILE_FINFO_REASON, .ro, 0⟩, ⟨fldTILE_FINFO_MROW, .ro, 0⟩,
    ⟨fldTILE_FINFO_OFFSET, .ro, 0⟩]⟩,
  ⟨TILE_BUSY 0, [(48, 0x10000)], [⟨fldTILE_BUSY_OVF, .w1c, 0⟩, ⟨fldTILE_BUSY_COUNT, .ro, 0⟩]⟩,
  ⟨TILE_RAMPLOSS 0, [(48, 0x10000)], [⟨fldTILE_RAMPLOSS_OVF, .w1c, 0⟩, ⟨fldTILE_RAMPLOSS_COUNT, .ro, 0⟩]⟩,
  ⟨TILE_REUSE 0, [(48, 0x10000)], [⟨fldTILE_REUSE_OVF, .w1c, 0⟩, ⟨fldTILE_REUSE_COUNT, .ro, 0⟩]⟩,
  ⟨TILE_RESTART 0, [(48, 0x10000)], [⟨fldTILE_RESTART_OVF, .w1c, 0⟩, ⟨fldTILE_RESTART_COUNT, .ro, 0⟩]⟩,
  ⟨TILE_PORTWAIT 0, [(48, 0x10000)], [⟨fldTILE_PORTWAIT_OVF, .w1c, 0⟩, ⟨fldTILE_PORTWAIT_COUNT, .ro, 0⟩]⟩]

/-- Registers of R151. -/
def regRows05 : List RegRow := [
  ⟨VEC_VL 0, [(48, 0x10000)], [⟨fldVEC_VL_VL, .rw, 0⟩]⟩,
  ⟨VEC_VPROG 0, [(48, 0x10000)], [⟨fldVEC_VPROG_DONE, .rw, 0⟩]⟩,
  ⟨VEC_STATUS 0, [(48, 0x10000)], [⟨fldVEC_STATUS_FF, .w1c, 0⟩, ⟨fldVEC_STATUS_UNRET, .ro, 0⟩]⟩,
  ⟨VEC_RNG 0, [(48, 0x10000)], [⟨fldVEC_RNG_MODE, .rw, 0⟩]⟩,
  ⟨VEC_RNG_SHARD 0, [(48, 0x10000)], [⟨fldVEC_RNG_SHARD_SHARD, .rw, 0⟩]⟩,
  ⟨VEC_RNG_RING 0, [(48, 0x10000)], [⟨fldVEC_RNG_RING_RING, .ro, 0⟩]⟩,
  ⟨VEC_BUSY 0, [(48, 0x10000)], [⟨fldVEC_BUSY_OVF, .w1c, 0⟩, ⟨fldVEC_BUSY_COUNT, .ro, 0⟩]⟩,
  ⟨VEC_MISALIGN 0, [(48, 0x10000)], [⟨fldVEC_MISALIGN_OVF, .w1c, 0⟩, ⟨fldVEC_MISALIGN_COUNT, .ro, 0⟩]⟩,
  ⟨VEC_RESUME 0, [(48, 0x10000)], [⟨fldVEC_RESUME_OVF, .w1c, 0⟩, ⟨fldVEC_RESUME_COUNT, .ro, 0⟩]⟩,
  ⟨VEC_RNG_STATE 0 0, [(48, 0x10000), (32, 0x8)], [⟨fldVEC_RNG_STATE_STATE, .rw, 0⟩]⟩]

/-- Registers of R178. -/
def regRows06 : List RegRow := [
  ⟨UPD_PIVOT_MIN 0, [(48, 0x10000)], [⟨fldUPD_PIVOT_MIN_MIN, .rw, 0x37800000⟩]⟩,
  ⟨UPD_FALLBACK 0, [(48, 0x10000)], [⟨fldUPD_FALLBACK_FLAG, .w1c, 0⟩, ⟨fldUPD_FALLBACK_SET, .wo, 0⟩,
    ⟨fldUPD_FALLBACK_SHARD, .rw, 0⟩]⟩,
  ⟨UPD_FALLBACK_COUNT 0, [(48, 0x10000)], [⟨fldUPD_FALLBACK_COUNT_OVF, .w1c, 0⟩,
    ⟨fldUPD_FALLBACK_COUNT_INC, .wo, 0⟩, ⟨fldUPD_FALLBACK_COUNT_COUNT, .ro, 0⟩]⟩,
  ⟨UPD_DONE_COUNT 0, [(48, 0x10000)], [⟨fldUPD_DONE_COUNT_OVF, .w1c, 0⟩, ⟨fldUPD_DONE_COUNT_INC, .wo, 0⟩,
    ⟨fldUPD_DONE_COUNT_COUNT, .ro, 0⟩]⟩,
  ⟨UPD_STATUS 0, [(48, 0x10000)], [⟨fldUPD_STATUS_SHARD, .rw, 0⟩, ⟨fldUPD_STATUS_PHASE, .rw, 0⟩]⟩,
  ⟨UPD_CLIP 0, [(48, 0x10000)], [⟨fldUPD_CLIP_MB, .rw, 0⟩, ⟨fldUPD_CLIP_C, .rw, 0⟩]⟩,
  ⟨UPD_NORM2 0, [(48, 0x10000)], [⟨fldUPD_NORM2_N2, .rw, 0⟩]⟩]

/-- Registers of R233. -/
def regRows08a : List RegRow := [
  ⟨RING_CTRL, [], [⟨fldRING_CTRL_DISCARD, .wo, 0⟩, ⟨fldRING_CTRL_SEAL, .wo, 0⟩, ⟨fldRING_CTRL_OPEN, .wo, 0⟩]⟩,
  ⟨RING_STATUS, [], [⟨fldRING_STATUS_UNDECIDED, .ro, 0⟩, ⟨fldRING_STATUS_NUMEX, .ro, 0⟩,
    ⟨fldRING_STATUS_OPEN_PEND, .ro, 0⟩, ⟨fldRING_STATUS_OLD_DOOM, .ro, 0⟩, ⟨fldRING_STATUS_OLD_STATE, .ro, 0⟩,
    ⟨fldRING_STATUS_NEW_DOOM, .ro, 0⟩, ⟨fldRING_STATUS_NEW_STATE, .ro, 0⟩]⟩,
  ⟨RING_NEWER, [], [⟨fldRING_NEWER_RING, .ro, 0⟩]⟩,
  ⟨RING_OLDER, [], [⟨fldRING_OLDER_RING, .ro, 0⟩]⟩,
  ⟨RING_VISIBLE, [], [⟨fldRING_VISIBLE_VISIBLE_RING, .ro, 0⟩]⟩,
  ⟨RING_PREV, [], [⟨fldRING_PREV_PREV, .ro, 0⟩]⟩,
  ⟨RING_NEXT, [], [⟨fldRING_NEXT_NEXT, .rw, 1⟩]⟩,
  ⟨RING_GSTEP, [], [⟨fldRING_GSTEP_G, .rw, 0⟩]⟩,
  ⟨RING_GROUP, [], [⟨fldRING_GROUP_GROUP_ID, .ll, 0⟩, ⟨fldRING_GROUP_NM1, .ll, 0⟩,
    ⟨fldRING_GROUP_LEADER, .ll, 0x3ffff⟩]⟩,
  ⟨RING_HOLDERS, [], [⟨fldRING_HOLDERS_H2, .ll, 0x3ffff⟩, ⟨fldRING_HOLDERS_H1, .ll, 0x3ffff⟩]⟩,
  ⟨RING_MEMBERS, [], [⟨fldRING_MEMBERS_ADDR, .ll, 0⟩]⟩,
  ⟨RING_MODE, [], [⟨fldRING_MODE_MIRROR_IN, .ll, 0⟩, ⟨fldRING_MODE_MIRROR, .ll, 0⟩]⟩,
  ⟨RING_MIRROR, [], [⟨fldRING_MIRROR_DEVICE, .ll, 0⟩, ⟨fldRING_MIRROR_BASE, .ll, 0⟩]⟩,
  ⟨RING_TRIP, [], [⟨fldRING_TRIP_SUB_LIMIT, .ll, 0⟩, ⟨fldRING_TRIP_RING_NV, .ll, 1⟩,
    ⟨fldRING_TRIP_SUB_NV, .ll, 1⟩]⟩,
  ⟨RING_TIMEOUT, [], [⟨fldRING_TIMEOUT_EFFECTIVE, .ro, 0⟩, ⟨fldRING_TIMEOUT_VALUE, .rw, 0xc350⟩]⟩,
  ⟨RING_POOL, [], [⟨fldRING_POOL_FREE, .ro, 0⟩, ⟨fldRING_POOL_TOTAL, .ci, 0⟩]⟩,
  ⟨RING_SUBCTRL, [], [⟨fldRING_SUBCTRL_ERR, .w1c, 0⟩, ⟨fldRING_SUBCTRL_OP, .wo, 0⟩,
    ⟨fldRING_SUBCTRL_K, .wo, 0⟩]⟩,
  ⟨RING_SUBOPEN, [], [⟨fldRING_SUBOPEN_OPEN, .ro, 0⟩]⟩,
  ⟨RING_SUBDOOM, [], [⟨fldRING_SUBDOOM_DOOM, .ro, 0⟩]⟩,
  ⟨RING_REFUSE, [], [⟨fldRING_REFUSE_VALID, .rw, 0⟩, ⟨fldRING_REFUSE_SHARD, .rw, 0⟩]⟩]

/-- Registers of R233. -/
def regRows08b : List RegRow := [
  ⟨RING_REFUSE_STEP, [], [⟨fldRING_REFUSE_STEP_STEP, .rw, 0⟩]⟩,
  ⟨RING_EVENT, [], [⟨fldRING_EVENT_EV, .w1c, 0⟩]⟩,
  ⟨RING_EVENT_ROUTE, [], [⟨fldRING_EVENT_ROUTE_CORES, .rw, 1⟩]⟩,
  ⟨RING_CAUSE, [], [⟨fldRING_CAUSE_CULPRIT, .ro, 0⟩, ⟨fldRING_CAUSE_LOCAL, .ro, 0⟩,
    ⟨fldRING_CAUSE_CAUSE, .ro, 0⟩]⟩,
  ⟨RING_CAUSE_RING, [], [⟨fldRING_CAUSE_RING_RING, .ro, 0⟩]⟩,
  ⟨RING_COMMITS, [], [⟨fldRING_COMMITS_OVF, .w1c, 0⟩, ⟨fldRING_COMMITS_COUNT, .ro, 0⟩]⟩,
  ⟨RING_DISCARDS, [], [⟨fldRING_DISCARDS_OVF, .w1c, 0⟩, ⟨fldRING_DISCARDS_COUNT, .ro, 0⟩]⟩,
  ⟨RING_SUBDISCARDS, [], [⟨fldRING_SUBDISCARDS_OVF, .w1c, 0⟩, ⟨fldRING_SUBDISCARDS_COUNT, .ro, 0⟩]⟩,
  ⟨RING_CORE_SUB 0, [(48, 0x8)], [⟨fldRING_CORE_SUB_SUB, .rw, 0⟩]⟩]

/-- Registers of R258, R259. -/
def regRows09 : List RegRow := [
  ⟨CORE_L1CFG 0, [(48, 0x10000)], [⟨fldCORE_L1CFG_DEFHINT, .rw, 0⟩, ⟨fldCORE_L1CFG_NOW, .ro, 0⟩,
    ⟨fldCORE_L1CFG_SHARE, .ll, 0⟩]⟩,
  ⟨CORE_PF 0, [(48, 0x10000)], [⟨fldCORE_PF_DIST, .rw, 8⟩, ⟨fldCORE_PF_EN, .rw, 1⟩]⟩,
  ⟨CORE_DEADFALL 0, [(48, 0x10000)], [⟨fldCORE_DEADFALL_LM1, .wo, 0⟩, ⟨fldCORE_DEADFALL_LINE, .wo, 0⟩]⟩,
  ⟨CORE_L1_HIT 0, [(48, 0x10000)], [⟨fldCORE_L1_HIT_OVF, .w1c, 0⟩, ⟨fldCORE_L1_HIT_COUNT, .ro, 0⟩]⟩,
  ⟨CORE_L1_MISS 0, [(48, 0x10000)], [⟨fldCORE_L1_MISS_OVF, .w1c, 0⟩, ⟨fldCORE_L1_MISS_COUNT, .ro, 0⟩]⟩,
  ⟨CORE_PF_ISSUE 0, [(48, 0x10000)], [⟨fldCORE_PF_ISSUE_OVF, .w1c, 0⟩, ⟨fldCORE_PF_ISSUE_COUNT, .ro, 0⟩]⟩,
  ⟨CORE_PF_SKIP 0, [(48, 0x10000)], [⟨fldCORE_PF_SKIP_OVF, .w1c, 0⟩, ⟨fldCORE_PF_SKIP_COUNT, .ro, 0⟩]⟩,
  ⟨L2_CFG 0, [(8, 0x10000)], [⟨fldL2_CFG_OUT, .ro, 0⟩, ⟨fldL2_CFG_SPARE, .ro, 0⟩, ⟨fldL2_CFG_HASH, .ci, 0⟩,
    ⟨fldL2_CFG_PINNED, .ci, 0⟩]⟩,
  ⟨L2_THRASH_CFG 0, [(8, 0x10000)], [⟨fldL2_THRASH_CFG_CORES, .rw, 0⟩, ⟨fldL2_THRASH_CFG_THRESH, .rw, 0x40⟩]⟩,
  ⟨L2_THRASH_STATUS 0, [(8, 0x10000)], [⟨fldL2_THRASH_STATUS_EVENT, .w1c, 0⟩,
    ⟨fldL2_THRASH_STATUS_GROUP, .ro, 0⟩]⟩,
  ⟨L2_THRASH_SETS 0, [(8, 0x10000)], [⟨fldL2_THRASH_SETS_OVF, .w1c, 0⟩, ⟨fldL2_THRASH_SETS_COUNT, .ro, 0⟩]⟩,
  ⟨L2_HIT 0, [(8, 0x10000)], [⟨fldL2_HIT_OVF, .w1c, 0⟩, ⟨fldL2_HIT_COUNT, .ro, 0⟩]⟩,
  ⟨L2_MISS 0, [(8, 0x10000)], [⟨fldL2_MISS_OVF, .w1c, 0⟩, ⟨fldL2_MISS_COUNT, .ro, 0⟩]⟩,
  ⟨L2_MERGED 0, [(8, 0x10000)], [⟨fldL2_MERGED_OVF, .w1c, 0⟩, ⟨fldL2_MERGED_COUNT, .ro, 0⟩]⟩,
  ⟨L2_READ_AFTER_DEADFALL 0, [(8, 0x10000)], [⟨fldL2_READ_AFTER_DEADFALL_OVF, .w1c, 0⟩,
    ⟨fldL2_READ_AFTER_DEADFALL_COUNT, .ro, 0⟩]⟩]

/-- Registers of R287, R288. -/
def regRows10 : List RegRow := [
  ⟨BANK_GRP_CFG 0, [(16, 0x10000)], [⟨fldBANK_GRP_CFG_NHOME3, .ro, 0⟩, ⟨fldBANK_GRP_CFG_NHOME2, .ro, 0⟩,
    ⟨fldBANK_GRP_CFG_NHOME1, .ro, 0⟩, ⟨fldBANK_GRP_CFG_NHOME0, .ro, 0⟩, ⟨fldBANK_GRP_CFG_PHYS3, .ro, 0⟩,
    ⟨fldBANK_GRP_CFG_PHYS2, .ro, 0⟩, ⟨fldBANK_GRP_CFG_PHYS1, .ro, 0⟩, ⟨fldBANK_GRP_CFG_PHYS0, .ro, 0⟩]⟩,
  ⟨BANK_HOME_BEATS 0, [(16, 0x10000)], [⟨fldBANK_HOME_BEATS_OVF, .w1c, 0⟩, ⟨fldBANK_HOME_BEATS_COUNT, .ro, 0⟩]⟩,
  ⟨BANK_SHARED_WAIT 0, [(16, 0x10000)], [⟨fldBANK_SHARED_WAIT_OVF, .w1c, 0⟩,
    ⟨fldBANK_SHARED_WAIT_COUNT, .ro, 0⟩]⟩,
  ⟨BANK_ECC 0, [(16, 0x10000)], [⟨fldBANK_ECC_UE, .rw, 0⟩, ⟨fldBANK_ECC_CE, .rw, 0⟩]⟩,
  ⟨BANK_REPAIR 0, [(16, 0x10000)], [⟨fldBANK_REPAIR_COLS3, .ro, 0⟩, ⟨fldBANK_REPAIR_ROWS3, .ro, 0⟩,
    ⟨fldBANK_REPAIR_COLS2, .ro, 0⟩, ⟨fldBANK_REPAIR_ROWS2, .ro, 0⟩, ⟨fldBANK_REPAIR_COLS1, .ro, 0⟩,
    ⟨fldBANK_REPAIR_ROWS1, .ro, 0⟩, ⟨fldBANK_REPAIR_COLS0, .ro, 0⟩, ⟨fldBANK_REPAIR_ROWS0, .ro, 0⟩]⟩,
  ⟨BANK_MODE, [], [⟨fldBANK_MODE_NOW, .ro, 1⟩, ⟨fldBANK_MODE_SINGLE, .rw, 1⟩]⟩,
  ⟨BANK_MARCH_CTRL, [], [⟨fldBANK_MARCH_CTRL_GO, .wo, 0⟩, ⟨fldBANK_MARCH_CTRL_MODE, .rw, 0⟩,
    ⟨fldBANK_MARCH_CTRL_LAST, .rw, 0⟩, ⟨fldBANK_MARCH_CTRL_FIRST, .rw, 0⟩]⟩,
  ⟨BANK_MARCH_STATUS, [], [⟨fldBANK_MARCH_STATUS_BUSY, .ro, 0⟩, ⟨fldBANK_MARCH_STATUS_DONE, .w1c, 0⟩,
    ⟨fldBANK_MARCH_STATUS_FAIL, .w1c, 0⟩, ⟨fldBANK_MARCH_STATUS_BANK, .ro, 0⟩,
    ⟨fldBANK_MARCH_STATUS_ROW, .ro, 0⟩]⟩,
  ⟨BANK_REGION 0 0, [(79, 0x20), (4, 0x8)], [⟨fldBANK_REGION_VALID, .ci, 0⟩, ⟨fldBANK_REGION_LAST, .ci, 0⟩,
    ⟨fldBANK_REGION_FIRST, .ci, 0⟩]⟩,
  ⟨STK_CFG 0, [(12, 0x100000)], [⟨fldSTK_CFG_DIEFAIL, .ro, 0⟩, ⟨fldSTK_CFG_TSVSP, .ro, 0⟩,
    ⟨fldSTK_CFG_DIETHR, .rw, 0x100⟩, ⟨fldSTK_CFG_ILV, .ci, 0⟩]⟩,
  ⟨STK_PTE_SET 0, [(12, 0x100000)], [⟨fldSTK_PTE_SET_COUNTM1, .wo, 0⟩, ⟨fldSTK_PTE_SET_FIRST, .wo, 0⟩,
    ⟨fldSTK_PTE_SET_MIRROR, .wo, 0⟩, ⟨fldSTK_PTE_SET_KIND, .wo, 0⟩]⟩,
  ⟨STK_PTE_STATUS 0, [(12, 0x100000)], [⟨fldSTK_PTE_STATUS_BUSY, .ro, 0⟩, ⟨fldSTK_PTE_STATUS_ERR, .w1c, 0⟩,
    ⟨fldSTK_PTE_STATUS_REASON, .ro, 0⟩, ⟨fldSTK_PTE_STATUS_NEXT, .ro, 0⟩]⟩,
  ⟨STK_PTE_QUERY 0, [(12, 0x100000)], [⟨fldSTK_PTE_QUERY_GRANULE, .rw, 0⟩, ⟨fldSTK_PTE_QUERY_MIRROR, .ro, 0⟩,
    ⟨fldSTK_PTE_QUERY_VER, .ro, 0⟩, ⟨fldSTK_PTE_QUERY_KIND, .ro, 0⟩]⟩,
  ⟨STK_SCRUB 0, [(12, 0x100000)], [⟨fldSTK_SCRUB_EN, .rw, 1⟩, ⟨fldSTK_SCRUB_HOURS, .rw, 0x18⟩]⟩,
  ⟨STK_SCRUB_STATUS 0, [(12, 0x100000)], [⟨fldSTK_SCRUB_STATUS_POS, .ro, 0⟩,
    ⟨fldSTK_SCRUB_STATUS_PASSES, .ro, 0⟩]⟩,
  ⟨STK_ECC 0, [(12, 0x100000)], [⟨fldSTK_ECC_UE, .rw, 0⟩, ⟨fldSTK_ECC_CE, .rw, 0⟩]⟩,
  ⟨STK_PAGE_HIT 0, [(12, 0x100000)], [⟨fldSTK_PAGE_HIT_OVF, .w1c, 0⟩, ⟨fldSTK_PAGE_HIT_COUNT, .ro, 0⟩]⟩,
  ⟨STK_PAGE_MISS 0, [(12, 0x100000)], [⟨fldSTK_PAGE_MISS_OVF, .w1c, 0⟩, ⟨fldSTK_PAGE_MISS_COUNT, .ro, 0⟩]⟩,
  ⟨STK_REPAIR 0, [(12, 0x100000)], [⟨fldSTK_REPAIR_ROWS, .ro, 0⟩, ⟨fldSTK_REPAIR_COLS, .ro, 0⟩]⟩]

/-- Registers of R305, R306. -/
def regRows11 : List RegRow := [
  ⟨XFER_POST 0, [(16, 0x10000)], [⟨fldXFER_POST_DESC, .wo, 0⟩]⟩,
  ⟨XFER_STATUS 0, [(16, 0x10000)], [⟨fldXFER_STATUS_IDLE, .ro, 1⟩, ⟨fldXFER_STATUS_TAGHWM, .rc, 0⟩,
    ⟨fldXFER_STATUS_TAGS, .ro, 0⟩, ⟨fldXFER_STATUS_ACTIVE, .ro, 0⟩, ⟨fldXFER_STATUS_QUEUED, .ro, 0⟩]⟩,
  ⟨XFER_CTRL 0, [(16, 0x10000)], [⟨fldXFER_CTRL_CORE, .rw, 0⟩, ⟨fldXFER_CTRL_ABORT, .wo, 0⟩]⟩,
  ⟨XFER_DONE_COUNT 0, [(16, 0x10000)], [⟨fldXFER_DONE_COUNT_OVF, .w1c, 0⟩, ⟨fldXFER_DONE_COUNT_COUNT, .ro, 0⟩]⟩,
  ⟨XFER_ERR_COUNT 0, [(16, 0x10000)], [⟨fldXFER_ERR_COUNT_OVF, .w1c, 0⟩, ⟨fldXFER_ERR_COUNT_COUNT, .ro, 0⟩]⟩,
  ⟨XFER_ERR 0, [(16, 0x10000)], [⟨fldXFER_ERR_CODE, .ro, 0⟩, ⟨fldXFER_ERR_ADDR, .ro, 0⟩]⟩,
  ⟨XFER_BYTES 0, [(16, 0x10000)], [⟨fldXFER_BYTES_OVF, .w1c, 0⟩, ⟨fldXFER_BYTES_COUNT, .ro, 0⟩]⟩,
  ⟨XFER_STALL 0 0, [(16, 0x10000), (10, 0x8)], [⟨fldXFER_STALL_OVF, .w1c, 0⟩, ⟨fldXFER_STALL_COUNT, .ro, 0⟩]⟩,
  ⟨CORE_ISSUE 0, [(48, 0x10000)], [⟨fldCORE_ISSUE_MISS, .ro, 0⟩, ⟨fldCORE_ISSUE_NOW, .ro, 0⟩,
    ⟨fldCORE_ISSUE_A20, .ll, 0⟩]⟩,
  ⟨CORE_STALL 0 0, [(48, 0x10000), (10, 0x8)], [⟨fldCORE_STALL_OVF, .w1c, 0⟩, ⟨fldCORE_STALL_COUNT, .ro, 0⟩]⟩]

/-- Registers of R337, R338, R339. -/
def regRows12a : List RegRow := [
  ⟨RIDE_DEVICE, [], [⟨fldRIDE_DEVICE_JOINED, .ro, 0⟩, ⟨fldRIDE_DEVICE_NUMBER, .ci, 0⟩]⟩,
  ⟨RIDE_STATUS, [], [⟨fldRIDE_STATUS_FAILED, .ro, 0⟩, ⟨fldRIDE_STATUS_TRAINING, .ro, 0⟩,
    ⟨fldRIDE_STATUS_UP, .ro, 0⟩]⟩,
  ⟨RIDE_EVENT, [], [⟨fldRIDE_EVENT_EV, .w1c, 0⟩]⟩,
  ⟨RIDE_EVENT_ROUTE, [], [⟨fldRIDE_EVENT_ROUTE_CORES, .rw, 1⟩]⟩,
  ⟨RIDE_PATHFAIL, [], [⟨fldRIDE_PATHFAIL_DEVICE, .ro, 0⟩]⟩,
  ⟨RIDE_OUTSTANDING, [], [⟨fldRIDE_OUTSTANDING_HWM, .rc, 0⟩, ⟨fldRIDE_OUTSTANDING_NOW, .ro, 0⟩]⟩,
  ⟨RIDE_STREAMS, [], [⟨fldRIDE_STREAMS_HWM, .rc, 0⟩, ⟨fldRIDE_STREAMS_NOW, .ro, 0⟩]⟩,
  ⟨RIDE_PATHFAIL_COUNT, [], [⟨fldRIDE_PATHFAIL_COUNT_OVF, .w1c, 0⟩, ⟨fldRIDE_PATHFAIL_COUNT_COUNT, .ro, 0⟩]⟩,
  ⟨RIDE_STALE_DROP, [], [⟨fldRIDE_STALE_DROP_OVF, .w1c, 0⟩, ⟨fldRIDE_STALE_DROP_COUNT, .ro, 0⟩]⟩,
  ⟨RIDE_DUP_DROP, [], [⟨fldRIDE_DUP_DROP_OVF, .w1c, 0⟩, ⟨fldRIDE_DUP_DROP_COUNT, .ro, 0⟩]⟩,
  ⟨RIDE_BUSY_SENT, [], [⟨fldRIDE_BUSY_SENT_OVF, .w1c, 0⟩, ⟨fldRIDE_BUSY_SENT_COUNT, .ro, 0⟩]⟩,
  ⟨RIDE_BUSY_RECV, [], [⟨fldRIDE_BUSY_RECV_OVF, .w1c, 0⟩, ⟨fldRIDE_BUSY_RECV_COUNT, .ro, 0⟩]⟩,
  ⟨RIDE_FAILOVER, [], [⟨fldRIDE_FAILOVER_OVF, .w1c, 0⟩, ⟨fldRIDE_FAILOVER_COUNT, .ro, 0⟩]⟩,
  ⟨RIDE_MIRROR_STALL, [], [⟨fldRIDE_MIRROR_STALL_OVF, .w1c, 0⟩, ⟨fldRIDE_MIRROR_STALL_COUNT, .ro, 0⟩]⟩,
  ⟨RIDE_PORT_STATUS 0, [(36, 0x10000)], [⟨fldRIDE_PORT_STATUS_LANES, .ro, 0⟩,
    ⟨fldRIDE_PORT_STATUS_SPARE, .ro, 7⟩, ⟨fldRIDE_PORT_STATUS_ACTIVE, .ro, 0⟩,
    ⟨fldRIDE_PORT_STATUS_STATE, .ro, 0⟩]⟩,
  ⟨RIDE_PORT_CTRL 0, [(36, 0x10000)], [⟨fldRIDE_PORT_CTRL_RETRAIN, .wo, 0⟩,
    ⟨fldRIDE_PORT_CTRL_FECTHR, .rw, 0x2000⟩]⟩,
  ⟨RIDE_PORT_FEC 0, [(36, 0x10000)], [⟨fldRIDE_PORT_FEC_OVF, .w1c, 0⟩, ⟨fldRIDE_PORT_FEC_COUNT, .ro, 0⟩]⟩,
  ⟨RIDE_PORT_BAD 0, [(36, 0x10000)], [⟨fldRIDE_PORT_BAD_OVF, .w1c, 0⟩, ⟨fldRIDE_PORT_BAD_COUNT, .ro, 0⟩]⟩,
  ⟨RIDE_PORT_REPLAY 0, [(36, 0x10000)], [⟨fldRIDE_PORT_REPLAY_OVF, .w1c, 0⟩,
    ⟨fldRIDE_PORT_REPLAY_COUNT, .ro, 0⟩]⟩,
  ⟨RIDE_PORT_RETRAIN 0, [(36, 0x10000)], [⟨fldRIDE_PORT_RETRAIN_OVF, .w1c, 0⟩,
    ⟨fldRIDE_PORT_RETRAIN_COUNT, .ro, 0⟩]⟩]

/-- Registers of R337, R338, R339. -/
def regRows12b : List RegRow := [
  ⟨CORE_RSTAT 0, [(48, 0x10000)], [⟨fldCORE_RSTAT_ERR, .w1c, 0⟩, ⟨fldCORE_RSTAT_CODE, .ro, 0⟩,
    ⟨fldCORE_RSTAT_DEVICE, .ro, 0⟩]⟩,
  ⟨CORE_RFADDR 0, [(48, 0x10000)], [⟨fldCORE_RFADDR_GADDR, .ro, 0⟩]⟩,
  ⟨CORE_ROUT 0, [(48, 0x10000)], [⟨fldCORE_ROUT_COUNT, .ro, 0⟩]⟩,
  ⟨CORE_RFAILS 0, [(48, 0x10000)], [⟨fldCORE_RFAILS_OVF, .w1c, 0⟩, ⟨fldCORE_RFAILS_COUNT, .ro, 0⟩]⟩,
  ⟨BLZ_VALUE 0, [(16384, 0x40)], [⟨fldBLZ_VALUE_VALUE, .rw, 0⟩]⟩,
  ⟨BLZ_ADD 0, [(16384, 0x40)], [⟨fldBLZ_ADD_AMOUNT, .wo, 0⟩]⟩,
  ⟨BLZ_CFG 0, [(16384, 0x40)], [⟨fldBLZ_CFG_OWNER, .rw, 0⟩]⟩,
  ⟨BLZ_STATUS 0, [(16384, 0x40)], [⟨fldBLZ_STATUS_BLZ_OVF, .w1c, 0⟩, ⟨fldBLZ_STATUS_WAITERS, .ro, 0⟩]⟩]

/-- Registers of R362. -/
def regRows13a : List RegRow := [
  ⟨FOR_POST, [], [⟨fldFOR_POST_POST, .wo, 0⟩]⟩,
  ⟨FOR_STATUS, [], [⟨fldFOR_STATUS_CATCHUP, .ro, 0⟩, ⟨fldFOR_STATUS_ERRV, .w1c, 0⟩,
    ⟨fldFOR_STATUS_ERRCODE, .ro, 0⟩, ⟨fldFOR_STATUS_READY, .ro, 0⟩, ⟨fldFOR_STATUS_USED, .ro, 0⟩]⟩,
  ⟨FOR_BUDGET, [], [⟨fldFOR_BUDGET_LIMIT, .ci, 0⟩, ⟨fldFOR_BUDGET_WATTS, .rw, 0⟩]⟩,
  ⟨FOR_CFG, [], [⟨fldFOR_CFG_HORIZON, .rw, 0⟩, ⟨fldFOR_CFG_STARVE, .rw, 0⟩, ⟨fldFOR_CFG_UNCORE, .ci, 0⟩]⟩,
  ⟨FOR_CREDIT_CFG, [], [⟨fldFOR_CREDIT_CFG_CAP, .ci, 0⟩, ⟨fldFOR_CREDIT_CFG_RESERVE, .ci, 0⟩]⟩,
  ⟨FOR_THERM, [], [⟨fldFOR_THERM_HEAT, .ro, 0⟩, ⟨fldFOR_THERM_FMAX, .rw, 0x12⟩,
    ⟨fldFOR_THERM_TLIM, .rw, 0x640⟩]⟩,
  ⟨FOR_INLET, [], [⟨fldFOR_INLET_TEMP, .rw, 0x2d0⟩]⟩,
  ⟨FOR_CANCEL, [], [⟨fldFOR_CANCEL_MODE, .wo, 0⟩, ⟨fldFOR_CANCEL_SUB, .wo, 0⟩]⟩,
  ⟨FOR_CAD_POST, [], [⟨fldFOR_CAD_POST_POST, .rw, 0⟩]⟩,
  ⟨FOR_Q 0, [(4, 0x8)], [⟨fldFOR_Q_CREDIT, .ro, 0⟩, ⟨fldFOR_Q_DRAW, .ro, 0⟩, ⟨fldFOR_Q_ALLOT, .ro, 0⟩]⟩,
  ⟨FOR_QT 0, [(4, 0x8)], [⟨fldFOR_QT_TPRED, .ro, 0x2d0⟩, ⟨fldFOR_QT_FCAP, .ro, 0x18⟩,
    ⟨fldFOR_QT_THROTTLE, .ro, 0⟩]⟩,
  ⟨FOR_CLASS 0, [(10, 0x8)], [⟨fldFOR_CLASS_POWER, .ci, 0⟩]⟩,
  ⟨FOR_ACT 0, [(4, 0x10)], [⟨fldFOR_ACT_EN, .rw, 0⟩, ⟨fldFOR_ACT_DEFER, .ro, 0⟩, ⟨fldFOR_ACT_MAXDEFER, .rw, 0⟩,
    ⟨fldFOR_ACT_PERIOD, .rw, 0⟩]⟩,
  ⟨FOR_ACT_STATE 0, [(4, 0x10)], [⟨fldFOR_ACT_STATE_LAG, .ro, 0⟩, ⟨fldFOR_ACT_STATE_DEFERRED, .ro, 0⟩]⟩,
  ⟨FOR_CORE 0, [(48, 0x8)], [⟨fldFOR_CORE_BUSY, .ro, 0⟩, ⟨fldFOR_CORE_HOLD, .ro, 0⟩,
    ⟨fldFOR_CORE_DONE, .wo, 0⟩, ⟨fldFOR_CORE_EN, .rw, 1⟩, ⟨fldFOR_CORE_SLOT, .ro, 0⟩,
    ⟨fldFOR_CORE_DESC, .ro, 0⟩]⟩,
  ⟨FOR_DISPATCHES, [], [⟨fldFOR_DISPATCHES_OVF, .w1c, 0⟩, ⟨fldFOR_DISPATCHES_COUNT, .ro, 0⟩]⟩,
  ⟨FOR_HOLDS, [], [⟨fldFOR_HOLDS_OVF, .w1c, 0⟩, ⟨fldFOR_HOLDS_COUNT, .ro, 0⟩]⟩,
  ⟨FOR_THROTTLES, [], [⟨fldFOR_THROTTLES_OVF, .w1c, 0⟩, ⟨fldFOR_THROTTLES_COUNT, .ro, 0⟩]⟩,
  ⟨FOR_DEFERS, [], [⟨fldFOR_DEFERS_OVF, .w1c, 0⟩, ⟨fldFOR_DEFERS_COUNT, .ro, 0⟩]⟩,
  ⟨FOR_LATE, [], [⟨fldFOR_LATE_OVF, .w1c, 0⟩, ⟨fldFOR_LATE_COUNT, .ro, 0⟩]⟩]

/-- Registers of R362. -/
def regRows13b : List RegRow := [
  ⟨FOR_POSTWAIT, [], [⟨fldFOR_POSTWAIT_OVF, .w1c, 0⟩, ⟨fldFOR_POSTWAIT_COUNT, .ro, 0⟩]⟩]

/-- Registers of R388, R389. -/
def regRows14a : List RegRow := [
  ⟨PWR_STATE, [], [⟨fldPWR_STATE_TRIPPED, .w1c, 0⟩, ⟨fldPWR_STATE_DOMON, .ro, 0⟩, ⟨fldPWR_STATE_STATE, .ro, 0⟩]⟩,
  ⟨PWR_WAKE_LAST, [], [⟨fldPWR_WAKE_LAST_STAMP, .ro, 0⟩, ⟨fldPWR_WAKE_LAST_FROM, .ro, 0⟩,
    ⟨fldPWR_WAKE_LAST_SOURCE, .ro, 1⟩]⟩,
  ⟨PWR_WAKE_EN, [], [⟨fldPWR_WAKE_EN_GPIO, .rw, 0⟩, ⟨fldPWR_WAKE_EN_EN, .rw, 7⟩]⟩,
  ⟨PWR_WAKE_TIMER, [], [⟨fldPWR_WAKE_TIMER_CMP, .rw, 0xffffffffffffffff⟩]⟩,
  ⟨PWR_AVS_CFG, [], [⟨fldPWR_AVS_CFG_TIMEOUT, .rw, 0xc8⟩, ⟨fldPWR_AVS_CFG_SLEW, .rw, 0xa⟩,
    ⟨fldPWR_AVS_CFG_CLKDIV, .rw, 0x13⟩]⟩,
  ⟨PWR_AVS_STATUS, [], [⟨fldPWR_AVS_STATUS_BUSY1, .ro, 0⟩, ⟨fldPWR_AVS_STATUS_BUSY0, .ro, 0⟩,
    ⟨fldPWR_AVS_STATUS_LOCK, .w1c, 0⟩, ⟨fldPWR_AVS_STATUS_FAIL, .w1c, 0⟩]⟩,
  ⟨PWR_RAIL 0, [(5, 0x8)], [⟨fldPWR_RAIL_NEED, .ro, 0⟩, ⟨fldPWR_RAIL_TARGET, .ro, 0⟩,
    ⟨fldPWR_RAIL_NOW, .ro, 0⟩]⟩,
  ⟨PWR_CORE 0, [(48, 0x8)], [⟨fldPWR_CORE_STATE, .ro, 0⟩, ⟨fldPWR_CORE_REST, .rw, 0⟩,
    ⟨fldPWR_CORE_WSRC, .ro, 0⟩, ⟨fldPWR_CORE_VNEED, .ro, 0⟩, ⟨fldPWR_CORE_FREQ, .ro, 0x18⟩,
    ⟨fldPWR_CORE_FREQREQ, .ro, 0x18⟩]⟩,
  ⟨PWR_VF_CHANGES, [], [⟨fldPWR_VF_CHANGES_OVF, .w1c, 0⟩, ⟨fldPWR_VF_CHANGES_COUNT, .ro, 0⟩]⟩,
  ⟨PWR_AVS_FRAMES, [], [⟨fldPWR_AVS_FRAMES_OVF, .w1c, 0⟩, ⟨fldPWR_AVS_FRAMES_COUNT, .ro, 0⟩]⟩,
  ⟨PWR_AVS_RETRY, [], [⟨fldPWR_AVS_RETRY_OVF, .w1c, 0⟩, ⟨fldPWR_AVS_RETRY_COUNT, .ro, 0⟩]⟩,
  ⟨PWR_AVS_TIMEOUT, [], [⟨fldPWR_AVS_TIMEOUT_OVF, .w1c, 0⟩, ⟨fldPWR_AVS_TIMEOUT_COUNT, .ro, 0⟩]⟩,
  ⟨PWR_OSC_CAL, [], [⟨fldPWR_OSC_CAL_OVF, .w1c, 0⟩, ⟨fldPWR_OSC_CAL_COUNT, .ro, 0⟩]⟩,
  ⟨AGE_CFG, [], [⟨fldAGE_CFG_VMAX, .ci, 0⟩, ⟨fldAGE_CFG_LIMIT, .rw, 0x50⟩, ⟨fldAGE_CFG_GUARD, .rw, 0xf⟩,
    ⟨fldAGE_CFG_PERIOD, .rw, 0xa8⟩]⟩,
  ⟨AGE_STATUS, [], [⟨fldAGE_STATUS_BUSY, .ro, 0⟩, ⟨fldAGE_STATUS_BASE, .ro, 0⟩, ⟨fldAGE_STATUS_WORN, .w1c, 0⟩,
    ⟨fldAGE_STATUS_PLANS, .ro, 0⟩]⟩,
  ⟨AGE_CTRL, [], [⟨fldAGE_CTRL_PLAN, .wo, 0⟩, ⟨fldAGE_CTRL_MEASURE, .wo, 0⟩]⟩,
  ⟨AGE_HOURS, [], [⟨fldAGE_HOURS_LASTPLAN, .ro, 0⟩, ⟨fldAGE_HOURS_HOURS, .ro, 0⟩]⟩,
  ⟨AGE_VSRAM, [], [⟨fldAGE_VSRAM_V, .ro, 0⟩]⟩,
  ⟨AGE_SPARES, [], [⟨fldAGE_SPARES_TSVS, .ro, 0⟩, ⟨fldAGE_SPARES_LANES, .ro, 0⟩, ⟨fldAGE_SPARES_COLS, .ro, 0⟩,
    ⟨fldAGE_SPARES_WAYS, .ro, 0⟩, ⟨fldAGE_SPARES_PORTS, .ro, 0⟩, ⟨fldAGE_SPARES_BANKS, .ro, 0⟩,
    ⟨fldAGE_SPARES_CORES, .ro, 0⟩]⟩,
  ⟨AGE_ISLAND 0, [(48, 0x8)], [⟨fldAGE_ISLAND_WORN, .ro, 0⟩, ⟨fldAGE_ISLAND_RETIRE, .ro, 0⟩,
    ⟨fldAGE_ISLAND_DREP, .ro, 0⟩, ⟨fldAGE_ISLAND_DRO, .ro, 0⟩, ⟨fldAGE_ISLAND_DELTA, .ro, 0⟩]⟩]

/-- Registers of R388, R389. -/
def regRows14b : List RegRow := [
  ⟨AGE_VTAB 0 0, [(48, 0x100), (19, 0x8)], [⟨fldAGE_VTAB_V, .ro, 0⟩]⟩,
  ⟨AGE_MON 0 0, [(48, 0x40), (8, 0x8)], [⟨fldAGE_MON_READING, .ro, 0⟩]⟩]

/-- Registers of R412, R413. -/
def regRows15 : List RegRow := [
  ⟨CAN_STATUS, [], [⟨fldCAN_STATUS_PENDING, .ro, 0⟩, ⟨fldCAN_STATUS_LFAIL, .w1c, 0⟩,
    ⟨fldCAN_STATUS_LCODE, .ro, 0⟩, ⟨fldCAN_STATUS_SECTION, .ro, 0⟩, ⟨fldCAN_STATUS_LAUNCHES, .ro, 0⟩]⟩,
  ⟨CAN_BOOT_SERIAL, [], [⟨fldCAN_BOOT_SERIAL_SERIAL, .ro, 0⟩]⟩,
  ⟨CAN_LAUNCH_SERIAL, [], [⟨fldCAN_LAUNCH_SERIAL_SERIAL, .ro, 0⟩]⟩,
  ⟨CAN_FAULT, [], [⟨fldCAN_FAULT_DETAIL, .ro, 0⟩, ⟨fldCAN_FAULT_OFFSET, .ro, 0⟩]⟩,
  ⟨CAN_POLICY, [], [⟨fldCAN_POLICY_DRAIN_MS, .ci, 0⟩, ⟨fldCAN_POLICY_LAUNCH_SIG, .ci, 0⟩,
    ⟨fldCAN_POLICY_WINDTHROW, .ci, 0⟩]⟩,
  ⟨WDN_BOOT, [], [⟨fldWDN_BOOT_STEP, .ro, 1⟩, ⟨fldWDN_BOOT_FAILSTEP, .ro, 0⟩, ⟨fldWDN_BOOT_FCODE, .ro, 0⟩,
    ⟨fldWDN_BOOT_IMAGE, .ro, 0⟩, ⟨fldWDN_BOOT_FALLBACK, .ro, 0⟩, ⟨fldWDN_BOOT_RECOVERY, .ro, 0⟩,
    ⟨fldWDN_BOOT_RESHAPED, .ro, 0⟩, ⟨fldWDN_BOOT_READY_MS, .ro, 0⟩]⟩,
  ⟨WDN_MBOX_POST, [], [⟨fldWDN_MBOX_POST_REQ, .wo, 0⟩]⟩,
  ⟨WDN_MBOX_STATUS, [], [⟨fldWDN_MBOX_STATUS_IDLE, .ro, 1⟩, ⟨fldWDN_MBOX_STATUS_QUEUED, .ro, 0⟩,
    ⟨fldWDN_MBOX_STATUS_SERVED, .ro, 0⟩]⟩,
  ⟨WDN_SVCQ_BASE, [], [⟨fldWDN_SVCQ_BASE_BASE, .rw, 0⟩, ⟨fldWDN_SVCQ_BASE_LOG2N, .rw, 0⟩]⟩,
  ⟨WDN_SVCQ_HEAD, [], [⟨fldWDN_SVCQ_HEAD_COUNT, .ro, 0⟩]⟩,
  ⟨WDN_SVCQ_TAIL, [], [⟨fldWDN_SVCQ_TAIL_COUNT, .rw, 0⟩]⟩,
  ⟨WDN_DIEID, [], [⟨fldWDN_DIEID_DIEID, .ro, 0⟩]⟩,
  ⟨WDN_SVN, [], [⟨fldWDN_SVN_OWNER, .ro, 0⟩, ⟨fldWDN_SVN_FLOOR, .ro, 0⟩, ⟨fldWDN_SVN_SVN, .ro, 0⟩]⟩,
  ⟨WDN_MEAS 0 0, [(4, 0x20), (4, 0x8)], [⟨fldWDN_MEAS_BYTES, .ro, 0⟩]⟩]

/-- Registers of R426, R427. -/
def regRows16 : List RegRow := [
  ⟨FLT_HEAD, [], [⟨fldFLT_HEAD_SEQ, .ro, 0⟩]⟩,
  ⟨FLT_OLDEST, [], [⟨fldFLT_OLDEST_SEQ, .ro, 0⟩]⟩,
  ⟨FLT_SEL, [], [⟨fldFLT_SEL_SEQ, .rw, 0⟩]⟩,
  ⟨FLT_REC 0, [(8, 0x8)], [⟨fldFLT_REC_BYTES, .ro, 0⟩]⟩,
  ⟨FLT_ROUTE, [], [⟨fldFLT_ROUTE_MINSEV, .rw, 1⟩, ⟨fldFLT_ROUTE_SWI, .rw, 0⟩, ⟨fldFLT_ROUTE_CORE, .rw, 0⟩]⟩,
  ⟨FLT_CFG, [], [⟨fldFLT_CFG_CEWIN, .rw, 0x3e8⟩]⟩,
  ⟨FLT_RECORDS, [], [⟨fldFLT_RECORDS_OVF, .w1c, 0⟩, ⟨fldFLT_RECORDS_COUNT, .ro, 0⟩]⟩,
  ⟨FLT_LOST, [], [⟨fldFLT_LOST_OVF, .w1c, 0⟩, ⟨fldFLT_LOST_COUNT, .ro, 0⟩]⟩,
  ⟨FLT_CE_SUPPRESSED, [], [⟨fldFLT_CE_SUPPRESSED_OVF, .w1c, 0⟩, ⟨fldFLT_CE_SUPPRESSED_COUNT, .ro, 0⟩]⟩,
  ⟨FLT_INJECTED, [], [⟨fldFLT_INJECTED_OVF, .w1c, 0⟩, ⟨fldFLT_INJECTED_COUNT, .ro, 0⟩]⟩,
  ⟨FLT_MCSEQ 0, [(48, 0x8)], [⟨fldFLT_MCSEQ_SEQ, .ro, 0⟩]⟩,
  ⟨WT_CTRL, [], [⟨fldWT_CTRL_ALLOWED, .ro, 0⟩, ⟨fldWT_CTRL_EN, .rw, 0⟩]⟩,
  ⟨WT_SEED, [], [⟨fldWT_SEED_SEED, .rw, 1⟩]⟩,
  ⟨WT_POINT 0, [(6, 0x8)], [⟨fldWT_POINT_ON, .rw, 0⟩, ⟨fldWT_POINT_COUNT, .rw, 0⟩, ⟨fldWT_POINT_PARAM, .rw, 0⟩,
    ⟨fldWT_POINT_RATE, .rw, 0⟩, ⟨fldWT_POINT_TARGET, .rw, 0⟩]⟩,
  ⟨WT_INJECT 0, [(6, 0x8)], [⟨fldWT_INJECT_OVF, .w1c, 0⟩, ⟨fldWT_INJECT_COUNT, .ro, 0⟩]⟩,
  ⟨WT_STATUS, [], [⟨fldWT_STATUS_ACTIVE, .ro, 0⟩]⟩]

/-- Every register of the device. -/
def regRows : List RegRow :=
  regRows02 ++ regRows03 ++ regRows04 ++ regRows05 ++ regRows06 ++ regRows08a ++ regRows08b ++ regRows09 ++
  regRows10 ++ regRows11 ++ regRows12a ++ regRows12b ++ regRows13a ++ regRows13b ++ regRows14a ++
  regRows14b ++ regRows15 ++ regRows16

/-- Whether an offset from the first address falls on an element of the array. -/
def dimsHit : List (Nat × Nat) → Nat → Bool
  | [], o => o == 0
  | (n, st) :: ds, o => decide (o / st < n) && dimsHit ds (o % st)

/-- Whether a register row holds an address. -/
def RegRow.hit (r : RegRow) (a : Nat) : Bool := decide (r.base ≤ a) && dimsHit r.dims (a - r.base)

/-- The register at an address, if its map lists one. -/
def regRowAt (a : Nat) : Option RegRow := regRows.find? fun r => r.hit a

/-- The reset value of a register: its fields' resets together (R9). -/
def RegRow.resetWord (r : RegRow) : Word := r.flds.foldl (fun w f => f.fld.set f.reset w) 0

/-- The reset value of the register at an address; 0 where none is listed. -/
def regReset (a : Nat) : Word := match regRowAt a with
  | some r => r.resetWord
  | none => 0

end Sys2Proof.Machine
end

