-- ==== Sys2Proof/Machine/State.lean ====
section
/-! DEFINITION. The state of the A48: every register, array, memory, queue and mode the spec gives it, as plain data. -/
namespace Sys2Proof.Machine

/-- What stops the machine. The spec gives every command an effect, so no command raises one (R3: an access to an address
that does not exist completes with an address error, which is itself an effect). -/
inductive Fault where
  /-- Never raised: kept so that the type has a value. Safe. -/
  | none
  deriving DecidableEq, Repr

/-- What the model refuses. -/
inductive Refusal where
  /-- A command that has no meaning yet, named by its mnemonic; raised only by `exec`. Safe. -/
  | notModelled (mnemonic : String)
  deriving DecidableEq, Repr

/-! ### Cores -/

/-- A tile register (R83): 64 rows of 256 bytes, a scale column of 64 rows of 16 bytes, and its write generation (R108). -/
structure Tile where
  rows : Vector (BitVec 2048) 64
  scales : Vector (BitVec 128) 64
  gen : Nat
  deriving DecidableEq, Repr

/-- An entry of the merging buffer (R184): a 128-byte line, its valid bytes, and the sub-ring of its stores (R208). -/
structure MergeEntry where
  line : Nat
  sub : Nat
  bytes : NMap Byte
  hint : Nat
  deriving DecidableEq, Repr

/-- A line of an L1 (R239, R242): its line address, the mask of its valid sectors and its retention class. -/
structure L1Line where
  line : Nat
  sectors : Nat
  cls : Nat
  deriving DecidableEq, Repr

/-- A stream entry of the prefetcher (R254): last miss, stride, length of the run, last line requested and hint. -/
structure PfEntry where
  last : Nat
  stride : Int
  run : Nat
  ahead : Nat
  hint : Nat
  deriving DecidableEq, Repr

/-- A vector or update instruction that has issued and not retired (R125, R126), with what is returned to where it is the oldest and an
interrupt or a stop is taken at it (R133): the core's registers, merging buffer and register words as a resumable one left them, or as
they stood before a whole one. `whole` says which (Table 5.3),
`done` is the VPROG.DONE it leaves, `block` says that nothing may issue after it before it retires, `nv` is
the sub-ring of an NV that is reported as it retires, `lanes` the generators before its draws, where it draws, and `undo` what the bytes
of the core's own array held that later stores have overwritten, the last store first. -/
structure VecOp where
  pc : Word
  whole : Bool
  block : Bool
  done : Nat
  nv : Option Nat
  x : Vector Word 32
  f : Vector Word 32
  v : Vector (BitVec 8192) 32
  m : Vector (BitVec 1024) 8
  mbuf : List MergeEntry
  words : List (Nat × Word)
  lanes : Option (List Word)
  undo : List (Nat × Option Byte)
  deriving DecidableEq, Repr

/-- What an abandoned run-ahead undoes (R104): the registers, flags and generators as they stood at issue. -/
structure Checkpoint where
  x : Vector Word 32
  f : Vector Word 32
  fstat : Word
  inuse : Word
  rng : List Word
  deriving DecidableEq, Repr

/-- The work of a tile instruction that has issued and not retired (R103). -/
inductive TileWork where
  /-- TMMA or TMMA4: operands, NUM_MODE at issue (R55), and for TMMA4 the image base and the rows and scale rows read (R90). -/
  | mma (four z : Bool) (fmt : Nat) (shape : Word) (td ta tb : Nat) (mode : Word) (base : Nat) (images : List (Nat × Nat))
  /-- TLD: tile, its format, elements per row, the staged rows and scale rows (R103), and what retirement records. -/
  | tld (t fmt cols : Nat) (rows : List (Nat × Nat)) (flags sat flush : Nat)
  deriving DecidableEq, Repr

/-- An unretired tile instruction: its address, its word, its work, what abandoning it undoes, whether it draws from the generators, and
the instructions that have gone past it. -/
structure TileOp where
  pc : Word
  word : IWord
  work : TileWork
  ckpt : Checkpoint
  draws : Bool
  after : Nat
  deriving DecidableEq, Repr

/-- Why a core that is not stopped issues nothing. -/
inductive CoreWait where
  | running
  | wfi
  /-- An atomic whose write waits in its stack (R214). -/
  | atom
  /-- BWAIT (R334): destination register, blaze, threshold, the ring running at issue, the request of a remote WAIT, and the
  value it is to write once it can retire. -/
  | bwait (rd : Nat) (blaze : Nat) (threshold : Nat) (ring : Nat) (req : Option Nat) (out : Option Nat)
  deriving DecidableEq, Repr

/-- One logical core: everything that is not in its register block. `vecQ` holds the unretired vector and update instructions, the oldest
first; `spilled` marks that an entry of the merging buffer has been performed while one of them stood unretired, which no instruction
does; `pendTimer` says that CORE_TIMER_CMP has been written and TIMER has not followed yet (R51). `bad` holds the register words that
are uncorrectable (R117, R119), `badRes` the lanes and array columns whose next residue check fails, as whether a lane, the array and
the column or lane (R81), and `l1Bad` the words of the L1 that are uncorrectable (R257). `order` holds, in A20 issue mode, the lines (false) and remote operations (true)
that the core has requested and not been given, the oldest first (R303). `mcDue` holds the machine checks attributed to the core that it
has not taken, as fault address and SEQ of the record (R47, Table 2.4), and `held` the interrupts that were pending and enabled when it
entered Hold and still are, which do not wake it (R356). -/
structure CoreSt where
  pc : Word
  x : Vector Word 32
  f : Vector Word 32
  v : Vector (BitVec 8192) 32
  m : Vector (BitVec 1024) 8
  tiles : Vector Tile 8
  sealKey : BitVec 128
  wait : CoreWait
  mbuf : List MergeEntry
  fetch : List Nat
  l1 : List L1Line
  pf : List PfEntry
  tileQ : List TileOp
  reuse : List (Nat × Nat × Nat × Bool × Nat)
  vecQ : List VecOp
  spilled : Bool
  pendTimer : Bool
  bad : List RegWord
  badRes : List (Bool × Nat × Nat)
  l1Bad : List Nat
  order : List (Bool × Nat)
  pendVL : Option Word
  pendVprog : Option Word
  pendMode : Option Word
  pendSeed : Option Word
  pendRngMode : Option Bool
  pendRng : NMap Word
  stopReq : Nat
  qwEnd : Option Word
  stepDue : Option Nat
  mcDue : List (Option Nat × Nat)
  held : Word
  deriving DecidableEq, Repr

/-! ### Memory -/

/-- A line of an L2 slice (R243), and the logical way that holds it. -/
structure L2Line where
  line : Nat
  way : Nat := 0
  kind : Nat
  cls : Nat
  dirty : Bool
  marker : Bool
  sharers : Nat
  deriving DecidableEq, Repr

/-- An outstanding line fill (R247): the requesters joined, with the sectors and the hint of each; `flipped` says that a
VISIBLE_RING flip came after the request (R238). -/
structure Fill where
  line : Nat
  kind : Nat
  flipped : Bool
  reqs : List (Nat × Nat × Nat)
  cls : Nat
  deriving DecidableEq, Repr

/-- A slice: its lines, most recently used first, its fills, and the thrash detector (R251). -/
structure Slice where
  lines : List L2Line
  fills : List Fill
  counts : NMap Nat
  fired : List Nat
  evicted : List (Nat × Nat × Nat)
  deriving DecidableEq, Repr

/-- An exact accumulator (R284, R285): its value in units of 2^-298, and STATUS bits 3 to 0. -/
structure ExAcc where
  val : Int
  st : Nat
  deriving DecidableEq, Repr

/-- The sapwood of one ring: the granules taken, the bytes written, and the sectors that are poisoned (R213, R278). -/
structure Sap where
  gran : List Nat
  bytes : NMap Byte
  bad : List Nat
  deriving DecidableEq, Repr

/-- A version of an ACCUM granule held for a sub-ring (R196): a copy of the base with the writes applied, poisoned
sectors included. -/
structure AccVer where
  sub : Nat
  gran : Nat
  bytes : NMap Byte
  bad : List Nat
  deriving DecidableEq, Repr

/-- Who issued a write that waits in a stack or a bank (R214, R269): a core's store; a core's atomic, with the register it writes and the
value it has read; a transfer engine's request, or the STATUS of its descriptor; or a remote request, with the bytes an ATOM has read. -/
inductive WSrc where
  | core (c : Nat)
  | atom (c rd : Nat) (old : Word)
  | engine (e : Nat) (req : Nat)
  | status (e desc : Nat)
  | remote (p : Packet) (old : List Byte)
  deriving DecidableEq, Repr

/-- A write that waits for a pool granule, for a bank, or behind an overlapping write that waits (R214, R269, R275). -/
structure PoolWait where
  addr : Nat
  bytes : List Byte
  sub : Nat
  ring : Nat
  src : WSrc
  deriving DecidableEq, Repr

/-- A page-kind command in progress in a stack (R281). -/
structure PteCmd where
  next : Nat
  left : Nat
  entry : Nat
  deriving DecidableEq, Repr

/-- A request waiting in a pseudo-channel's sorter (R274): its 32-byte sector, and whether it writes. -/
structure SortReq where
  sector : Nat
  wr : Bool
  deriving DecidableEq, Repr

/-- Everything that holds memory, and the logic of the stacks. Pinned bytes are kept by slice, logical way and place in the way;
`epoch` counts the times the SRAMs lost their contents
(assumption 3). `poison` holds the uncorrectable words of bank memory and sectors of heartwood, with their lengths, and `wback` those of
the sectors that the L2 wrote back poisoned (R257); `arrBad`, `pinBad` and `l2Bad` the uncorrectable words of the arrays, of the pinned ways
and of the lines of the L2; `soft` the words of bank memory with one wrong bit (R264). `sorter` holds the
requests of every sorter in their order of arrival, `turns` the DRAM bank each pseudo-channel served last, `streak` the accesses in a row
to the open page of a DRAM bank (R274), and `bankSpare` the spares in use in each physical bank (R260). -/
structure Mem where
  stk : NMap Byte
  dirty : NMap Byte
  bank : NMap Byte
  pins : NMap Byte
  epoch : Nat
  arr : NMap Byte
  zeroLo : NMap Nat
  poison : NMap Nat
  wback : List Nat
  arrBad : List Nat
  pinBad : List Nat
  l2Bad : List Nat
  soft : List Nat
  gens : NMap Nat
  exacc : NMap ExAcc
  pte : NMap Nat
  pteCmd : NMap PteCmd
  slices : Vector Slice 8
  sapNew : Sap
  sapOld : Sap
  retained : Sap
  accVers : List AccVer
  poolWait : List PoolWait
  bankOut : List Nat
  openRows : NMap Nat
  sorter : List SortReq
  turns : NMap Nat
  streak : NMap Nat
  bankSpare : NMap Nat
  dieErr : NMap Nat
  rowErr : NMap Nat
  colErr : NMap Nat
  deriving DecidableEq, Repr

/-! ### Rings -/

/-- What a slot holds of its ring beyond its registers. -/
structure RingSlot where
  /-- The first cause of its doom: cause, culprit, and whether it arose here (R211). -/
  cause : Option (Nat × Nat × Bool)
  doomSent : Bool
  voted : Option RingPayload
  mirrorLeft : Nat
  /-- Whether its mirror drain has begun, and the packets of 8 KiB that are still to be sent (R219, R328). -/
  draining : Bool
  mirrorTodo : List Nat
  drained : Bool
  prepared : Bool
  deriving DecidableEq, Repr

/-- Why a ring is to be discarded: cause, culprit, shard and step (Table 8.6). -/
structure Why where
  cause : Nat
  culprit : Nat
  shard : Nat
  step : Nat
  deriving DecidableEq, Repr

/-- The leader's record of a ring that is COLLECTING (1), RECORDING (2) or ANNOUNCED with COMMIT (3) (Table 8.5). -/
structure LeadRec where
  ring : Nat
  state : Nat
  votes : List RingPayload
  why : Option Why
  flipped : List Nat
  g : Nat
  deriving DecidableEq, Repr

/-- A resolve in progress (R224), of the leader or of a member: the proposal, whether the outstanding CLAIM is H2's, and what
H1 recorded. `phase` is 0 while a CLAIM is out, 1 while it awaits its resending, 2 while the resolve stands undecided. -/
structure Resolve where
  ring : Nat
  lead : Bool
  prop : RingPayload
  atH2 : Bool
  v1 : Option RingPayload
  phase : Nat
  deriving DecidableEq, Repr

/-- The ring logic. -/
structure RingSt where
  highest : Nat
  used : Nat
  closing : List (Nat × Bool)
  newer : RingSlot
  older : RingSlot
  leads : List LeadRec
  announced : List (Nat × Nat × Nat)
  collected : List Nat
  resolves : List Resolve
  log : List RingPayload
  evicted : List (Nat × Nat)
  overlap : List (Nat × Nat × Nat)
  members : List Nat
  mirrored : List (Nat × Nat)
  recovering : Nat
  opened : Nat
  deriving DecidableEq, Repr

/-! ### Transfer engines -/

/-- A posted descriptor: its address and what the engine samples at the post (R294). -/
structure XPost where
  addr : Nat
  core : Option Nat
  tag : Nat
  sub : Nat
  aborted : Bool
  deriving DecidableEq, Repr

/-- A request of an active descriptor (R295): byte offset, source and destination, length, the bytes it is to write once it has read
them, and whether its write waits in a stack. -/
structure XReq where
  id : Nat
  off : Nat
  src : Nat
  dst : Nat
  len : Nat
  data : List Byte
  wr : Bool
  deriving DecidableEq, Repr

/-- An active descriptor (R293). -/
structure XDesc where
  id : Nat
  post : XPost
  ctrl : Nat
  src : Nat
  dst : Nat
  len : Nat
  sstride : Nat
  dstride : Nat
  sigaddr : Nat
  siginc : Nat
  todo : List XReq
  issued : List XReq
  gens : NMap Nat
  stale : Bool
  fail : Option (Nat × Nat × Nat)
  aborted : Bool
  signal : Nat
  deriving DecidableEq, Repr

/-- A transfer engine; `posts` holds the posts to its full queue that wait, as master and value (R292). -/
structure XEng where
  queue : List XPost
  posts : List (Nat × Word)
  active : List XDesc
  nextReq : Nat
  hwm : Nat
  lastGroup : Nat
  runLen : Nat
  lastStack : Bool
  deriving DecidableEq, Repr

/-! ### The Ride endpoint -/

/-- A flit sent and not yet acknowledged (Table 12.1, R312): its fields, the packets whose units it carries, each with its first unit here
and how many, the JOIN record of a control flit as device and physical port (R336), and how often it has been replayed. -/
structure TxFlit where
  fseq : Nat
  ack : Nat
  type : Nat
  credit0 : Nat
  credit1 : Nat
  credit2 : Nat
  parts : List (Packet × Nat × Nat)
  join : Option (Nat × Nat)
  replays : Nat
  deriving DecidableEq, Repr

/-- One port's link layer (R309 to R313): the next FSEQ expected and sent, the flits unacknowledged, the credit held on each virtual
channel, the training attempts that failed in a row, whether a replay request is to be sent (1) or has been (2), the units of receive
buffer freed and not yet returned as credit, the packets being sent with the units of each that have left, a packet received in part with
its units still to come, the physical lanes of logical lanes 0 to 3, and the symbols corrected on each since a millisecond began. -/
structure Port where
  rxNext : Nat
  txNext : Nat
  unacked : List TxFlit
  credit0 : Nat
  credit1 : Nat
  credit2 : Nat
  fails : Nat
  asked : Nat
  freed0 : Nat
  freed1 : Nat
  freed2 : Nat
  txq : List (Packet × Nat)
  part : Option (List Byte × Nat)
  lanes : List Nat
  fec : List Nat
  deriving DecidableEq, Repr

/-- Who waits for the response to a request. -/
inductive Issuer where
  | coreGet (c addr size : Nat)
  | corePost (c : Nat)
  | coreAtom (c addr size : Nat)
  | coreWait (c : Nat)
  | engine (e desc req : Nat)
  | engineSignal (e desc : Nat)
  | mirror (stack ring : Nat)
  | vote
  | claim (ring : Nat) (lead atH2 : Bool)
  | announce (ring member kind : Nat)
  | abandoned
  deriving DecidableEq, Repr

/-- A request that awaits its response (R317). -/
structure RideReq where
  id : Nat
  pkt : Packet
  issuer : Issuer
  gaddr : Nat
  tried : List Nat
  sends : Nat
  busy : Bool
  dup : Bool
  /-- Whether it may leave again on any port, as after a BUSY (R318). -/
  anyPort : Bool
  answer : Option (Nat × List Byte)
  deriving DecidableEq, Repr

/-- The sending side of a stream (R316). -/
structure TxStream where
  dst : Nat
  cls : Nat
  psn : Nat
  idle : Bool
  /-- REFTIME when its last request was acknowledged. -/
  since : Nat
  deriving DecidableEq, Repr

/-- The receive state of a stream (R318): the watermark and the performed PSNs above it. -/
structure RxStream where
  src : Nat
  cls : Nat
  mark : Nat
  done : List Nat
  deriving DecidableEq, Repr

/-- The endpoint: `outbox` holds packets no port can take yet, `loop` packets this device has sent to itself (R314). -/
structure RideSt where
  ports : Vector Port 36
  rotor : Nat
  outbox : List Packet
  loop : List Packet
  /-- The receive buffers: packets that have arrived and not been taken, each with its port, 36 for one whose link has started anew. -/
  inbox : List (Nat × Packet)
  reqs : List RideReq
  /-- Ring protocol operations that wait for the endpoint to take them (R317). -/
  waiting : List (Packet × Issuer × Nat)
  nextId : Nat
  tx : List TxStream
  rx : List RxStream
  held : List Packet
  quiet : Bool
  outHwm : Nat
  rxHwm : Nat
  deriving DecidableEq, Repr

/-! ### Faults and Windthrow -/

/-- The fault log (R417), the windows of R418 as (class, kind, unit, time), the LFSRs of the injection points and the packets they
hold (R423), and the lines UART_TX has sent (R447). -/
structure FltSt where
  log : List FaultRec
  nextSeq : Nat
  windows : List (Nat × Nat × Nat × Nat)
  lfsr : Vector Nat 6
  held : List (Packet × Nat)
  uart : Nat
  deriving DecidableEq, Repr

/-! ### Forester -/

/-- A task slot that is not FREE (R343): its number, its post number, its post word, the core it is dispatched to, and for each
quadrant that has passed it over at every decision since, the time of the first (R352). -/
structure ForTask where
  slot : Nat
  post : Nat
  word : Nat
  core : Option Nat
  passed : List (Nat × Nat)
  deriving DecidableEq, Repr

/-- A periodic activity (R358): whether an instance runs, when it started, the nominal end that a write of FOR_ACT or the last start has
set, the nominal end of the instance that runs, when the next is due, and the highest ring and the number of rings opened when it
started. -/
structure ForActSt where
  running : Bool
  start : Nat
  nominal : Nat
  ends : Nat
  due : Nat
  ring0 : Nat
  opened0 : Nat
  deriving DecidableEq, Repr

/-- Forester: its slots, posts that wait for one, credits in 1/16 µJ, predicted temperatures in 1/16 °C, blockers by post number,
activities, and for each stack the time up to which its granules have been scrubbed. -/
structure ForSt where
  tasks : List ForTask
  nextPost : Nat
  waiting : List Word
  credit : Vector Nat 4
  temp : Vector Rat 4
  blocker : Vector (Option Nat) 4
  acts : Vector ForActSt 4
  scrubAt : Vector Nat 12
  deriving DecidableEq, Repr

/-! ### Power -/

/-- What an AVSBus frame commands (R374): Target Rail Voltage written, Vout Transition Rate written, or Status read. -/
inductive AvsCmd where
  | target (mv : Nat)
  | rate (slew : Nat)
  | status
  deriving DecidableEq, Repr

/-- An AVSBus frame (R374). -/
structure AvsFrame where
  rail : Nat
  cmd : AvsCmd
  deriving DecidableEq, Repr

/-- One AVSBus master: frames to send, the frame whose response the next one carries, and its resends. -/
structure AvsMaster where
  queue : List AvsFrame
  prev : Option AvsFrame
  tries : Nat
  deriving DecidableEq, Repr

/-- A change of clocks asked of a rail's cores (R377): whether it raises them, the point asked of each, whether its raise of the rail has
been sent, and whether its clocks may step. -/
structure RailJob where
  isRaise : Bool
  cores : List (Nat × Nat)
  sent : Bool
  ready : Bool
  deriving DecidableEq, Repr

/-- A rail's change in progress (R377, R378): whether it awaits its acknowledgement, whether it is a raise, whether the Status
response that acknowledges it has come, its timeouts, its failed raises in a row, the clocks of a locked rail's cores, and the changes
of clocks asked of it in arrival order, the first in service. -/
structure RailSt where
  await : Bool
  isRaise : Bool
  vdone : Bool
  timeouts : Nat
  fails : Nat
  caps : List (Nat × Nat)
  jobs : List RailJob
  deriving DecidableEq, Repr

/-- The power controller: its masters and rails, the clock Forester gives each core, the clock and Rest groups of the canopy's
GROUPS section (Table 15.3), the pins THERMTRIP_N and HEAT_IN_N, true while asserted,
and the quadrant and reading of the last thermal trip. -/
structure PwrSt where
  avs : Vector AvsMaster 2
  rails : Vector RailSt 5
  given : Vector Nat 48
  clkGroup : Vector Nat 48
  restGroup : Vector Nat 48
  thermtrip : Bool
  trip : Option (Nat × Nat)
  heatIn : Bool
  deriving DecidableEq, Repr

/-! ### What outlives power -/

/-- The Warden's ageing record: the retired elements as unit kind, physical number and sub-element (R386), whether it holds the
history of a plan, the planned delta of each physical core and of the arrays (R383, R384), and the powered hours. -/
structure NvSt where
  retired : List (Nat × Nat × Nat)
  planned : Bool
  delta : NMap Nat
  deltaSram : Nat
  hours : Nat
  lastPlan : Nat
  okey : List Byte
  floor : Nat
  stkRep : NMap Nat
  deriving DecidableEq, Repr

/-! ### The Warden and the module -/

/-- A mailbox request (R405, R406): a block in memory, a frame of the management port, or the internal LAUNCH of a CANREQ. -/
inductive MboxReq where
  | block (addr : Nat)
  | frame (f : MgmtFrame)
  | canreq (core addr : Nat)
  deriving DecidableEq, Repr

/-- A launch that waits for drain (R403): its canopy, when it was set pending, the core that a failure before the drain is
reported to, and the member list read for it (R220). -/
structure Launch where
  image : List Byte
  since : Nat
  core : Option Nat
  members : Option (List Nat)
  deriving DecidableEq, Repr

/-- The Warden: requests, reply frames sent, the pending launch, the interleave, pool size and device number of the last boot
canopy applied (R396), the GEN of both images, the lanes permitted (Table 15.3, LANES), the physical ways behind
each slice's logical ways, the management port, the last MODES
section applied, whether a boot canopy's structure has been applied since the last reset (R9), its ENERGY section, which Rest
re-applies (Table 14.5), the logical cores that are out of service as failing (R21, R385), whether a stored MEASURE awaits its readings, and the telemetry record: its sample of the counters, the board
regulators' answers, and the VOUT_MODE of each (R441). -/
structure WdnSt where
  mbox : List MboxReq
  mgmtOut : List MgmtFrame
  launch : Option Launch
  kept : Option (Nat × Nat × Nat)
  genA : Nat
  genB : Nat
  lanes : List Nat
  ways : Vector (List Nat) 8
  mac : Nat
  mgmtMode : Bool
  linkUp : Bool
  modes : Option (Nat × Bool)
  applied : Bool
  energy : List Byte
  coresOut : List Nat
  measuring : Bool
  telemTime : Nat
  telem : NMap Word
  pm : List PmRead
  vmode : List (Nat × Nat)
  deriving DecidableEq, Repr

/-- The instruction a TAP acts on (R445). -/
inductive TapIr where
  | bypass | idcode | samplePreload | extest | clamp | highz | extestPulse | extestTrain
  deriving DecidableEq, Repr

/-- The module's pins and serial ports: whether PORESET_N is asserted, the SMB0 address and the last bytes returned there, the last
reading of each junction sensor, the TAP's instruction and the data register it shifts (none for the boundary register), and the
two boot flash chips: their density and their bytes. -/
structure ModSt where
  poresetLow : Bool
  smbAddr : Nat
  smbOut : List Byte
  sensors : List (Nat × Nat)
  tap : TapIr
  tapDr : Option Nat
  flashSize : Vector Nat 2
  flash : Vector (NMap Byte) 2
  deriving DecidableEq, Repr

/-- The state of the device, and the queue of commands waiting. -/
structure State where
  regs : NMap Word
  ll : NMap Word
  cores : Vector CoreSt 48
  mem : Mem
  ring : RingSt
  xfer : Vector XEng 16
  ride : RideSt
  forr : ForSt
  pwr : PwrSt
  nv : NvSt
  wdn : WdnSt
  modu : ModSt
  flt : FltSt
  freeCtr : Nat
  entropy : Nat
  pending : List Instr
  deriving DecidableEq, Repr

/-! ### Reset -/

/-- A tile register with every byte 0 (R83). -/
def Tile.zero : Tile := { rows := Vector.replicate 64 0, scales := Vector.replicate 64 0, gen := 0 }

/-- A core right after reset: stopped, its architectural registers 0 (R83, R119; the scalar registers by assumption 1). The
seal key of a core that no power-up has drawn one for is 0 (DESIGN CHOICE, assumption 92). -/
def CoreSt.reset : CoreSt :=
  { pc := 0, x := Vector.replicate 32 0, f := Vector.replicate 32 0, v := Vector.replicate 32 0,
    m := Vector.replicate 8 0, tiles := Vector.replicate 8 Tile.zero, sealKey := 0, wait := .running, mbuf := [],
    fetch := [], l1 := [], pf := [], tileQ := [], reuse := [], vecQ := [], spilled := false, pendTimer := false, bad := [],
    badRes := [], l1Bad := [], order := [], pendVL := none, pendVprog := none, pendMode := none, pendSeed := none, pendRngMode := none, pendRng := [], stopReq := 0,
    qwEnd := none, stepDue := none, mcDue := [], held := 0 }

/-- An L2 slice with no line. -/
def Slice.empty : Slice := { lines := [], fills := [], counts := [], fired := [], evicted := [] }

/-- No sapwood. -/
def Sap.empty : Sap := { gran := [], bytes := [], bad := [] }

/-- Memory right after reset (R231, R283, R284). -/
def Mem.reset : Mem :=
  { stk := [], dirty := [], bank := [], pins := [], epoch := 0, arr := [], zeroLo := [], poison := [], wback := [], arrBad := [],
    pinBad := [], l2Bad := [], soft := [], gens := [], exacc := [],
    pte := [], pteCmd := [], slices := Vector.replicate 8 Slice.empty, sapNew := Sap.empty, sapOld := Sap.empty,
    retained := Sap.empty, accVers := [], poolWait := [], bankOut := [], openRows := [], sorter := [],
    turns := [], streak := [], bankSpare := [], dieErr := [], rowErr := [],
    colErr := [] }

/-- A ring slot that holds no ring. -/
def RingSlot.empty : RingSlot :=
  { cause := none, doomSent := false, voted := none, mirrorLeft := 0, draining := false, mirrorTodo := [],
    drained := false, prepared := false }

/-- The ring logic after PORESET_N (R231). -/
def RingSt.reset : RingSt :=
  { highest := 0, used := 0, closing := [], newer := RingSlot.empty, older := RingSlot.empty, leads := [],
    announced := [], collected := [], resolves := [], log := [], evicted := [], overlap := [], members := [], mirrored := [], recovering := 0, opened := 0 }

/-- An engine with nothing queued (R301). -/
def XEng.reset : XEng := { queue := [], posts := [], active := [], nextReq := 0, hwm := 0, lastGroup := 0, runLen := 0, lastStack := false }

/-- A port with an empty link. -/
def Port.reset : Port :=
  { rxNext := 0, txNext := 0, unacked := [], credit0 := 4096, credit1 := 4096, credit2 := 4096, fails := 0,
    asked := 0, freed0 := 0, freed1 := 0, freed2 := 0, txq := [], part := none, lanes := [], fec := [0, 0, 0, 0] }

/-- The endpoint after reset: silent for 4 ms, no stream held (R336). -/
def RideSt.reset : RideSt :=
  { ports := Vector.replicate 36 Port.reset, rotor := 0, outbox := [], loop := [], inbox := [], reqs := [], waiting := [], nextId := 0, tx := [], rx := [],
    held := [], quiet := true, outHwm := 0, rxHwm := 0 }

/-- Forester after reset: no task, no credit, every temperature at 45 °C (R349, R350). -/
def ForSt.reset : ForSt :=
  { tasks := [], nextPost := 0, waiting := [], credit := Vector.replicate 4 0, temp := Vector.replicate 4 720,
    blocker := Vector.replicate 4 none,
    acts := Vector.replicate 4 { running := false, start := 0, nominal := 0, ends := 0, due := 0, ring0 := 0, opened0 := 0 }, scrubAt := Vector.replicate 12 0 }

/-- The power controller with nothing under way. -/
def PwrSt.reset : PwrSt :=
  { avs := Vector.replicate 2 { queue := [], prev := none, tries := 0 },
    rails := Vector.replicate 5 { await := false, isRaise := false, vdone := false, timeouts := 0, fails := 0, caps := [], jobs := [] },
    given := Vector.replicate 48 24, clkGroup := Vector.ofFn Fin.val, restGroup := Vector.ofFn Fin.val,
    thermtrip := false, trip := none, heatIn := false }

/-- The Warden with nothing asked of it. -/
def WdnSt.reset : WdnSt :=
  { mbox := [], mgmtOut := [], launch := none, kept := none, genA := 0, genB := 0, lanes := [], ways := Vector.replicate 8 (List.range 16), mac := 0, mgmtMode := false,
    linkUp := false, modes := none, applied := false, energy := [], coresOut := [], measuring := false, telemTime := 0, telem := [], pm := [], vmode := [] }

/-- The module: a TAP at BYPASS, and two erased flash chips of the least density R440 allows. -/
def ModSt.reset : ModSt :=
  { poresetLow := false, smbAddr := 0x48, smbOut := [], sensors := [], tap := .bypass, tapDr := some 0,
    flashSize := Vector.replicate 2 0x8000000, flash := Vector.replicate 2 [] }

/-- The fault log after PORESET_N. -/
def FltSt.reset : FltSt := { log := [], nextSeq := 1, windows := [], lfsr := Vector.replicate 6 1, held := [], uart := 0 }

/-- The device right after PORESET_N, before the boot sequence has taken its first step: every register at its reset
value, every queue empty. -/
def State.reset : State :=
  { regs := [], ll := [], cores := Vector.replicate 48 CoreSt.reset, mem := Mem.reset, ring := RingSt.reset,
    xfer := Vector.replicate 16 XEng.reset, ride := RideSt.reset,
    forr := ForSt.reset, pwr := PwrSt.reset,
    nv := { retired := [], planned := false, delta := [], deltaSram := 0, hours := 0, lastPlan := 0, okey := [], floor := 0, stkRep := [] },
    wdn := WdnSt.reset, modu := ModSt.reset,
    flt := FltSt.reset,
    freeCtr := 0, entropy := 0, pending := [] }

end Sys2Proof.Machine
end

