-- ==== Sys2Proof/Machine/Ops.lean ====
section
/-! DEFINITION. The named operations over registers, cores, counters, interrupts and the fault log. -/
namespace Sys2Proof.Machine
open Host

/-! ### Registers -/

/-- A register's stored value. -/
def State.reg (s : State) (a : Nat) : Word := mapGet regReset s.regs a

/-- The state with a register's stored value replaced. -/
def State.setReg (s : State) (a : Nat) (w : Word) : State := { s with regs := mapPut regReset s.regs a w }

/-- A field of a register. -/
def State.fld (s : State) (a : Nat) (f : Fld) : Nat := f.get (s.reg a)

/-- The state with a field of a register replaced. -/
def State.setFld (s : State) (a : Nat) (f : Fld) (v : Nat) : State := s.setReg a (f.set v (s.reg a))

/-- Whether a field of a register is nonzero. -/
def State.test (s : State) (a : Nat) (f : Fld) : Bool := f.test (s.reg a)

/-- A flag field of a register set or cleared. -/
def State.setBit (s : State) (a : Nat) (f : Fld) (b : Bool) : State := s.setFld a f (if b then 1 else 0)

/-- The next free value, and the state with the counter advanced (assumption 2). -/
def State.free (s : State) : Nat × State := (Config.free s.freeCtr, { s with freeCtr := s.freeCtr + 1 })

/-- A command's next state: no command touches the queue of commands waiting behind it. -/
def next (s t : State) : Outcome State Fault Refusal := .next { t with pending := s.pending }

/-- Whether no clock runs but the Warden's: after a thermal trip (R372), while PORESET_N is asserted (R437), and in REST and OFF once the
domains are down (R367, Table 14.1). No event of a unit outside the Warden's domain has an effect then. -/
def State.still (s : State) : Bool :=
  let st := s.fld PWR_STATE fldPWR_STATE_STATE
  s.pwr.thermtrip || s.modu.poresetLow || st == 2 || (st == 4 && s.fld PWR_STATE fldPWR_STATE_DOMON == 0)

/-! ### Cores -/

/-- A logical core. -/
def State.core (s : State) (c : CoreId) : CoreSt := s.cores.get c

/-- The state with a logical core replaced. -/
def State.setCore (s : State) (c : CoreId) (k : CoreSt) : State := { s with cores := s.cores.set c k }

/-- The state with a function applied to a logical core. -/
def State.modCore (s : State) (c : CoreId) (f : CoreSt → CoreSt) : State := s.setCore c (f (s.core c))

/-- The logical core of a number; core 0 for a number that names none. -/
def coreOf (n : Nat) : CoreId := if h : n < 48 then ⟨n, h⟩ else ⟨0, by decide⟩

/-- The logical core numbers. -/
def allCores : List CoreId := List.finRange 48

/-- An integer register: x0 reads as 0 (R22). -/
def CoreSt.getX (k : CoreSt) (r : BitVec 5) : Word := if r = 0 then 0 else k.x.get r.toFin

/-- A write of an integer register: x0 ignores it (R22). -/
def CoreSt.setX (k : CoreSt) (r : BitVec 5) (w : Word) : CoreSt :=
  if r = 0 then k else { k with x := k.x.set r.toFin w }

/-- A floating register (R22). -/
def CoreSt.getF (k : CoreSt) (r : BitVec 5) : Word := k.f.get r.toFin

/-- A write of a floating register. -/
def CoreSt.setF (k : CoreSt) (r : BitVec 5) (w : Word) : CoreSt := { k with f := k.f.set r.toFin w }

/-- A vector register. -/
def CoreSt.getV (k : CoreSt) (r : BitVec 5) : BitVec 8192 := k.v.get r.toFin

/-- Register words that are written are uncorrectable no more (R117, R119). -/
def CoreSt.heal (k : CoreSt) (p : RegWord → Bool) : CoreSt := { k with bad := k.bad.filter fun w => !p w }

/-- Whether a register word lies in a vector register. -/
def inVec (r : BitVec 5) : RegWord → Bool
  | .vec q _ => q == r
  | _ => false

/-- Whether a register word lies in a mask register. -/
def inMask (r : BitVec 3) : RegWord → Bool
  | .mask q _ => q == r
  | _ => false

/-- Whether a register word lies in the first `n` words of the rows from `lo` to `hi - 1` of a tile, or in the first `m` words of their
scale rows. -/
def inTile (t : BitVec 3) (lo hi n m : Nat) : RegWord → Bool
  | .tile q i => q == t && decide (lo ≤ i / 32) && decide (i / 32 < hi) && decide (i % 32 < n)
  | .scale q i => q == t && decide (lo ≤ i / 2) && decide (i / 2 < hi) && decide (i % 2 < m)
  | _ => false

/-- A write of a vector register. -/
def CoreSt.setV (k : CoreSt) (r : BitVec 5) (w : BitVec 8192) : CoreSt := { k.heal (inVec r) with v := k.v.set r.toFin w }

/-- A mask register. -/
def CoreSt.getM (k : CoreSt) (r : BitVec 3) : BitVec 1024 := k.m.get r.toFin

/-- A write of a mask register. -/
def CoreSt.setM (k : CoreSt) (r : BitVec 3) (w : BitVec 1024) : CoreSt := { k.heal (inMask r) with m := k.m.set r.toFin w }

/-- A tile register. -/
def CoreSt.getT (k : CoreSt) (r : BitVec 3) : Tile := k.tiles.get r.toFin

/-- A write of a tile register: its write generation advances (R108). -/
def CoreSt.setT (k : CoreSt) (r : BitVec 3) (t : Tile) : CoreSt :=
  { k with tiles := k.tiles.set r.toFin { t with gen := (k.getT r).gen + 1 } }

/-- The physical core a logical core maps to (R14). -/
def physOf (s : State) (c : CoreId) : Nat := s.fld (CORE_ID c) fldCORE_ID_PHYS

/-- The physical bank of a logical one. -/
def physBank (s : State) (n : Nat) : Nat := s.fld (BANK_GRP_CFG (n / 4)) ⟨7 * (n % 4) + 6, 7 * (n % 4)⟩

/-- Whether a core is stopped (R41). -/
def isStopped (s : State) (c : CoreId) : Bool := s.test (CORE_STATUS c) fldCORE_STATUS_STOPPED

/-- Whether a core is in Hold (R355). -/
def inHold (s : State) (c : CoreId) : Bool := s.test (FOR_CORE c) fldFOR_CORE_HOLD

/-! ### Interrupts -/

/-- Bit `v` of a word. -/
def wbit (w : Word) (v : Nat) : Bool := bitOf w.toNat v

/-- The interrupts of a core that are pending and enabled (R46). -/
def enabledPending (s : State) (c : CoreId) : Word := s.reg (CORE_IPEND c) &&& s.reg (CORE_IEN c)

/-- WFI ends once an enabled interrupt is pending and the core's clock runs (Table 2.3, R355). -/
def wfiCheck (s : State) (c : CoreId) : State :=
  if inHold s c then s.modCore c fun k => { k with held := k.held &&& enabledPending s c }
  else if (s.core c).wait = .wfi ∧ enabledPending s c ≠ 0 then
    s.modCore c fun k => { k with wait := .running, pc := k.pc + 4 }
  else s

/-- An interrupt source sets a bit of CORE_IPEND (R50); the lines into a domain in Rest or Off are clamped to no event (Table 14.4). -/
def raiseInt (s : State) (c : CoreId) (v : Nat) : State :=
  if s.still ∨ 3 ≤ s.fld (PWR_CORE c) fldPWR_CORE_STATE then s
  else wfiCheck (s.setReg (CORE_IPEND c) (s.reg (CORE_IPEND c) ||| BitVec.ofNat 64 (2 ^ v))) c

/-- An interrupt raised on every core whose bit is set in a 48-bit mask. -/
def raiseMask (s : State) (mask v : Nat) : State :=
  allCores.foldl (fun s (c : CoreId) => if bitOf mask c.val then raiseInt s c v else s) s

/-! ### Counters -/

/-- The largest value of a 48-bit counter. -/
def max48 : Nat := 2 ^ 48 - 1

/-- A performance event counter: COUNT in bits [47:0] saturates and sets OVF in bit 63 (Table 0.6). OVF is set by an event that
COUNT can no longer hold, not by the one that brings it to its largest value (DESIGN CHOICE, assumption 88). -/
def countWord (w : Word) (n : Nat) : Word :=
  let k := w.toNat % 2 ^ 48 + n
  if max48 < k then (w ||| BitVec.ofNat 64 (2 ^ 63 + max48)) else (w &&& ~~~ BitVec.ofNat 64 max48) ||| BitVec.ofNat 64 k

/-- The cores that a counter's PERF_OVF is raised on, as its register map states (R233, R259, R287, R288, R305, R337, R362,
R388, Tables 16.11 and 16.15). -/
def perfMask (s : State) (a : Nat) : Nat :=
  if CORE_ID 0 ≤ a ∧ a < CORE_ID 48 then 2 ^ ((a - CORE_ID 0) / 0x10000)
  else if RING_CTRL ≤ a ∧ a < RING_CTRL + 0x10000 then s.fld RING_EVENT_ROUTE fldRING_EVENT_ROUTE_CORES
  else if L2_CFG 0 ≤ a ∧ a < L2_CFG 8 then s.fld (L2_THRASH_CFG ((a - L2_CFG 0) / 0x10000)) fldL2_THRASH_CFG_CORES
  else if XFER_POST 0 ≤ a ∧ a < XFER_POST 16 then
    2 ^ s.fld (XFER_CTRL ((a - XFER_POST 0) / 0x10000)) fldXFER_CTRL_CORE
  else if RIDE_PORT_STATUS 0 ≤ a ∧ a < RIDE_DEVICE + 0x10000 then
    s.fld RIDE_EVENT_ROUTE fldRIDE_EVENT_ROUTE_CORES
  else if WT_CTRL ≤ a ∧ a < FLT_HEAD + 0x10000 then 2 ^ s.fld FLT_ROUTE fldFLT_ROUTE_CORE
  else 1

/-- A performance event counter advanced; on saturation PERF_OVF is raised (R11). -/
def count (s : State) (a n : Nat) : State :=
  let w := s.reg a
  let s' := s.setReg a (countWord w n)
  if max48 < w.toNat % 2 ^ 48 + n ∧ wbit w 63 = false then raiseMask s' (perfMask s a) 21 else s'

/-- A 32-bit counter in a field: saturates and stays (Table 0.6). -/
def countSat (s : State) (a : Nat) (f : Fld) (n : Nat) : State :=
  let k := s.fld a f + n
  s.setFld a f (if 2 ^ f.width - 1 < k then 2 ^ f.width - 1 else k)

/-- The reference count, one for the device (R49). -/
def refTime (s : State) : Nat := (s.reg (CORE_REFTIME 0)).toNat

/-! ### The fault log -/

/-- A record before the Warden gives it a SEQ and a time. -/
def mkRec (cls sev kind unit : Nat) : FaultRec :=
  { seq := 0, time := 0, cls := cls, sev := sev, kind := kind, flags := 0, cause := 0, unit := unit, phys := unit,
    sub := 0, culprit := 0, addr := 0, ring := 0, arg := 0 }

/-- Whether a correctable record is suppressed: one of its class and unit stands within CEWIN ms (R418). -/
def ceSuppressed (s : State) (r : FaultRec) : Bool :=
  (r.cls == 1 || r.cls == 3) && s.flt.windows.any fun w =>
    w.1 == r.cls && w.2.1 == r.kind && w.2.2.1 == r.unit &&
      decide (refTime s < w.2.2.2 + s.fld FLT_CFG fldFLT_CFG_CEWIN * 100000)

/-- The Warden receives a record: it takes the next SEQ, enters the log of 512 and is routed (R417, R418, R420). -/
def logFault (s : State) (r : FaultRec) : State :=
  if ceSuppressed s r then count s FLT_CE_SUPPRESSED 1
  else
    let r' := { r with seq := s.flt.nextSeq, time := refTime s }
    let full := decide (512 ≤ s.flt.log.length)
    let log := (if full then s.flt.log.drop 1 else s.flt.log) ++ [r']
    let win := if r.cls = 1 ∨ r.cls = 3 then
        (r.cls, r.kind, r.unit, refTime s) ::
          s.flt.windows.filter fun w => !(w.1 == r.cls && w.2.1 == r.kind && w.2.2.1 == r.unit)
      else s.flt.windows
    let s : State := { s with flt := { s.flt with
      log := log, nextSeq := s.flt.nextSeq + 1, windows := win, uart := s.flt.uart + 1 } }
    let s := count s FLT_RECORDS 1
    let s := if full then count s FLT_LOST 1 else s
    let s := if bitOf r.flags 0 then count s FLT_INJECTED 1 else s
    if s.fld FLT_ROUTE fldFLT_ROUTE_MINSEV ≤ r.sev then
      raiseInt s (coreOf (s.fld FLT_ROUTE fldFLT_ROUTE_CORE)) (32 + s.fld FLT_ROUTE fldFLT_ROUTE_SWI)
    else s

/-- An element enters the Warden's ageing record as retired (R386): unit kind, physical number, sub-element. -/
def retire (s : State) (kind phys sub : Nat) : State :=
  if s.nv.retired.contains (kind, phys, sub) then s
  else { s with nv := { s.nv with retired := s.nv.retired ++ [(kind, phys, sub)] } }

/-! ### Windthrow -/

/-- One step of an injection point's LFSR (R423). -/
def lfsrStep (x : Nat) : Nat := if x % 2 = 1 then (x / 2) ^^^ 0x80200003 else x / 2

/-- Whether Windthrow acts (R422). -/
def wtOn (s : State) : Bool :=
  s.test CAN_POLICY fldCAN_POLICY_WINDTHROW && s.test WT_CTRL fldWT_CTRL_EN

/-- Whether Windthrow can act on a point at all. -/
def wtArmed (s : State) (k : Fin 6) : Bool := wtOn s && s.test (WT_POINT k) fldWT_POINT_ON

/-- An eligible event of point `k`: the state after its LFSR's step, and the choice value if it is injected (R423, R425).
`real` says that the event meets a real error. -/
def wtEvent (s : State) (k : Fin 6) (eligible real : Bool) : State × Option Nat :=
  let a := WT_POINT k
  if wtOn s && s.test a fldWT_POINT_ON && eligible then
    let x := lfsrStep (s.flt.lfsr.get k)
    let s : State := { s with flt := { s.flt with lfsr := s.flt.lfsr.set k x } }
    let rate := s.fld a fldWT_POINT_RATE
    if x % 2 ^ rate = 0 ∧ real = false then
      let n := s.fld a fldWT_POINT_COUNT
      let s := if n = 0 then s else s.setFld a fldWT_POINT_COUNT (n - 1)
      let s := if n = 1 then s.setBit a fldWT_POINT_ON false else s
      (count s (WT_INJECT k) 1, some (x / 2 ^ rate))
    else (s, none)
  else (s, none)

/-- A transfer into an island, which Windthrow may delay: timing only, but the event steps point 2 and is counted (Table 16.6, R18). The
transfers that the model knows are a line that arrives in an L2 slice or in a fetch buffer, a DRAM access, a flit, and the data of an
engine's request, one for each such command (DESIGN CHOICE, assumption 115). -/
def chanEvent (s : State) (island : Nat) : State :=
  let t := s.fld (WT_POINT 2) fldWT_POINT_TARGET % 256
  (wtEvent s 2 (t == 255 || t == island) false).1

/-- A number rotated left in 32 bits. -/
def rotl32 (x n : Nat) : Nat := ((x <<< (n % 32)) ||| (x >>> (32 - n % 32))) % 2 ^ 32

/-- The LFSR of a point reloaded from SEED (R423). -/
def wtReload (s : State) (k : Fin 6) : State :=
  { s with flt := { s.flt with lfsr := s.flt.lfsr.set k (rotl32 (s.fld WT_SEED fldWT_SEED_SEED) (5 * k)) } }

end Sys2Proof.Machine
end

