-- ==== Sys2Proof/Machine/PowerBase.lean ====
section
/-! DEFINITION. Clocks and rails: the need of a rail, its raises and lowerings over AVSBus (R376 to R378). -/
namespace Sys2Proof.Machine
open Host

/-- The power controller changed. -/
def State.modPwr (s : State) (f : PwrSt → PwrSt) : State := { s with pwr := f s.pwr }

/-- The quadrant of a logical core. -/
def quadOf (s : State) (c : Nat) : Nat := s.fld (CORE_ID c) fldCORE_ID_QUAD

/-- Whether a core's quiet window is open: it ends at a value of CORE_CYCLE (R48). -/
def qwOpen (s : State) (c : CoreId) : Bool :=
  match (s.core c).qwEnd with
  | some e => decide ((s.reg (CORE_CYCLE c)).toNat < e.toNat)
  | none => false

/-- The clock a core runs at, in steps of 100 MHz. -/
def coreFreq (s : State) (c : Nat) : Nat := s.fld (PWR_CORE c) fldPWR_CORE_FREQ

/-- The clock Forester requests of a core. -/
def coreFreqReq (s : State) (c : Nat) : Nat := s.fld (PWR_CORE c) fldPWR_CORE_FREQREQ

/-- The domain state of a core: 0 Full, 1 Trim, 2 Hold, 3 Rest, 4 Off (Table 14.2); Hold and Trim show over the stored Full. -/
def coreDomain (s : State) (c : Nat) : Nat :=
  let st := s.fld (PWR_CORE c) fldPWR_CORE_STATE
  if 3 ≤ st then st else if s.test (FOR_CORE c) fldFOR_CORE_HOLD then 2 else if coreFreq s c < 24 then 1 else 0

/-- V(c, f) of a core at a clock, in mV (R376). -/
def vtab (s : State) (c f : Nat) : Nat := s.fld (AGE_VTAB c (f - 6)) fldAGE_VTAB_V

/-- A rail's change. -/
def railOf (s : State) (k : Nat) : RailSt := s.pwr.rails.get (Fin.ofNat 5 k)

/-- A rail's change replaced. -/
def setRail (s : State) (k : Nat) (r : RailSt) : State := s.modPwr fun p => { p with rails := p.rails.set (Fin.ofNat 5 k) r }

/-- The AVSBus master of a rail (Table 14.7). -/
def railMaster (k : Nat) : Fin 2 := if k = 2 ∨ k = 3 then 1 else 0

/-- The clock a core runs at or is about to run at: the higher of its own and of the one that the change in service gives it (R376). -/
def coreSoon (s : State) (k c : Nat) : Nat :=
  match (railOf s k).jobs with
  | j :: _ => j.cores.foldl (fun m e => if e.1 = c then max m e.2 else m) (coreFreq s c)
  | [] => coreFreq s c

/-- The need of a rail: the largest V(c, f_c) over the powered cores of its quadrant, each at the clock it runs at or is about to
run at; the planned VDD_SRAM for rail 4. -/
def railNeed (s : State) (k : Nat) : Nat :=
  if k = 4 then s.fld AGE_VSRAM fldAGE_VSRAM_V
  else (upFrom 0 48).foldl (fun m c =>
    if quadOf s c = k ∧ coreDomain s c < 3 then max m (vtab s c (coreSoon s k c)) else m) 0

/-- A frame joins its master's queue. -/
def avsQueue (s : State) (f : AvsFrame) : State :=
  let m := railMaster f.rail
  s.modPwr fun p => { p with avs := p.avs.set m { p.avs.get m with queue := (p.avs.get m).queue ++ [f] } }

/-- A target is written to a rail, and its Status read until VDone (R375). -/
def writeTarget (s : State) (k mv : Nat) (isRaise : Bool) : State :=
  let s := s.setFld (PWR_RAIL k) fldPWR_RAIL_TARGET mv
  let s := setRail s k { railOf s k with await := true, isRaise := isRaise, vdone := false, timeouts := 0 }
  avsQueue (avsQueue s { rail := k, cmd := .target mv }) { rail := k, cmd := .status }

/-- Each rail's Vout Transition Rate is written once at power-up (R374). -/
def writeRates (s : State) : State :=
  (upFrom 0 5).foldl (fun s k => avsQueue s { rail := k, cmd := .rate (s.fld PWR_AVS_CFG fldPWR_AVS_CFG_SLEW) }) s

/-- The voltage a rail is taken to stand at for a raise: the lower of its old and new targets (R378). -/
def railLow (s : State) (k : Nat) : Nat :=
  min (s.fld (PWR_RAIL k) fldPWR_RAIL_NOW) (s.fld (PWR_RAIL k) fldPWR_RAIL_TARGET)

/-- The voltage a rail is taken to stand at for a lowering: the higher of its old and new targets. -/
def railHigh (s : State) (k : Nat) : Nat :=
  max (s.fld (PWR_RAIL k) fldPWR_RAIL_NOW) (s.fld (PWR_RAIL k) fldPWR_RAIL_TARGET)

/-- The clock that the locks of a core's rails allow it (R378); VDD_SRAM is a rail of every core (DEDUCED, assumption 113). -/
def lockCap (s : State) (c : Nat) : Nat :=
  let capOf := fun k =>
    match (railOf s k).caps.find? fun e => e.1 == c with
    | some e => if bitOf (s.fld PWR_AVS_STATUS fldPWR_AVS_STATUS_LOCK) k then e.2 else 24
    | none => 24
  min (capOf (quadOf s c)) (capOf 4)

/-- Whether every core of a change that is powered has reached its point, or as much of it as a lock allows. -/
def jobDone (s : State) (j : RailJob) : Bool :=
  j.cores.all fun e => decide (3 ≤ coreDomain s e.1) || coreFreq s e.1 == min e.2 (lockCap s e.1) ||
    (j.isRaise && decide (min e.2 (lockCap s e.1) ≤ coreFreq s e.1))

/-- One move of a rail's change where it awaits no acknowledgement (R376, R377): the change in service sends the raise that its need asks
for, lets its clocks step, or ends, and the rail is then lowered to a need that has fallen. With no change in service a need that has
grown is raised, and one that has fallen is lowered where `lower` allows it (R382). -/
def railMove (lower : Bool) (k : Nat) (s : State) : State :=
  let r := railOf s k
  let need := railNeed s k
  if r.await then s
  else
    match r.jobs with
    | [] =>
      if railLow s k < need then writeTarget s k need true
      else if lower ∧ need < railHigh s k then writeTarget s k need false
      else s
    | j :: rest =>
      if j.ready ∧ jobDone s j then
        let s := setRail s k { r with jobs := rest }
        let need := railNeed s k
        if need < railHigh s k then writeTarget s k need false else s
      else if j.ready then s
      else if j.isRaise ∧ j.sent = false ∧ railLow s k < need then
        writeTarget (setRail s k { r with jobs := { j with sent := true } :: rest }) k need true
      else setRail s k { r with jobs := { j with sent := true, ready := true } :: rest }

/-- A rail goes on as far as it can; its need is shown. -/
def railUpdate (s : State) (k : Nat) (lower : Bool) : State :=
  let s := Nat.repeat (railMove lower k) (2 * (railOf s k).jobs.length + 1) s
  s.setFld (PWR_RAIL k) fldPWR_RAIL_NEED (railNeed s k)

/-- The clock a core comes to once every change asked of its rail has been served. -/
def planned (jobs : List RailJob) (c f : Nat) : Nat :=
  jobs.foldl (fun f j => j.cores.foldl (fun f e => if e.1 = c then e.2 else f) f) f

/-- A raise of a core that has not been sent is dropped by a lowering of that core (Table 14.8). -/
def dropRaise (jobs : List RailJob) (c : Nat) : List RailJob :=
  (jobs.map fun j => if j.isRaise && !j.sent then { j with cores := j.cores.filter fun e => e.1 != c } else j).filter fun j =>
    !j.cores.isEmpty

/-- A change of one core's clock joins the changes asked of its rail: the last one, where that has the same direction and has not begun. -/
def addJob (jobs : List RailJob) (isRaise : Bool) (c f : Nat) : List RailJob :=
  match jobs.getLast? with
  | some j =>
    if j.isRaise = isRaise ∧ j.sent = false then
      jobs.dropLast ++ [{ j with cores := j.cores.filter (fun e => e.1 != c) ++ [(c, f)] }]
    else jobs ++ [⟨isRaise, [(c, f)], false, false⟩]
  | none => [⟨isRaise, [(c, f)], false, false⟩]

/-- The request of one core's clock joins its rail's changes (R376, R377, Table 14.8). -/
def setRequest (s : State) (c f : Nat) : State :=
  let s := if coreFreqReq s c = f then s else s.setFld (PWR_CORE c) fldPWR_CORE_FREQREQ f
  let q := quadOf s c
  let r := railOf s q
  let was := planned r.jobs c (coreFreq s c)
  let jobs := if f < was then dropRaise r.jobs c else r.jobs
  let now := planned jobs c (coreFreq s c)
  if f = was then s
  else setRail s q { r with jobs := if f = now then jobs else addJob jobs (decide (now < f)) c f }

/-- The rails of the four quadrants take up what has been asked of them. -/
def serveRails (s : State) : State :=
  (upFrom 0 4).foldl (fun s k => if (railOf s k).jobs.isEmpty then s else railUpdate s k true) s

/-- Forester gives a core a clock; every core of its clock group is asked for the least given to any of them (Table 15.3). -/
def requestClock (s : State) (c : CoreId) (f : Nat) : State :=
  let s := s.modPwr fun p => { p with given := p.given.set c f }
  let g := s.pwr.clkGroup.get c
  let mine := allCores.filter fun (d : CoreId) => s.pwr.clkGroup.get d == g
  let least := mine.foldl (fun m (d : CoreId) => min m (s.pwr.given.get d)) f
  mine.foldl (fun s (d : CoreId) => setRequest s d.val least) s

/-- The point that the change in service gives a core whose clock may step, as far as a lock allows it. -/
def stepPoint (s : State) (c : Nat) : Option Nat :=
  match (railOf s (quadOf s c)).jobs with
  | j :: _ =>
    if j.ready then
      let p := (j.cores.find? fun e => e.1 == c).map fun e => min e.2 (lockCap s c)
      p.filter fun p => if j.isRaise then decide (coreFreq s c < p) else p != coreFreq s c
    else none
  | [] => none

/-- One step of 100 MHz of a core's clock toward the point of the change in service (R377, R380). -/
def clockStep (s : State) (c : Nat) : State :=
  match stepPoint s c with
  | some r =>
    let f := coreFreq s c
    let f' := if r < f then f - 1 else f + 1
    let s := s.setFld (PWR_CORE c) fldPWR_CORE_FREQ f'
    let s := s.setFld (PWR_CORE c) fldPWR_CORE_VNEED (vtab s c f')
    if f' = r then railUpdate (count (count s PWR_VF_CHANGES 1) PWR_OSC_CAL 1) (quadOf s c) true else s
  | none => s

/-- A rail's acknowledgement: its target stands, and the change in service goes on (R375, R377). -/
def railAck (s : State) (k : Nat) : State :=
  let r := railOf s k
  if r.await ∧ r.vdone then
    let s := s.setFld (PWR_RAIL k) fldPWR_RAIL_NOW (s.fld (PWR_RAIL k) fldPWR_RAIL_TARGET)
    let s := setRail s k { r with await := false, vdone := false, timeouts := 0, fails := if r.isRaise then 0 else r.fails }
    railUpdate s k true
  else s

/-- An acknowledgement is not received in time (R378): the target is written once more, and then given up; a raise is abandoned with its
clocks where they are, and what was asked after it follows. -/
def avsTimeout (s : State) (k : Nat) : State :=
  let r := railOf s k
  if r.await = false then s
  else
    let s := count s PWR_AVS_TIMEOUT 1
    if r.timeouts = 0 then
      let s := setRail s k { r with timeouts := 1, vdone := false }
      avsQueue (avsQueue s { rail := k, cmd := .target (s.fld (PWR_RAIL k) fldPWR_RAIL_TARGET) }) { rail := k, cmd := .status }
    else
      let s := s.setFld PWR_AVS_STATUS fldPWR_AVS_STATUS_FAIL (s.fld PWR_AVS_STATUS fldPWR_AVS_STATUS_FAIL ||| 2 ^ k)
      let fails := if r.isRaise then r.fails + 1 else r.fails
      let lock := decide (4 ≤ fails) && r.isRaise
      let caps := if lock then ((upFrom 0 48).filter fun c => k == 4 || quadOf s c == k).map fun c => (c, coreFreq s c) else r.caps
      let jobs := match r.jobs with
        | j :: rest => if r.isRaise && j.isRaise && j.sent && !j.ready then rest else r.jobs
        | [] => []
      let s := setRail s k { r with await := false, vdone := false, timeouts := 0, fails := fails, caps := caps, jobs := jobs }
      let s := if lock then
          s.setFld PWR_AVS_STATUS fldPWR_AVS_STATUS_LOCK (s.fld PWR_AVS_STATUS fldPWR_AVS_STATUS_LOCK ||| 2 ^ k)
        else s
      let s := logFault s { mkRec 14 1 6 k with
        sub := if lock then 1 else 0, addr := s.fld (PWR_RAIL k) fldPWR_RAIL_TARGET, arg := 2 }
      if jobs.isEmpty then s else railUpdate s k true

/-- An AVSBus frame completes. It carries the response of the frame before: a write not acknowledged is sent again, at most
three times, and a Status read that shows VDone acknowledges its rail (R374, R375). Windthrow may withhold VDone. -/
def avsFrame (s : State) (m : Fin 2) (ok vdone : Bool) : State :=
  let s := count s PWR_AVS_FRAMES 1
  let a := s.pwr.avs.get m
  let s := match a.prev with
    | none => s
    | some f =>
      if ok = false then
        if a.tries < 3 then
          let s := count s PWR_AVS_RETRY 1
          s.modPwr fun p => { p with avs := p.avs.set m { p.avs.get m with queue := f :: (p.avs.get m).queue, tries := a.tries + 1 } }
        else s.modPwr fun p => { p with avs := p.avs.set m { p.avs.get m with tries := 0 } }
      else
        let s := s.modPwr fun p => { p with avs := p.avs.set m { p.avs.get m with tries := 0 } }
        if f.cmd ≠ AvsCmd.status then s
        else
          let elig := (railOf s f.rail).await && bitOf (s.fld (WT_POINT 5) fldWT_POINT_TARGET) f.rail
          let (s, inj) := wtEvent s 5 elig false
          if vdone ∧ inj.isNone ∧ (railOf s f.rail).await then setRail s f.rail { railOf s f.rail with vdone := true }
          else if (railOf s f.rail).await then avsQueue s f
          else s
  s.modPwr fun p =>
    let a := p.avs.get m
    { p with avs := p.avs.set m { a with prev := a.queue.head?, queue := a.queue.drop 1 } }

end Sys2Proof.Machine
end

