-- ==== Sys2Proof/Machine/Fec.lean ====
section
/-! DEFINITION. The RS(544,514) code of the Ride lanes over GF(2^10) (R308). The spec takes it from IEEE 802.3 Clause 91; the field
polynomial, the generator polynomial and the order of symbols and bits are those of that clause (PRESUMED, assumption 108). A codeword
is 544 symbols, the first sent first, the low bits of each first; its first symbol is the coefficient of x^543. -/
namespace Sys2Proof.Machine

/-! ### GF(2^10) -/

/-- A sum of shifted copies of `a`, one for each bit of `b` from `i` up. -/
def gfShifts (a b : Nat) : Nat → Nat → Nat
  | _, 0 => 0
  | i, n + 1 => (if bitOf b i then a <<< i else 0) ^^^ gfShifts a b (i + 1) n

/-- A polynomial of degree below `10 + n` reduced by x^10 + x^3 + 1. -/
def gfReduce : Nat → Nat → Nat
  | 0, x => x
  | n + 1, x => gfReduce n (if bitOf x (10 + n) then x ^^^ (0x409 <<< n) else x)

/-- The product of two field elements. -/
def gfMul (a b : Nat) : Nat := gfReduce 9 (gfShifts a b 0 10)

/-- The power of a field element with exponents of ten bits, the highest first. -/
def gfPow (a e : Nat) : Nat :=
  (upFrom 0 10).foldl (fun r i => let q := gfMul r r; if bitOf e (9 - i) then gfMul q a else q) 1

/-- The inverse of a nonzero field element. -/
def gfInv (a : Nat) : Nat := gfPow a 1022

/-- α^i. -/
def gfAlpha (i : Nat) : Nat := gfPow 2 (i % 1023)

/-- The value of a polynomial, its coefficients from x^0 up, at a field element. -/
def gfEval (l : List Nat) (x : Nat) : Nat := l.foldr (fun c r => gfMul r x ^^^ c) 0

/-- The product of a polynomial and x + a, coefficients from x^0 up. -/
def gfTimes (l : List Nat) (a : Nat) : List Nat := (List.zipWith (· ^^^ ·) (0 :: l) (l.map (gfMul a) ++ [0]))

/-- The generator polynomial: the product of x + α^j for j from 0 to 29, coefficients from x^0 up. -/
def rsGenerator : List Nat := (upFrom 0 30).foldl (fun l j => gfTimes l (gfAlpha j)) [1]

/-- Coefficients packed ten bits each, x^0 lowest. -/
def packSyms (l : List Nat) : Nat := l.foldr (fun c r => c + r * 1024) 0

/-- The symbols of ten bits packed in a number, the lowest first. -/
def symsOf : Nat → Nat → List Nat
  | 0, _ => []
  | n + 1, w => w % 1024 :: symsOf n (w / 1024)

/-- α^i times the generator polynomial without its x^30, packed: what a feedback bit adds to a remainder. -/
def rsRows : List Nat :=
  [0x8fe282ece68a0011b235468f99448417ad07bd81eb9f7dcd69c5262305881fcb927880d0a0b,
   0x1dc595d9cc16402360638d1f22ad082f1a9f7b02d57eebbed2884cd60b103f9724f100a341f,
   0x3b8b2bb3982c8046c0c6187e455a105e352ed60da8fd575dad12d9ac12297f2e49e20044c3e,
   0x771647473959008d818c30bc1ab029bc2add8c1353fa3ebb5a25b348045bfe1c13e4098987c,
   0xee2c8e8a7bb2010b27186138b544527a553b3c26a7b4fd56bd4b26102cb6fe7827c812114f8,
   0xde599d34ff6642066e39c231fa88a4f4aa665c4c4d697a8d73960cb0596cfef0df9024229f0,
   0xbef32a4dfecc840cd87b8663753548eb545cb8989a92753ee62e5960b2d8ffe13f0448453e0,
   0x7fe6d4bffc9b480994f60ec67a6a90d4e8a955303764ea79c55cb2c161b9fdc2fe2c908a3c9,
   0xff8d397bf134d0030dec1d8ce4f529abd1d28e606e8954d78ab92512c372f9c5ec7d201679b,
   0xfd5a62d7eb69a0061bd83b19c9ea5255e3a518c9dd12a9ab1d704ab582edf1cbc8de402cb3f]

/-! ### Encoding -/

/-- The packed remainder after one more message symbol. -/
def rsStep (rem m : Nat) : Nat :=
  let f := (rem >>> 290) ^^^ m
  rsRows.zipIdx.foldl (fun r e => if bitOf f e.2 then r ^^^ e.1 else r) ((rem % 2 ^ 290) <<< 10)

/-- The remainder of the message times x^30 by the generator, packed, x^0 lowest. -/
def rsRemainder (msg : List Nat) : Nat := msg.foldl rsStep 0

/-- The 30 check symbols of a message in the order they are sent. -/
def rsCheck (msg : List Nat) : List Nat := (symsOf 30 (rsRemainder msg)).reverse

/-- A message of 5,140 bits as a codeword of 5,440. -/
def rsEncode (msg : Nat) : Nat := msg % 2 ^ 5140 + packSyms (rsCheck (symsOf 514 msg)) * 2 ^ 5140

/-! ### Decoding -/

/-- The state of the search for the error locator: the locator, the one before the last length change, the length, the shift, and the
last discrepancy, each polynomial from x^0 up. -/
structure BmSt where
  c : List Nat
  b : List Nat
  len : Nat
  shift : Nat
  last : Nat
  deriving DecidableEq, Repr

/-- A polynomial with `k · x^n` times another added to it. -/
def polyAdd (c : List Nat) (k n : Nat) (b : List Nat) : List Nat :=
  let d := List.replicate n 0 ++ b.map (gfMul k)
  let w := max c.length d.length
  (upFrom 0 w).map fun i => c.getD i 0 ^^^ d.getD i 0

/-- One step of the Berlekamp–Massey search, at syndrome `n`. -/
def bmStep (syn : List Nat) (x : BmSt) (n : Nat) : BmSt :=
  let d := (upFrom 0 (x.len + 1)).foldl (fun d i => d ^^^ gfMul (x.c.getD i 0) (syn.getD (n - i) 0)) 0
  if d = 0 then { x with shift := x.shift + 1 }
  else
    let c := polyAdd x.c (gfMul d (gfInv x.last)) x.shift x.b
    if 2 * x.len ≤ n then { c := c, b := x.c, len := n + 1 - x.len, shift := 1, last := d }
    else { x with c := c, shift := x.shift + 1 }

/-- The errors of a codeword from its 30 syndromes: the power of x and the error value of each; none where more than 15 symbols are
wrong. -/
def rsErrors (syn : List Nat) : Option (List (Nat × Nat)) :=
  let r := (upFrom 0 30).foldl (bmStep syn) { c := [1], b := [1], len := 0, shift := 1, last := 1 }
  let at_ := (upFrom 0 544).filter fun i => gfEval r.c (gfAlpha (1023 - i % 1023)) == 0
  if 15 < r.len ∨ at_.length ≠ r.len then none
  else
    let omega := (upFrom 0 30).map fun n => (upFrom 0 (n + 1)).foldl (fun d i => d ^^^ gfMul (r.c.getD i 0) (syn.getD (n - i) 0)) 0
    let slope := r.c.zipIdx.map fun e => if e.2 % 2 = 1 then e.1 else 0
    some (at_.map fun i =>
      let x := gfAlpha i
      let y := gfAlpha (1023 - i % 1023)
      (i, gfMul (gfMul x (gfEval omega y)) (gfInv (gfMul (gfEval slope y) x))))

/-- The syndromes of a codeword from the difference between its check symbols and those its message asks for. -/
def rsSyndromes (diff : Nat) : List Nat := (upFrom 0 30).map fun j => gfEval (symsOf 30 diff) (gfAlpha j)

/-- A codeword received: its message of 5,140 bits and the symbols corrected; none where it does not decode. -/
def rsDecode (w : Nat) : Option (Nat × Nat) :=
  let msg := w % 2 ^ 5140
  let diff := packSyms ((symsOf 30 (w >>> 5140)).reverse) ^^^ rsRemainder (symsOf 514 msg)
  if diff = 0 then some (msg, 0)
  else (rsErrors (rsSyndromes diff)).map fun es =>
    (es.foldl (fun m e => if e.1 < 30 then m else m ^^^ (e.2 <<< (10 * (543 - e.1)))) msg, es.length)

end Sys2Proof.Machine
end

