-- ==== Sys2Proof/Machine/Link.lean ====
section
/-! DEFINITION. What the link layer puts on the lanes and takes from them: packet headers, units, flits and codewords (R309, R310, R315,
Tables 12.1 and 12.3). -/
namespace Sys2Proof.Machine

/-! ### Packets as bytes -/

/-- The whole 32-byte units of a payload (R322). -/
def unitsOf (n : Nat) : Nat := (n + 31) / 32

/-- A payload padded with zeros to whole units (R322). -/
def padUnits (l : List Byte) : List Byte := l ++ List.replicate (32 * unitsOf l.length - l.length) 0

/-- The units of a packet, its header included (Table 12.3). -/
def pktUnits (p : Packet) : Nat := 1 + unitsOf p.data.length

/-- FLAGS of a packet header. -/
def pktFlags (p : Packet) : Nat :=
  flag p.resp + 2 * flag p.seq + 4 * (p.cls % 4) + 16 * flag p.stamp + 32 * flag p.mirror + 64 * flag p.retx + 128 * flag p.new

/-- A packet's header (Table 12.3). -/
def headerBytes (p : Packet) : List Byte :=
  bytesOfNat 1 p.op ++ bytesOfNat 1 (pktFlags p) ++ bytesOfNat 2 (pktUnits p) ++ bytesOfNat 4 p.src ++ bytesOfNat 4 p.dst ++
    bytesOfNat 4 p.psn ++ bytesOfNat 6 p.addr ++ bytesOfNat 1 p.arg ++ bytesOfNat 1 p.status ++ bytesOfNat 8 p.tag

/-- A packet's units. -/
def packetBytes (p : Packet) : List Byte := headerBytes p ++ padUnits p.data

/-- The number that `n` bytes of a list spell from a place on. -/
def numAt (l : List Byte) (i n : Nat) : Nat := natOfBytes ((l.drop i).take n)

/-- The packet whose units are given. -/
def packetOf (l : List Byte) : Packet :=
  let fl := numAt l 1 1
  let units := numAt l 2 2
  { op := numAt l 0 1, resp := bitOf fl 0, seq := bitOf fl 1, cls := bitsOf fl 3 2, stamp := bitOf fl 4, mirror := bitOf fl 5,
    retx := bitOf fl 6, new := bitOf fl 7, src := numAt l 4 4 % 2 ^ 18, dst := numAt l 8 4 % 2 ^ 18, psn := numAt l 12 4,
    addr := numAt l 16 6, arg := numAt l 22 1, status := numAt l 23 1, tag := numAt l 24 8,
    rsv := units % 512 == 0 || units / 512 != 0 || numAt l 4 4 / 2 ^ 18 != 0 || numAt l 8 4 / 2 ^ 18 != 0, data := l.drop 32 }

/-! ### Flits (Table 12.1) -/

/-- The packets that a flit carries units of. -/
def TxFlit.pkts (f : TxFlit) : List Packet := f.parts.map Prod.fst

/-- The units of packets in a flit, as bytes. -/
def partBytes (parts : List (Packet × Nat × Nat)) : List Byte :=
  parts.flatMap fun e => ((packetBytes e.1).drop (32 * e.2.1)).take (32 * e.2.2)

/-- The index of the first unit that starts a packet, 0xFF if none. -/
def firstUnit : Nat → List (Packet × Nat × Nat) → Nat
  | _, [] => 0xFF
  | i, e :: l => if e.2.1 = 0 then i else firstUnit (i + e.2.2) l

/-- The units of a flit: packets, a control record, or padding. -/
def unitBytes (f : TxFlit) : List Byte :=
  let l := match f.join with
    | some (dev, port) => (upFrom 0 2528).map (Config.joinByte dev port)
    | none => partBytes f.parts
  l ++ List.replicate (2528 - l.length) 0

/-- `n` shifts of the CRC-64 register, the high bit first. -/
def crc64Shift : Nat → Nat → Nat
  | 0, x => x
  | n + 1, x => crc64Shift n (if bitOf x 63 then (x <<< 1) % 2 ^ 64 ^^^ 0x42F0E1EBA9EA3693 else x <<< 1)

/-- The CRC-64 of bytes with the polynomial of ECMA-182, from a register of 0, the high bit of each byte first (DESIGN CHOICE,
assumption 109). -/
def crc64 (l : List Byte) : Nat := l.foldl (fun x b => crc64Shift 8 (x ^^^ (b.toNat <<< 56))) 0

/-- The 2,560 bytes of a flit. -/
def flitBytes (f : TxFlit) : List Byte :=
  let head := bytesOfNat 4 f.fseq ++ bytesOfNat 4 f.ack ++ bytesOfNat 1 f.type ++ [0] ++ bytesOfNat 2 f.credit0 ++ bytesOfNat 2 f.credit1 ++
    bytesOfNat 2 f.credit2 ++ unitBytes f
  let tail := bytesOfNat 1 (firstUnit 0 f.parts) ++ List.replicate 7 0
  head ++ bytesOfNat 8 (crc64 (head ++ tail)) ++ tail

/-- A codeword's message: its header and 640 bytes of a flit (R309). -/
def codeMessage (lane fseq : Nat) (l : List Byte) : Nat := lane + 16 * (fseq % 4096) + natOfBytes l * 2 ^ 20

/-- The codewords of a flit as they leave on logical lanes 0 to 3 (R308, R309). -/
def flitWords (f : TxFlit) : Flit :=
  let l := flitBytes f
  let w := fun (i : Nat) => BitVec.ofNat 5440 (rsEncode (codeMessage i f.fseq ((l.drop (640 * i)).take 640)))
  ⟨w 0, w 1, w 2, w 3⟩

/-! ### Reception -/

/-- A flit received: its bytes, where its codewords decode and belong together, and the symbols corrected on each lane. -/
structure RxFlit where
  bytes : Option (List Byte)
  fixed : List Nat
  deriving DecidableEq, Repr

/-- The flit that codewords carry: each names the lane whose 640 bytes it holds, and the FSEQ bits of all four are those of the flit. -/
def rxFlit (f : Flit) : RxFlit :=
  let ds := [f.w0, f.w1, f.w2, f.w3].map fun w => rsDecode w.toNat
  let part := fun (i : Nat) => ds.findSome? fun d => d.bind fun m => if m.1 % 16 = i ∧ m.1 / 2 ^ 16 % 16 = 0 then some m.1 else none
  let fixed := ds.map fun d => (d.map Prod.snd).getD 0
  match part 0, part 1, part 2, part 3 with
  | some m0, some m1, some m2, some m3 =>
    let l := [m0, m1, m2, m3].flatMap fun m => bytesOfNat 640 (m / 2 ^ 20)
    if [m0, m1, m2, m3].all fun m => m / 16 % 4096 == numAt l 0 4 % 4096 then ⟨some l, fixed⟩ else ⟨none, fixed⟩
  | _, _, _, _ => ⟨none, fixed⟩

/-- Whether the CRC of a flit matches. -/
def flitOk (l : List Byte) : Bool := numAt l 2544 8 == crc64 (l.take 2544 ++ l.drop 2552)

/-- Packets cut from units: what a packet in part still lacks, and the packets that have ended. A unit that begins with 0x00 where no
packet is open is padding. -/
def cutUnits : List (List Byte) → Option (List Byte × Nat) → List Packet → Option (List Byte × Nat) × List Packet
  | [], part, out => (part, out.reverse)
  | u :: l, part, out =>
    let (bs, left) := match part with
      | some (bs, n) => (bs ++ u, n - 1)
      | none => (u, if u.head? = some 0 then 0 else numAt u 2 2 % 512 - 1)
    if part.isNone ∧ u.head? = some 0 then cutUnits l none out
    else if left = 0 then cutUnits l none (packetOf bs :: out)
    else cutUnits l (some (bs, left)) out

/-- The units of a flit. -/
def flitUnits (l : List Byte) : List (List Byte) := (upFrom 0 79).map fun i => (l.drop (16 + 32 * i)).take 32

end Sys2Proof.Machine
end

