-- ==== Sys2Proof/Machine/RideSend.lean ====
section
/-! DEFINITION. Sending on the Ride fabric: streams, sequence numbers, port choice, credits and flits (R311 to R319). -/
namespace Sys2Proof.Machine

/-- The device number that names the issuing device (R314). -/
def selfAlias : Nat := 0x3FFFF

/-- This device's number (R336). -/
def ownDevice (s : State) : Nat := s.fld RIDE_DEVICE fldRIDE_DEVICE_NUMBER

/-- Whether a device number names this device (R314, R220). -/
def isSelf (s : State) (d : Nat) : Bool := d == selfAlias || d == ownDevice s

/-- The virtual channel of a packet (R311). -/
def pktVc (p : Packet) : Nat := if p.resp then 1 else if p.cls = 3 ∧ p.op ≠ 11 then 2 else 0

/-- The credit a port holds on a virtual channel. -/
def Port.credit (p : Port) (vc : Nat) : Nat := if vc = 0 then p.credit0 else if vc = 1 then p.credit1 else p.credit2

/-- A port's credit changed on a virtual channel. -/
def Port.setCredit (p : Port) (vc n : Nat) : Port :=
  if vc = 0 then { p with credit0 := n } else if vc = 1 then { p with credit1 := n } else { p with credit2 := n }

/-- The state of a port (Table 12.2). -/
def portState (s : State) (p : Fin 36) : Nat := s.fld (RIDE_PORT_STATUS p) fldRIDE_PORT_STATUS_STATE

/-- Whether the canopy made a port active. -/
def portActive (s : State) (p : Fin 36) : Bool := s.test (RIDE_PORT_STATUS p) fldRIDE_PORT_STATUS_ACTIVE

/-- The endpoint with one port changed. -/
def RideSt.modPort (r : RideSt) (p : Fin 36) (f : Port → Port) : RideSt := { r with ports := r.ports.set p (f (r.ports.get p)) }

/-- Whether a port can take a packet now: UP, with credit for all its units (R311, R317). -/
def portTakes (s : State) (p : Fin 36) (k : Packet) : Bool :=
  portState s p == 3 && decide ((pktUnits k) ≤ (s.ride.ports.get p).credit (pktVc k))

/-- The ports in rotation after the last one used (R317). -/
def portRotation (s : State) : List (Fin 36) :=
  (List.finRange 36).rotateLeft (s.ride.rotor % 36)

/-- A packet joins those that a port sends, with the credit its units take (R311). -/
def sendPacket (s : State) (p : Fin 36) (k : Packet) : State :=
  let port := s.ride.ports.get p
  let port := port.setCredit (pktVc k) (port.credit (pktVc k) - pktUnits k)
  { s with ride := { s.ride with ports := s.ride.ports.set p { port with txq := port.txq ++ [(k, 0)] }, rotor := p.val + 1 } }

/-- Units of packets for one flit: the parts that leave, each with its packet, first unit and number, and what is still to be sent. -/
def takeUnits : Nat → List (Packet × Nat) → List (Packet × Nat × Nat) × List (Packet × Nat)
  | _, [] => ([], [])
  | room, (k, i) :: l =>
    let n := pktUnits k - i
    if room = 0 then ([], (k, i) :: l)
    else if room < n then ([(k, i, room)], (k, i + room) :: l)
    else
      let r := takeUnits (room - n) l
      ((k, i, n) :: r.1, r.2)

/-- Windthrow point 0 judges a flit that leaves a port (Table 16.6). -/
def linkEvent (s : State) (p : Fin 36) : State :=
  let param := s.fld (WT_POINT 0) fldWT_POINT_PARAM
  let tgt := s.fld (WT_POINT 0) fldWT_POINT_TARGET % 64
  (wtEvent s 0 (decide (param ≤ 2) && (tgt == 63 || tgt == p.val)) false).1

/-- A flit of a type leaves a port, with its acknowledgement and the credit it returns, and stands in the replay buffer (R311, R312). -/
def sendFlit (s : State) (p : Fin 36) (type : Nat) (parts : List (Packet × Nat × Nat)) (rest : List (Packet × Nat))
    (join : Option (Nat × Nat)) : State :=
  let q := s.ride.ports.get p
  let f : TxFlit := { fseq := q.txNext, ack := (q.rxNext + 2 ^ 32 - 1) % 2 ^ 32, type := type, credit0 := q.freed0, credit1 := q.freed1,
                      credit2 := q.freed2, parts := parts, join := join, replays := 0 }
  linkEvent { s with ride := s.ride.modPort p fun q =>
    { q with txNext := (q.txNext + 1) % 2 ^ 32, unacked := q.unacked ++ [f], txq := rest, asked := if type = 2 then 2 else q.asked,
             freed0 := 0, freed1 := 0, freed2 := 0 } } p

/-- A port's next flit: the replay request it owes, the units of packets that wait, or padding alone; none while its 512 slots are full
(R310 to R312). -/
def nextFlit (s : State) (p : Fin 36) : State :=
  let q := s.ride.ports.get p
  if portState s p ≠ 3 ∨ 512 ≤ q.unacked.length then s
  else if q.asked = 1 then sendFlit s p 2 [] q.txq none
  else
    let (parts, rest) := takeUnits 79 q.txq
    sendFlit s p (if parts.isEmpty then 1 else 0) parts rest none

/-- Whether a flit time of 25.6 ns ends in the cycle of REFCLK_CORE that has just ended (R309). -/
def flitDue (s : State) : Bool := decide (refTime s * 100 / 256 ≠ (refTime s - 1) * 100 / 256)

/-- Every port that is UP sends a flit as its time comes. -/
def flitTick (s : State) : State := if flitDue s then (List.finRange 36).foldl nextFlit s else s

/-- A packet with bit `i` of its payload inverted. -/
def flipBit (l : List Byte) (i : Nat) : List Byte :=
  l.mapIdx fun j b => if j = i / 8 then b ^^^ BitVec.ofNat 8 (2 ^ (i % 8)) else b

/-- Whether injection point 1 judges a packet leaving the endpoint (Table 16.6). -/
def xportEligible (s : State) (k : Packet) : Bool :=
  let param := s.fld (WT_POINT 1) fldWT_POINT_PARAM
  let tgt := s.fld (WT_POINT 1) fldWT_POINT_TARGET % 2 ^ 18
  (tgt == selfAlias || tgt == k.dst) &&
    (if param = 0 then !k.resp else if param = 1 then k.resp else if param = 2 then !k.data.isEmpty
     else decide (param ≤ 63))

/-- A packet leaves the endpoint by the next port in rotation that takes it and has not carried it; where none does it
waits in the outbox. Windthrow point 1 may drop, corrupt or hold it. The port used is returned. -/
def sendOn (s : State) (k : Packet) (tried : List Nat) : State × Option Nat :=
  if s.ride.quiet then ({ s with ride := { s.ride with outbox := s.ride.outbox ++ [k] } }, none)
  else
    match (portRotation s).find? fun p => portTakes s p k && !tried.contains p.val with
    | none => ({ s with ride := { s.ride with outbox := s.ride.outbox ++ [k] } }, none)
    | some p =>
      match wtEvent s 1 (xportEligible s k) false with
      | (s, none) => (sendPacket s p k, some p.val)
      | (s, some d) =>
        let param := s.fld (WT_POINT 1) fldWT_POINT_PARAM
        if param ≤ 1 then (s, some p.val)
        else if param = 2 then
          (sendPacket s p { k with data := flipBit (padUnits k.data) (d % (256 * ((pktUnits k) - 1))) }, some p.val)
        else ({ s with flt := { s.flt with held := s.flt.held ++ [(k, param - 2)] } }, some p.val)

/-- The stream to a destination in a class, idle and at PSN 0 where none has been used (R316). -/
def txStream (s : State) (dst cls : Nat) : TxStream :=
  (s.ride.tx.find? fun t => t.dst == dst && t.cls == cls).getD { dst := dst, cls := cls, psn := 0, idle := true, since := 0 }

/-- A request's destination or target bytes (R316): those it reads, writes or adds to, and a blaze's value; none of a ring protocol
operation or a SERVICE, whose payload goes to no address. -/
def targetBytes (k : Packet) : Nat :=
  if k.op = 1 then 8 * (k.arg + 1)
  else if k.op = 2 then 32 * unitsOf k.data.length - 8 * k.arg
  else if k.op = 3 then (if bitOf k.arg 3 then 8 else 4)
  else if k.op = 4 ∨ k.op = 5 then 128
  else if k.op = 6 ∨ k.op = 7 then 4
  else 0

/-- Whether two requests have destination bytes in one 4 KiB-aligned block (R316). -/
def shareBlock (k r : Packet) : Bool :=
  targetBytes k != 0 && targetBytes r != 0 && decide (k.addr / 4096 ≤ (r.addr + targetBytes r - 1) / 4096) &&
    decide (r.addr / 4096 ≤ (k.addr + targetBytes k - 1) / 4096)

/-- Whether a request carries SEQ = 1 (R316). -/
def needsSeq (s : State) (k : Packet) : Bool :=
  (k.op == 6 || k.op == 8 || k.op == 9 || k.op == 10) ||
    s.ride.reqs.any fun r => r.answer.isNone && r.pkt.dst == k.dst && r.pkt.cls == k.cls && shareBlock k r.pkt

/-- Whether a stream is idle: fresh, or 2 ms without an unacknowledged request (R316). -/
def streamIdle (s : State) (t : TxStream) : Bool :=
  t.idle || (decide (t.since + 200000 ≤ refTime s) &&
    !(s.ride.reqs.any fun r => r.pkt.dst == t.dst && r.pkt.cls == t.cls && r.answer.isNone))

/-- A request before the transport gives it a PSN. -/
def mkReq (s : State) (op dst cls addr arg tag : Nat) (data : List Byte) : Packet :=
  { op := op, resp := false, seq := false, cls := cls, stamp := false, mirror := false, retx := false, new := false,
    src := ownDevice s, dst := if isSelf s dst then ownDevice s else dst, psn := 0, addr := addr, arg := arg,
    status := 0, tag := tag, rsv := false, data := data }

/-- The requests that await a response (R317, Table 12.16). -/
def outstanding (s : State) : Nat := s.ride.reqs.countP fun r => r.answer.isNone

/-- Whether the endpoint takes a request to a device: an entry of its table is free, and the device is joined or names itself (R317). -/
def endpointTakes (s : State) (dev : Nat) : Bool :=
  decide (outstanding s < 65536) && (isSelf s dev || s.test RIDE_DEVICE fldRIDE_DEVICE_JOINED)

/-- The active ports that are not UP: a request that needs sending has failed on each of them (R319). -/
def portsNotUp (s : State) : List Nat := ((List.finRange 36).filter fun p => portActive s p && portState s p != 3).map Fin.val

/-- The ports on which a request has failed or that have carried it, as it leaves by one or waits for one; that one stands last. -/
def triedNow (s : State) (tried : List Nat) (port : Option Nat) : List Nat :=
  (tried ++ if s.ride.quiet then [] else portsNotUp s).eraseDups.filter (fun p => some p != port) ++ port.toList

/-- Issue of a request: it takes the stream's next PSN, waits in the table of outstanding requests, and leaves on a port,
or, where it names this device, passes to the local endpoint (R314, R316, R317). `gaddr` is kept for R330. -/
def issueReq (s : State) (k : Packet) (issuer : Issuer) (gaddr : Nat) : State :=
  let t := txStream s k.dst k.cls
  let k := { k with psn := t.psn, new := streamIdle s t, seq := needsSeq s k }
  let rest := s.ride.tx.filter fun t' => !(t'.dst == k.dst && t'.cls == k.cls)
  let id := s.ride.nextId
  let own := k.dst == ownDevice s
  let s : State := { s with ride := { s.ride with
    tx := { t with psn := (t.psn + 1) % 2 ^ 32, idle := false } :: rest, nextId := id + 1 } }
  let (s, port) := if own then ({ s with ride := { s.ride with loop := s.ride.loop ++ [k] } }, none) else sendOn s k []
  let r : RideReq := { id := id, pkt := k, issuer := issuer, gaddr := gaddr, tried := if own then [] else triedNow s [] port,
                       sends := 1, busy := false, dup := false, anyPort := false, answer := none }
  let s : State := { s with ride := { s.ride with reqs := s.ride.reqs ++ [r] } }
  { s with ride := { s.ride with outHwm := max s.ride.outHwm (outstanding s) } }

/-- A request of the ring logic is issued, or waits until the endpoint takes it (R317). -/
def issueOrWait (s : State) (k : Packet) (issuer : Issuer) (gaddr : Nat) : State :=
  if endpointTakes s k.dst then issueReq s k issuer gaddr
  else { s with ride := { s.ride with waiting := s.ride.waiting ++ [(k, issuer, gaddr)] } }

/-- The requests of the ring logic that wait are issued, in their order, as the endpoint takes them. -/
def feedWaiting (s : State) : State :=
  s.ride.waiting.foldl (fun s w => issueOrWait s w.1 w.2.1 w.2.2) { s with ride := { s.ride with waiting := [] } }

/-- A response leaves on the next UP port with credit, or passes to this device itself (R317, R319). -/
def sendResp (s : State) (k : Packet) : State :=
  if k.dst = ownDevice s then { s with ride := { s.ride with loop := s.ride.loop ++ [k] } } else (sendOn s k []).1

/-- The response to a request (Table 12.3): its PSN, class, stamp and tag are the request's. -/
def respTo (s : State) (k : Packet) (status : Nat) (data : List Byte) : Packet :=
  { k with resp := true, seq := false, mirror := false, retx := false, new := false, src := ownDevice s, dst := k.src,
           addr := 0, arg := 0, status := status, rsv := false, data := data }

end Sys2Proof.Machine
end

