-- ==== Sys2Proof/Machine/RingBase.lean ====
section
/-! DEFINITION. Ring states, events, dooms and votes (R202 to R211, R217, R226). -/
namespace Sys2Proof.Machine

/-! ### The two slots (Table 8.1) -/

/-- The number of the newer ring, 0 if none. -/
def newerRing (s : State) : Nat := (s.reg RING_NEWER).toNat
/-- The number of the older ring, 0 if none. -/
def olderRing (s : State) : Nat := (s.reg RING_OLDER).toNat
/-- The state code of the newer ring. -/
def newerState (s : State) : Nat := s.fld RING_STATUS fldRING_STATUS_NEW_STATE
/-- The state code of the older ring. -/
def olderState (s : State) : Nat := s.fld RING_STATUS fldRING_STATUS_OLD_STATE

/-- The running ring's number, 0 outside any ring: the newer ring while RUNNING or SEAL_WAIT (R202). -/
def runningRing (s : State) : Nat := if newerState s = 1 ∨ newerState s = 2 then newerRing s else 0

/-- Whether every ring is FREE. -/
def allFree (s : State) : Bool := newerState s == 0 && olderState s == 0

/-- Whether a state is one whose outcome the device has not learned (Table 8.1). -/
def undecidedState (st : Nat) : Bool := st == 1 || st == 2 || st == 3 || st == 4 || st == 6

/-- An event bit set, with RING_EVENT raised on the routed cores (Table 8.32). -/
def ringEvent (s : State) (bit : Nat) : State :=
  let s := s.setReg RING_EVENT (s.reg RING_EVENT ||| BitVec.ofNat 64 (2 ^ bit))
  raiseMask s (s.fld RING_EVENT_ROUTE fldRING_EVENT_ROUTE_CORES) 20

/-! ### Sub-rings -/

/-- Whether sub-ring `k` is open. -/
def subIsOpen (s : State) (k : Nat) : Bool := k != 0 && decide (k < 64) && wbit (s.reg RING_SUBOPEN) k

/-- The sub-ring an access belongs to, 0 for none: a value that names no open sub-ring counts as none (R208). -/
def effSub (s : State) (k : Nat) : Nat := if subIsOpen s k then k else 0

/-- The sub-ring of a core's accesses (R208). -/
def coreSub (s : State) (c : CoreId) : Nat := s.fld (RING_CORE_SUB c) fldRING_CORE_SUB_SUB

/-! ### The ring protocol's payload (Table 8.6) -/

/-- The 64 bytes of a payload. -/
def ringBytes (p : RingPayload) : List Byte :=
  bytesOfNat 8 p.ring ++ bytesOfNat 8 p.g ++ bytesOfNat 2 p.group ++ bytesOfNat 1 p.kind ++ bytesOfNat 1 p.arg ++
    bytesOfNat 4 p.source ++ bytesOfNat 4 p.culprit ++ bytesOfNat 4 p.shard ++ bytesOfNat 8 p.step ++
    bytesOfNat 4 p.members ++ bytesOfNat 1 p.cause ++ List.replicate 19 0

/-- The payload spelled by 64 bytes. -/
def payloadOf (b : List Byte) : RingPayload :=
  let at' := fun o n => natOfBytes ((b.drop o).take n)
  { ring := at' 0 8, g := at' 8 8, group := at' 16 2, kind := at' 18 1, arg := at' 19 1, source := at' 20 4,
    culprit := at' 24 4, shard := at' 28 4, step := at' 32 8, members := at' 40 4, cause := at' 44 1 }

/-- The group identity (R220). -/
def groupId (s : State) : Nat := s.fld RING_GROUP fldRING_GROUP_GROUP_ID
/-- The members of the group (R220). -/
def groupSize (s : State) : Nat := s.fld RING_GROUP fldRING_GROUP_NM1 + 1
/-- The leader (R220). -/
def leaderDev (s : State) : Nat := s.fld RING_GROUP fldRING_GROUP_LEADER
/-- Whether this device leads its group. -/
def isLeader (s : State) : Bool := isSelf s (leaderDev s)
/-- The group step number. -/
def gstep (s : State) : Nat := (s.reg RING_GSTEP).toNat

/-- A payload sent by this device. -/
def mkPayload (s : State) (ring kind arg : Nat) : RingPayload :=
  { ring := ring, g := gstep s, group := groupId s, kind := kind, arg := arg, source := ownDevice s, culprit := 0,
    shard := 0, step := 0, members := 0, cause := 0 }

/-- A VOTE to a device: class 3, tag 0 (R226, R322). -/
def sendVote (s : State) (dst : Nat) (p : RingPayload) (issuer : Issuer) : State :=
  issueOrWait s (mkReq s 8 dst 3 0 0 0 (ringBytes p)) issuer (dst * 2 ^ 44)

/-! ### Dooms (R210, R211) -/

/-- Which slot of the two. -/
inductive Slot where
  | newer | older
  deriving DecidableEq, Repr

/-- The ring in a slot, 0 if none. -/
def slotRing (s : State) : Slot → Nat
  | .newer => newerRing s
  | .older => olderRing s

/-- The state code of a slot. -/
def slotState (s : State) : Slot → Nat
  | .newer => newerState s
  | .older => olderState s

/-- What a slot holds beyond its registers. -/
def slotOf (s : State) : Slot → RingSlot
  | .newer => s.ring.newer
  | .older => s.ring.older

/-- The slot replaced. -/
def setSlot (s : State) (sl : Slot) (r : RingSlot) : State :=
  match sl with
  | .newer => { s with ring := { s.ring with newer := r } }
  | .older => { s with ring := { s.ring with older := r } }

/-- The state code of a slot replaced. -/
def setSlotState (s : State) (sl : Slot) (st : Nat) : State :=
  match sl with
  | .newer => s.setFld RING_STATUS fldRING_STATUS_NEW_STATE st
  | .older => s.setFld RING_STATUS fldRING_STATUS_OLD_STATE st

/-- Whether a slot's doom bit is set. -/
def slotDoomed (s : State) : Slot → Bool
  | .newer => s.test RING_STATUS fldRING_STATUS_NEW_DOOM
  | .older => s.test RING_STATUS fldRING_STATUS_OLD_DOOM

/-- The doom bit of a slot. -/
def setDoomBit (s : State) (sl : Slot) (b : Bool) : State :=
  match sl with
  | .newer => s.setBit RING_STATUS fldRING_STATUS_NEW_DOOM b
  | .older => s.setBit RING_STATUS fldRING_STATUS_OLD_DOOM b

/-- The slot that holds a ring's number, if one does. -/
def slotOfRing (s : State) (r : Nat) : Option Slot :=
  if r = 0 then none
  else if newerRing s = r ∧ newerState s ≠ 0 then some .newer
  else if olderRing s = r ∧ olderState s ≠ 0 then some .older
  else none

/-- RING_CAUSE and RING_CAUSE_RING (R211). -/
def setCause (s : State) (ring cause culprit : Nat) (loc : Bool) : State :=
  let s := s.setReg RING_CAUSE (fldRING_CAUSE_CULPRIT.set culprit (fldRING_CAUSE_LOCAL.set (if loc then 1 else 0)
    (fldRING_CAUSE_CAUSE.set cause 0)))
  s.setReg RING_CAUSE_RING (BitVec.ofNat 64 ring)

/-- The details a RING_DOOM record carries for two of its causes (Table 16.4): SUB, ADDR and ARG. -/
structure DoomInfo where
  sub : Nat := 0
  addr : Nat := 0
  arg : Nat := 0
  deriving DecidableEq, Repr

/-- The RING_DOOM record of a ring (R419). -/
def doomRecord (s : State) (ring cause culprit : Nat) (i : DoomInfo) : State :=
  logFault s { mkRec 18 2 8 (ownDevice s) with
    flags := 2, cause := cause, culprit := culprit, ring := ring, sub := i.sub, addr := i.addr, arg := i.arg }

/-- A ring is doomed: its doom bit is set, and its first cause is recorded, announced, logged and sent to the leader as a
DOOM vote (R211). A ring whose outcome is known, or none, is left alone. -/
def doomSlot (s : State) (sl : Slot) (cause culprit : Nat) (i : DoomInfo) : State :=
  if undecidedState (slotState s sl) = false then s
  else
    let r := slotRing s sl
    let s := setDoomBit s sl true
    match (slotOf s sl).cause with
    | some _ => s
    | none =>
      let s := setSlot s sl { slotOf s sl with cause := some (cause, culprit, true) }
      let s := setCause s r cause culprit true
      let s := ringEvent s 4
      let s := doomRecord s r cause culprit i
      if (slotOf s sl).doomSent then s
      else
        let s := setSlot s sl { slotOf s sl with doomSent := true }
        sendVote s (leaderDev s) { mkPayload s r 2 cause with culprit := culprit } .vote

/-- The running ring is doomed, if one runs. -/
def doomRunning (s : State) (cause : Nat) (i : DoomInfo) : State :=
  if runningRing s = 0 then s else doomSlot s .newer cause (ownDevice s) i

/-- Every ring whose outcome the device has not learned is doomed (R211, R216). -/
def doomAll (s : State) (cause culprit : Nat) : State :=
  doomSlot (doomSlot s .older cause culprit {}) .newer cause culprit {}

/-- A ring named by number is doomed, if this device still holds it undecided (R215). -/
def doomRing (s : State) (r cause culprit : Nat) : State :=
  match slotOfRing s r with
  | some sl => doomSlot s sl cause culprit {}
  | none => s

/-- A sub-ring is doomed under RING_TRIP (Table 8.2). -/
def doomSub (s : State) (k : Nat) : State :=
  if wbit (s.reg RING_SUBDOOM) k then s
  else ringEvent (s.setReg RING_SUBDOOM (s.reg RING_SUBDOOM ||| BitVec.ofNat 64 (2 ^ k))) 5

/-- Each setting of an NV flag is reported with the sub-ring of the issuing task (R79), and trips by Table 8.3. -/
def reportNV (s : State) (sub : Nat) : State :=
  let k := effSub s sub
  if runningRing s = 0 then s
  else if k = 0 then
    if s.test RING_TRIP fldRING_TRIP_RING_NV then doomRunning s 1 {} else s
  else
    let p := s.fld RING_TRIP fldRING_TRIP_SUB_NV
    if p = 1 then doomSub s k else if p = 2 then doomRunning s 2 {} else s

end Sys2Proof.Machine
end

