-- ==== Sys2Proof/Machine/MemMap.lean ====
section
/-! DEFINITION. The local address map, the placement of stacked memory, the sapwood pool and the bytes memory holds
(R2 to R4, R212, R213, R234, R244, R248, R271 to R273). -/
namespace Sys2Proof.Machine

/-! ### Regions (Tables 0.3 and 0.4) -/

/-- First address after stacked memory. -/
def stackTop : Nat := 0x9000000000
/-- First address of bank memory. -/
def bankBase : Nat := 0xE0000000000
/-- First address of the core-local windows. -/
def windowBase : Nat := 0xE1000000000
/-- First address of the L2 pinned window. -/
def pinBase : Nat := 0xE2000000000
/-- First address of the control registers. -/
def ctrlBase : Nat := 0xF0000000000
/-- First address of the blazes. -/
def blazeBase : Nat := 0xF0100000000
/-- First address of the exact accumulators. -/
def exaccBase : Nat := 0xF0200000000

/-- Where a populated address lies. -/
inductive Region where
  | stack
  | bank (n : Nat)
  | array (c : Nat) (off : Nat)
  | pin (slice off : Nat)
  | ctrl
  | blaze
  | exacc
  deriving DecidableEq, Repr

/-- The bytes of an L1 share code (Table 9.3). -/
def shareBytes (code : Nat) : Nat :=
  if code = 1 then 0x40000 else if code = 2 then 0x80000 else if code = 3 then 0x100000
  else if code = 4 then 0x200000 else 0

/-- The L1 share in effect on a core (R234). -/
def l1Share (s : State) (c : Nat) : Nat := shareBytes (s.fld (CORE_L1CFG c) fldCORE_L1CFG_NOW)

/-- The pinned ways of every slice (R248). -/
def pinnedWays (s : State) (n : Nat) : Nat := s.fld (L2_CFG n) fldL2_CFG_PINNED

/-- Whether an offset from the control base lies in a block of Table 0.4, the self alias apart (R3). -/
def ctrlBlock (o : Nat) : Bool :=
  decide (o < 0x80000) || (decide (0x1000000 ≤ o) && decide (o < 0x1300000)) ||
    (decide (0x2000000 ≤ o) && decide (o < 0x2080000)) || (decide (0x3000000 ≤ o) && decide (o < 0x3100000)) ||
    (decide (0x4000000 ≤ o) && decide (o < 0x4C00000)) || (decide (0x5000000 ≤ o) && decide (o < 0x5100000)) ||
    (decide (0x6000000 ≤ o) && decide (o < 0x6240000)) || (decide (0x6300000 ≤ o) && decide (o < 0x6310000))

/-- Whether a domain shown in PWR_STATE.DOMON is up: bit `i` of the register (Table 14.11). -/
def domainUp (s : State) (i : Nat) : Bool := bitOf (s.reg PWR_STATE).toNat i

/-- Whether a core's array can be reached: its domain is neither in Rest nor Off (R366). -/
def arrayUp (s : State) (c : Nat) : Bool := decide (s.fld (PWR_CORE c) fldPWR_CORE_STATE < 3)

/-- Whether the domain that holds a control register is up (R366, Table 14.1): Forester's is bank group 0's. -/
def blockUp (s : State) (o : Nat) : Bool :=
  if 0x20000 ≤ o ∧ o < 0x30000 then domainUp s 12
  else if 0x1000000 ≤ o ∧ o < 0x1300000 then s.fld (PWR_CORE ((o - 0x1000000) / 0x10000)) fldPWR_CORE_STATE != 4
  else if 0x2000000 ≤ o ∧ o < 0x2080000 then domainUp s (4 + (o - 0x2000000) / 0x10000)
  else if 0x3000000 ≤ o ∧ o < 0x3100000 then domainUp s (12 + (o - 0x3000000) / 0x10000)
  else if 0x4000000 ≤ o ∧ o < 0x4C00000 then domainUp s (32 + (o - 0x4000000) / 0x100000)
  else if 0x5000000 ≤ o ∧ o < 0x5100000 then domainUp s (12 + (o - 0x5000000) / 0x10000 / 4 * 4)
  else if 0x6000000 ≤ o ∧ o < 0x6240000 then domainUp s (28 + (o - 0x6000000) / 0x10000 / 9)
  else if 0x6300000 ≤ o then domainUp s 29
  else true

/-- The granule of an address. -/
def granule (a : Nat) : Nat := a / 0x10000

/-- The exclusive-or of the five 4-bit groups of a number. -/
def xor4 (q : Nat) : Nat := (q % 16) ^^^ (q / 16 % 16) ^^^ (q / 256 % 16) ^^^ (q / 4096 % 16) ^^^ (q / 65536 % 16)

/-- The stack that holds a granule (R272). -/
def stackOf (s : State) (g : Nat) : Nat :=
  if s.fld (STK_CFG 0) fldSTK_CFG_ILV = 1 then (g % 12 + xor4 (g / 12)) % 12 else g % 12

/-- The region of a populated local address; none where R3 or R366 gives an address error. -/
def regionOf (s : State) (a : Nat) : Option Region :=
  if a < stackTop then if domainUp s (32 + stackOf s (granule a)) then some .stack else none
  else if a < bankBase then none
  else if a < bankBase + 0x40000000 then
    let n := (a - bankBase) / 0x1000000
    if s.mem.bankOut.contains n ∨ domainUp s (12 + n / 4) = false then none else some (.bank n)
  else if a < windowBase then none
  else if a < windowBase + 0x30000000 then
    let c := (a - windowBase) / 0x1000000
    let o := (a - windowBase) % 0x1000000
    if o + l1Share s c < 0x800000 ∧ arrayUp s c then some (.array c o) else none
  else if a < pinBase then none
  else if a < pinBase + 0x20000000 then
    let n := (a - pinBase) / 0x4000000
    let o := (a - pinBase) % 0x4000000
    let w := 16 - pinnedWays s n + o / 0x400000
    if o < pinnedWays s n * 0x400000 ∧ bitOf (s.fld (L2_CFG n) fldL2_CFG_OUT) w = false ∧
        domainUp s (4 + n) then some (.pin n o) else none
  else if a < ctrlBase then none
  else if a < ctrlBase + 0x10000000 then if ctrlBlock (a - ctrlBase) ∧ blockUp s (a - ctrlBase) then some .ctrl else none
  else if a < blazeBase then none
  else if a < blazeBase + 0x100000 then if domainUp s 29 then some .blaze else none
  else if a < exaccBase then none
  else if a < exaccBase + 0xC00000 then if (a - exaccBase) % 0x100000 < 0x80000 ∧ domainUp s (32 + (a - exaccBase) / 0x100000) then some .exacc else none
  else none

/-- First offset of the self alias, to which cores alone may issue accesses (R52). -/
def aliasBase : Nat := ctrlBase + 0x1FF0000

/-- An address as a core's access reaches it: the self alias names the core's own block (R52). -/
def unalias (m : Nat) (a : Nat) : Nat :=
  if m < 48 ∧ aliasBase ≤ a ∧ a < aliasBase + 0x10000 then CORE_ID m + (a - aliasBase) else a

/-- Whether a region holds plain memory rather than registers. -/
def Region.plain : Region → Bool
  | .ctrl => false
  | .blaze => false
  | .exacc => false
  | _ => true

/-- The region of `n` bytes from an address, if all lie in one populated region of memory. -/
def spanRegion (s : State) (a n : Nat) : Option Region :=
  match regionOf s a, regionOf s (a + n - 1) with
  | some r, some r' => if r.plain && r'.plain then some r else none
  | _, _ => none

/-- The lowest address of a span that is not populated memory; the first of all if none is found lower. -/
def firstBad (s : State) (a n : Nat) : Nat :=
  ((upFrom a n).find? fun b => match regionOf s b with
    | some r => !r.plain
    | none => true).getD a

/-! ### Stacked memory's placement (R272, R273, R244) -/

/-- The granule that a stack holds as its stack-local granule `q` (R272). -/
def granuleIn (s : State) (st q : Nat) : Nat :=
  if s.fld (STK_CFG 0) fldSTK_CFG_ILV = 1 then q * 12 + (st + 12 * 16 - xor4 q) % 12 else q * 12 + st

/-- The DRAM row that holds an address, as (stack, pseudo-channel, DRAM bank, row) (R273). -/
def dramRow (s : State) (a : Nat) : Nat × Nat × Nat × Nat :=
  let sa := granule a / 12 * 0x10000 + a % 0x10000
  let u := sa / 0x8000
  (stackOf s (granule a), sa / 256 % 32, u % 48, u / 48)

/-- The line address of an address. -/
def lineOf (a : Nat) : Nat := a / 128

/-- The exclusive-or of thirteen 3-bit groups. -/
def xor3 : Nat → Nat → Nat
  | 0, _ => 0
  | k + 1, a => (a % 8) ^^^ xor3 k (a / 8)

/-- The home slice of a line (Table 9.2). -/
def homeSlice (s : State) (line : Nat) : Fin 8 :=
  let n := if s.fld (L2_CFG 0) fldL2_CFG_HASH = 1 then xor3 13 line else line
  ⟨n % 8, Nat.mod_lt _ (by decide)⟩

/-- The set of a line in its home slice (Table 9.2). -/
def l2Set (s : State) (line : Nat) : Nat :=
  if s.fld (L2_CFG 0) fldL2_CFG_HASH = 1 then
    bitsOf line 17 3 ^^^ bitsOf line 32 18 ^^^ bitsOf line 36 33
  else bitsOf line 17 3

/-! ### Page kinds and the pool (R192, R212, R281) -/

/-- The pool's size in granules. -/
def poolTotal (s : State) : Nat := s.fld RING_POOL fldRING_POOL_TOTAL

/-- Whether a granule lies in the pool's range, where its page kind has no effect (R212). -/
def inPool (s : State) (g : Nat) : Bool := decide (stackTop / 0x10000 ≤ g + poolTotal s)

/-- The page-table entry of a granule: bits [1:0] the kind, bit 2 the mirror bit; PLAIN where none is set (R283). -/
def pteOf (s : State) (g : Nat) : Nat := mapGet (fun _ => 0) s.mem.pte g

/-- The page kind that rules an address: 0 PLAIN, 1 RINGED, 2 ACCUM. -/
def kindAt (s : State) (a : Nat) : Nat := if inPool s (granule a) then 0 else pteOf s (granule a) % 4

/-- The pool granules in use in a stack. -/
def poolUsed (s : State) (st : Nat) : Nat :=
  let here := fun g => stackOf s g == st
  s.mem.sapNew.gran.countP here + s.mem.sapOld.gran.countP here + s.mem.retained.gran.countP here +
    s.mem.accVers.countP fun v => here v.gran

/-- The pool granules a stack has free. -/
def poolFreeIn (s : State) (st : Nat) : Nat := poolTotal s / 12 - poolUsed s st

/-- The pool granules the device has free (R213). -/
def poolFree (s : State) : Nat :=
  poolTotal s - (s.mem.sapNew.gran.length + s.mem.sapOld.gran.length + s.mem.retained.gran.length + s.mem.accVers.length)

/-! ### Bytes -/

/-- What a byte of memory reads as where nothing is listed. -/
def zeroByte : Nat → Byte := fun _ => 0

/-- The canonical form of memory. Stacked memory, bank memory and ACCUM versions list no byte that reads as an unlisted one does; the
overlays (dirty lines of the L2, arrays, pinned ways, sapwood and retained heartwood) list what has been written, keys rising. -/
def Memory.wf (m : Mem) : Bool :=
  mapWf zeroByte m.stk && mapWf zeroByte m.bank && (m.accVers.all fun v => mapWf zeroByte v.bytes) &&
    mapRising m.dirty && mapRising m.arr && mapRising m.pins &&
    mapRising m.sapNew.bytes && mapRising m.sapOld.bytes && mapRising m.retained.bytes

/-- The key of a byte of a core array: arrays follow the physical core (R454). -/
def arrKey (s : State) (c off : Nat) : Nat := physOf s (coreOf c) * 0x800000 + off

/-- A byte of a core array: written, zeroed by a change of share (R236), or unspecified (R454). -/
def arrByte (s : State) (key : Nat) : Byte :=
  match mapFind s.mem.arr key with
  | some b => b
  | none =>
    if mapGet (fun _ => 0x800000) s.mem.zeroLo (key / 0x800000) ≤ key % 0x800000 then 0
    else Config.arrayByte s.mem.epoch (key / 0x800000) (key % 0x800000)

/-- The logical way of an offset in a slice's part of the pinned window (R248). -/
def pinWay (s : State) (n off : Nat) : Nat := 16 - pinnedWays s n + off / 0x400000

/-- A byte of the pinned ways: kept by slice, logical way and place in the way. -/
def pinKey (s : State) (n off : Nat) : Nat := (n * 16 + pinWay s n off) * 0x400000 + off % 0x400000

/-- A byte of the pinned ways: 0 where nothing has been written since the way was pinned (R249), or since Rest (Table 17.3, C). -/
def pinByte (s : State) (n off : Nat) : Byte := (mapFind s.mem.pins (pinKey s n off)).getD 0

/-- The ACCUM version a sub-ring holds of a granule. -/
def accVer (s : State) (sub g : Nat) : Option AccVer := s.mem.accVers.find? fun v => v.sub == sub && v.gran == g

/-- A byte of stacked memory as an access of sub-ring `sub` reads it (R193, R196, R237). -/
def stackByte (s : State) (sub a : Nat) : Byte :=
  let k := kindAt s a
  if inPool s (granule a) then Config.poolByte s.freeCtr a
  else if k = 0 then (mapFind s.mem.dirty a).getD (mapGet zeroByte s.mem.stk a)
  else if k = 2 then
    match accVer s (effSub s sub) (granule a) with
    | some v => mapGet zeroByte v.bytes a
    | none => mapGet zeroByte s.mem.stk a
  else mapGet zeroByte s.mem.stk a

/-- A byte of memory as an access of sub-ring `sub` reads it; 0 where no memory is. -/
def memByte (s : State) (sub a : Nat) : Byte :=
  match regionOf s a with
  | some .stack => stackByte s sub a
  | some (.bank _) => mapGet zeroByte s.mem.bank (a - bankBase)
  | some (.array c o) => arrByte s (arrKey s c o)
  | some (.pin n o) => pinByte s n o
  | _ => 0

/-- Bytes of memory in ascending order. -/
def memBytes (s : State) (sub a n : Nat) : List Byte := (upFrom a n).map (memByte s sub)

/-- The state with memory changed. -/
def State.modMem (s : State) (f : Mem → Mem) : State := { s with mem := f s.mem }

end Sys2Proof.Machine
end

