-- ==== Sys2Proof/Machine/Sorter.lean ====
section
/-! DEFINITION. The request sorters of the stacks and the pages they open (R274, R275). An access takes effect as it reaches its stack,
since the sorter never reorders two that share a byte; what the sorter decides is which DRAM access comes next. -/
namespace Sys2Proof.Machine

/-- The pseudo-channel of an address, numbered over the device. -/
def channelOf (s : State) (a : Nat) : Nat :=
  let (st, pc, _, _) := dramRow s a
  st * 32 + pc

/-- The DRAM bank and the row of an address. -/
def rowOf (s : State) (a : Nat) : Nat × Nat :=
  let (_, _, b, row) := dramRow s a
  (b, row)

/-- The key of an address's DRAM bank. -/
def bankKey (s : State) (a : Nat) : Nat := channelOf s a * 48 + (rowOf s a).1

/-- A DRAM access to the open page of its bank, or one that opens a page (R274, Table 10.19). -/
def openPage (s : State) (a : Nat) : State :=
  let (st, pc, b, row) := dramRow s a
  let key := (st * 32 + pc) * 48 + b
  let hit := mapFind s.mem.openRows key == some row
  let s := count s (if hit then STK_PAGE_HIT st else STK_PAGE_MISS st) 1
  s.modMem fun m =>
    { m with openRows := mapInsert m.openRows key row,
             streak := mapInsert m.streak key (if hit then mapGet (fun _ => 0) m.streak key + 1 else 1) }

/-- The requests waiting in the sorter of a pseudo-channel, the oldest first. -/
def waiting (s : State) (p : Nat) : List SortReq := s.mem.sorter.filter fun r => channelOf s (r.sector * 32) == p

/-- The request that a pseudo-channel serves next: of the next DRAM bank in rotation, the oldest one to its open page, unless 16 in a row
have gone there and one to another row waits; else its oldest one (R274). -/
def sortPick (s : State) (p : Nat) : Option SortReq :=
  let q := waiting s p
  let last := mapGet (fun _ => 47) s.mem.turns p
  match (upFrom (last + 1) 48).find? fun i => q.any fun r => (rowOf s (r.sector * 32)).1 == i % 48 with
  | none => none
  | some i =>
    let mine := q.filter fun r => (rowOf s (r.sector * 32)).1 == i % 48
    let key := p * 48 + i % 48
    let here := fun (r : SortReq) => mapFind s.mem.openRows key == some (rowOf s (r.sector * 32)).2
    if 16 ≤ mapGet (fun _ => 0) s.mem.streak key then (mine.find? fun r => !here r).or mine.head? else (mine.find? here).or mine.head?

/-- A request leaves the queue, and with a read the reads of its sector that wait before a write of it: one access serves them (R274). -/
def sortDrop (r : SortReq) (merge : Bool) : List SortReq → List SortReq
  | [] => []
  | x :: l =>
    if x.sector = r.sector then
      if merge then if x.wr then x :: l else sortDrop r true l
      else if x = r then if r.wr then l else sortDrop r true l
      else x :: sortDrop r false l
    else x :: sortDrop r merge l

/-- A request is served: its DRAM access is made, and the rotation passes its bank. -/
def sortServe (s : State) (r : SortReq) : State :=
  let a := r.sector * 32
  (openPage s a).modMem fun m =>
    { m with sorter := sortDrop r false m.sorter, turns := mapInsert m.turns (channelOf s a) (rowOf s a).1 }

/-- A request joins its sorter. Where that is full it waits for the sorter to serve one; a read of a sector that a waiting read asks for
needs no access of its own. -/
def sortPush (s : State) (r : SortReq) : State :=
  let p := channelOf s (r.sector * 32)
  if r.wr = false ∧ (s.mem.sorter.reverse.find? fun x => x.sector == r.sector) = some r then s
  else
    let s := if 128 ≤ (waiting s p).length then
        match sortPick s p with
        | some x => sortServe s x
        | none => s
      else s
    s.modMem fun m => { m with sorter := m.sorter ++ [r] }

/-- The sectors that `n` bytes from an address touch. -/
def sectorsOf (a n : Nat) : List Nat := upFrom (a / 32) ((a + n + 31) / 32 - a / 32)

/-- The sectors that `n` bytes from an address touch are asked for at their stack. -/
def stackAsk (s : State) (wr : Bool) (a n : Nat) : State := (sectorsOf a n).foldl (fun s x => sortPush s ⟨x, wr⟩) s

end Sys2Proof.Machine
end

