-- ==== Sys2Proof/Machine/Cache.lean ====
section
/-! DEFINITION. The L1s, the L2 slices, the directory, the thrash detector and the prefetcher (R237 to R257). -/
namespace Sys2Proof.Machine

/-- The sectors of a 128-byte line that `n` bytes from an address touch, as a mask. -/
def sectorMask (a n : Nat) : Nat :=
  ((upFrom 0 4).filter fun i =>
    decide (alignDown a 128 + 32 * i < a + n) && decide (a < alignDown a 128 + 32 * i + 32)).foldl (fun m i => m + 2 ^ i) 0

/-- The number of ones in a mask. -/
def ones (n m : Nat) : Nat := ((upFrom 0 n).filter fun i => bitOf m i).length

/-- The pieces of a span within each line of 128 bytes: their addresses and lengths. -/
def linePieces (a n : Nat) : List (Nat × Nat) :=
  (upFrom (lineOf a) (lineOf (a + n - 1) + 1 - lineOf a)).map fun l => (max a (l * 128), min (a + n) (l * 128 + 128) - max a (l * 128))

/-- The lines that a span touches, with their sectors. -/
def linesOf (a n : Nat) : List (Nat × Nat) := (linePieces a n).map fun p => (lineOf p.1, sectorMask p.1 p.2)

/-! ### L1 (R239, R242) -/

/-- The sets of a core's L1. -/
def l1Sets (s : State) (c : Nat) : Nat := l1Share s c / 1024

/-- The oldest entry that a predicate accepts, in a list that starts with the most recently used. -/
def oldest {α : Type} (l : List α) (p : α → Bool) : Option α := (l.filter p).getLast?

/-- The victim among lines of one set: evict-first, then normal, then keep, each least recently used first (R242). -/
def victim {α : Type} (cls : α → Nat) (l : List α) : Option α :=
  ((oldest l fun x => cls x == 2).or (oldest l fun x => cls x == 0)).or (oldest l fun x => cls x == 1)

/-- A line enters an L1, or gains sectors there, as its most recently used line. -/
def l1Install (sets : Nat) (l : List L1Line) (line mask cls : Nat) : List L1Line :=
  let old := l.find? fun e => e.line == line
  let mask := match old with | some e => e.sectors ||| mask | none => mask
  let l := l.filter fun e => e.line != line
  let inSet := fun (e : L1Line) => e.line % sets == line % sets
  let l := if cls = 1 ∧ 4 ≤ l.countP (fun e => inSet e && e.cls == 1) then
      match oldest l fun e => inSet e && e.cls == 1 with
      | some v => l.map fun e => if e.line = v.line then { e with cls := 0 } else e
      | none => l
    else l
  let same := l.filter inSet
  let l := if 8 ≤ same.length then
      match victim (fun e : L1Line => e.cls) same with
      | some v => l.filter fun e => e.line != v.line
      | none => l
    else l
  { line := line, sectors := mask, cls := cls } :: l

/-- The lines of an L1 replaced; an error goes with the line that held it. -/
def CoreSt.putL1 (k : CoreSt) (l : List L1Line) : CoreSt :=
  { k with l1 := l, l1Bad := k.l1Bad.filter fun w => l.any fun e => e.line == w / 16 }

/-- Every copy of a line leaves every L1 and every fetch buffer (R183, R452). -/
def dropCopies (s : State) (line : Nat) : State :=
  { s with cores := s.cores.map fun k =>
      { k.putL1 (k.l1.filter fun e => e.line != line) with fetch := k.fetch.filter fun l => l != line } }

/-! ### L2 (R243 to R247) -/

/-- A slice replaced. -/
def setSlice (s : State) (n : Fin 8) (f : Slice → Slice) : State :=
  s.modMem fun m => { m with slices := m.slices.set n (f (m.slices.get n)) }

/-- The line of a slice, if present. -/
def l2Find (s : State) (line : Nat) : Option L2Line :=
  (s.mem.slices.get (homeSlice s line)).lines.find? fun e => e.line == line

/-- Whether every byte of a sector is listed in a map. -/
def coversSector (m : NMap Byte) (x : Nat) : Bool := (mapRange m (x * 32) (x * 32 + 32)).length == 32

/-- Whether the L2 holds a line as dirty. -/
def dirtyLine (m : Mem) (line : Nat) : Bool := m.slices.toList.any fun sl => sl.lines.any fun e => e.line == line && e.dirty

/-- The dirty bytes of a range reach the stack: a sector written whole is poisoned no more, and a sector whose dirty line holds an
uncorrectable word is poisoned (R243, R257). -/
def Mem.flush (m : Mem) (lo hi : Nat) : Mem :=
  let bs := mapRange m.dirty lo hi
  let mine := fun (w : Nat) => decide (lo ≤ w * 8) && decide (w * 8 < hi)
  let hurt := ((m.l2Bad.filter fun w => mine w && dirtyLine m (w / 16)).map (· / 4)).dedup
  let healed := fun (x : Nat) => decide (lo ≤ x * 32) && decide (x * 32 < hi) && coversSector m.dirty x
  { m with stk := bs.foldl (fun t e => mapPut zeroByte t e.1 e.2) m.stk,
           dirty := mapDropRange m.dirty lo hi,
           poison := hurt.foldl (fun p x => mapInsert p (x * 32) 32) (m.poison.filter fun e => !healed (e.1 / 32)),
           wback := hurt ++ m.wback.filter fun x => !healed x && !hurt.contains x,
           l2Bad := m.l2Bad.filter fun w => !mine w }

/-- The dirty bytes of a line written back to the stack. -/
def writeBack (s : State) (line : Nat) : State :=
  let s := ((mapRange s.mem.dirty (line * 128) (line * 128 + 128)).map fun e => e.1 / 32).dedup.foldl (fun s x => sortPush s ⟨x, true⟩) s
  s.modMem fun m => m.flush (line * 128) (line * 128 + 128)

/-- The slice cycle, as the reference count gives it (R251; assumption 12). -/
def sliceCycle (s : State) : Nat := refTime s * 24

/-- A line leaves its slice: its L1 copies first, then its dirty bytes to the stack; its tag is remembered (R243, R251). -/
def l2Evict (s : State) (n : Fin 8) (line : Nat) : State :=
  let s := dropCopies s line
  let s := writeBack s line
  let g := l2Set s line / 256
  setSlice s n fun sl =>
    let mine := (g, line, sliceCycle s) :: sl.evicted.filter fun e => e.1 == g
    { sl with lines := sl.lines.filter (fun e => e.line != line),
              evicted := mine.take 8 ++ sl.evicted.filter fun e => e.1 != g }

/-- The ways a slice can fill: neither pinned nor out of service (R243, R250). -/
def l2Usable (s : State) (n : Fin 8) : List Nat :=
  (upFrom 0 (16 - pinnedWays s n)).filter fun w => bitOf (s.fld (L2_CFG n) fldL2_CFG_OUT) w == false

/-- How many ways a slice can fill. -/
def l2Ways (s : State) (n : Fin 8) : Nat := (l2Usable s n).length

/-- A line becomes the most recently used of its slice, in the class of its hint, evicting where its set is full (R242). It takes the
lowest way of its set that is free (DESIGN CHOICE, assumption 101). -/
def l2Install (s : State) (n : Fin 8) (e : L2Line) : State :=
  let set := l2Set s e.line
  let same := fun (s : State) => (s.mem.slices.get n).lines.filter fun x => l2Set s x.line == set && x.line != e.line
  let keepMax := (16 - pinnedWays s n) / 2
  let s := if e.cls = 1 ∧ keepMax ≤ (same s).countP (fun x => x.cls == 1) then
      match oldest (same s) fun x => x.cls == 1 with
      | some v => setSlice s n fun sl =>
          { sl with lines := sl.lines.map fun x => if x.line = v.line then { x with cls := 0 } else x }
      | none => s
    else s
  let s := if l2Ways s n ≤ (same s).length then
      match (oldest (same s) fun x => x.marker).or (victim (fun x : L2Line => x.cls) (same s)) with
      | some v => l2Evict s n v.line
      | none => s
    else s
  let way := match l2Find s e.line with
    | some x => some x.way
    | none => (l2Usable s n).find? fun w => (same s).all fun x => x.way != w
  match way with
  | none => s
  | some w =>
    let fresh := (l2Find s e.line).isNone
    setSlice (if fresh then s.modMem fun m => { m with l2Bad := m.l2Bad.filter fun b => b / 16 != e.line } else s) n fun sl =>
      { sl with lines := { e with way := w } :: sl.lines.filter fun x => x.line != e.line }

/-- A demand miss is held against the tags evicted lately (R251): the group's count, and the event at THRESH. -/
def thrashCheck (s : State) (n : Fin 8) (line : Nat) : State :=
  let g := l2Set s line / 256
  let sl := s.mem.slices.get n
  let thr := s.fld (L2_THRASH_CFG n) fldL2_THRASH_CFG_THRESH
  if sl.evicted.any fun e => e.1 == g && e.2.1 == line && decide (sliceCycle s ≤ e.2.2 + 1024) then
    let k := mapGet (fun _ => 0) sl.counts g + 1
    let s := setSlice s n fun sl => { sl with counts := mapPut (fun _ => 0) sl.counts g k }
    if thr ≠ 0 ∧ thr ≤ k ∧ sl.fired.contains g = false then
      let s := setSlice s n fun sl => { sl with fired := g :: sl.fired }
      let s := s.setFld (L2_THRASH_STATUS n) fldL2_THRASH_STATUS_GROUP g
      let s := s.setBit (L2_THRASH_STATUS n) fldL2_THRASH_STATUS_EVENT true
      let s := count s (L2_THRASH_SETS n) 1
      raiseMask s (s.fld (L2_THRASH_CFG n) fldL2_THRASH_CFG_CORES) 26
    else s
  else s

/-! ### The prefetcher (R254) -/

/-- A demand miss of a core as its stream prefetcher sees it. -/
def pfObserve (l : List PfEntry) (line hint : Nat) : List PfEntry :=
  match l.find? fun e => decide (line ≤ e.last + 64) && decide (e.last ≤ line + 64) with
  | some e =>
    let st := (line : Int) - e.last
    let run := if st = e.stride ∧ st ≠ 0 then e.run + 1 else 2
    let ahead := if st = e.stride ∧ 0 < ((e.ahead : Int) - line) / st then e.ahead else line
    { last := line, stride := st, run := run, ahead := ahead, hint := hint } :: l.erase e
  | none => ({ last := line, stride := 0, run := 1, ahead := line, hint := hint } :: l).take 16

/-- The fills a core has joined: each holds one of its miss registers (R302). -/
def fillsOf (s : State) (c : Nat) : Nat :=
  (s.mem.slices.toList.map fun sl => sl.fills.countP fun f => f.reqs.any fun r => r.1 == c).foldl (· + ·) 0

/-- The remote operations of a core that await completion (R338). -/
def remoteOut (s : State) (c : Nat) : Nat :=
  s.ride.reqs.countP fun r => match r.issuer with
    | .coreGet c' _ _ => c' == c
    | .corePost c' => c' == c
    | .coreAtom c' _ _ => c' == c
    | .coreWait c' => c' == c
    | _ => false

/-- The miss registers of a core in use (Table 11.15). -/
def missInUse (s : State) (c : Nat) : Nat := fillsOf s c + remoteOut s c

/-- The miss registers a core has in its issue mode (Table 11.5). -/
def missMax (s : State) (c : Nat) : Nat := if s.test (CORE_ISSUE c) fldCORE_ISSUE_NOW then 32 else 256

/-! ### Demand loads of a core (R239, R246, R247) -/

/-- A core in A20 issue mode takes its data in the order of its requests (R303): one more. -/
def orderPush (s : State) (c : CoreId) (r : Bool × Nat) : State :=
  if missMax s c = 32 ∧ (s.core c).order.contains r = false then s.modCore c fun k => { k with order := k.order ++ [r] } else s

/-- Whether a request of a core has been answered out of the order in which its data is delivered: an earlier one is outstanding. -/
def heldBack (k : CoreSt) (r : Bool × Nat) : Bool := k.order.contains r && k.order.head? != some r

/-- A request of a core has been answered. -/
def orderPop (k : CoreSt) (r : Bool × Nat) : CoreSt := { k with order := k.order.erase r }

/-- Whether a load finds every sector it touches in the L1. -/
def l1Hit (s : State) (c : CoreId) (line mask : Nat) : Bool :=
  (s.core c).l1.any fun e => e.line == line && (e.sectors &&& mask) == mask

/-- A core's request of sectors reaches the home slice: served from a present line, joined to a fill, or a fill is started;
an ACCUM line passes to the stack (Table 9.1). A prefetch's hint is marked by adding 4. -/
def sliceRequest (s : State) (c : CoreId) (line mask hint : Nat) (demand : Bool) : State :=
  let n := homeSlice s line
  let kind := kindAt s (line * 128)
  let tag := if demand then hint else hint + 4
  let fetch := fun (s : State) =>
    let s := orderPush s c (false, line)
    if (s.mem.slices.get n).fills.any fun f => f.line == line then
      let s := count s (L2_MERGED n) 1
      setSlice s n fun sl => { sl with fills := sl.fills.map fun f =>
        if f.line = line then { f with reqs := f.reqs ++ [(c.val, mask, tag)] } else f }
    else
      let s := stackAsk (count s (L2_MISS n) 1) false (line * 128) 128
      setSlice s n fun sl =>
        { sl with fills := sl.fills ++ [{ line := line, kind := kind, flipped := false, reqs := [(c.val, mask, tag)], cls := hint }] }
  if kind = 2 then s
  else
    match l2Find s line with
    | some e =>
      if e.marker then
        if demand then
          fetch (setSlice (count s (L2_READ_AFTER_DEADFALL n) 1) n fun sl => { sl with lines := sl.lines.filter (fun x => x.line != line) })
        else fetch s
      else
        let s := count s (L2_HIT n) 1
        let s := l2Install s n { e with cls := hint, sharers := e.sharers ||| 2 ^ c.val }
        if l1Sets s c = 0 then s
        else s.modCore c fun k => k.putL1 (l1Install (l1Sets s c) k.l1 line mask hint)
    | none => fetch (if demand then thrashCheck s n line else s)

/-- One line of a core's load of stacked memory: the L1, the counters, the prefetcher and the home slice. -/
def loadLine (s : State) (c : CoreId) (hint line mask : Nat) : State :=
  if l1Sets s c ≠ 0 ∧ l1Hit s c line mask then
    s.modCore c fun k => k.putL1 (l1Install (l1Sets s c) k.l1 line mask hint)
  else
    let held := ((s.core c).l1.find? fun e => e.line == line).elim 0 (fun e => e.sectors)
    let missing := if l1Sets s c = 0 then mask else mask &&& (15 - held % 16)
    let s := count s (CORE_L1_MISS c) (ones 4 missing)
    let s := if s.test (CORE_PF c) fldCORE_PF_EN ∧ l1Sets s c ≠ 0 then
        s.modCore c fun k => { k with pf := pfObserve k.pf line hint }
      else s
    sliceRequest s c line missing hint true

/-- The miss registers of a core aimed at one stack: its fills there. -/
def fillsAt (s : State) (c st : Nat) : Nat :=
  (s.mem.slices.toList.map fun sl => sl.fills.countP fun f =>
    stackOf s (f.line / 512) == st && f.reqs.any fun r => r.1 == c).foldl (· + ·) 0

/-- The miss registers a core may aim at one stack (Table 11.5). -/
def stackCap (s : State) (c : Nat) : Nat := if missMax s c = 32 then 8 else 64

/-- Whether lines that a core misses can be asked for together: miss registers, those aimed at each stack, and the fill entries of each
slice suffice; a line whose fill is outstanding needs no entry (R247, Table 11.5). -/
def linesAccepted (s : State) (c : CoreId) (lines : List Nat) : Bool :=
  lines.isEmpty ||
    (decide (missInUse s c + lines.length ≤ missMax s c) &&
      lines.all fun l =>
        let st := stackOf s (l / 512)
        let fills := (s.mem.slices.get (homeSlice s l)).fills
        let new := lines.filter fun x => homeSlice s x == homeSlice s l && !fills.any fun f => f.line == x
        decide (fillsAt s c st + (lines.countP fun x => stackOf s (x / 512) == st) ≤ stackCap s c) &&
          (new.isEmpty || decide (fills.length + new.length ≤ 256)))

/-- The lines that sectors of a core's loads miss: those neither in its L1 nor present in their slice, of a kind that is cached. -/
def missedOf (s : State) (c : CoreId) (ls : List (Nat × Nat)) : List Nat :=
  ((ls.filter fun l => !(l1Sets s c != 0 && l1Hit s c l.1 l.2) && kindAt s (l.1 * 128) != 2 &&
      !(l2Find s l.1).any fun e => !e.marker).map Prod.fst)

/-- Whether a load can be accepted: what it misses can be asked for. -/
def loadAccepted (s : State) (c : CoreId) (a n : Nat) : Bool := linesAccepted s c (missedOf s c (linesOf a n))

/-- The caches' part in the lines of a core's load: one request for each line, and one hit where every sector is present. -/
def cacheLines (s : State) (c : CoreId) (hint : Nat) (ls : List (Nat × Nat)) : State :=
  let hit := l1Sets s c != 0 && !ls.isEmpty && ls.all fun l => l1Hit s c l.1 l.2
  let s := ls.foldl (fun s l => loadLine s c hint l.1 l.2) s
  if hit then count s (CORE_L1_HIT c) 1 else s

/-- The caches' part in a core's load of `n ≤ 128` bytes of stacked memory. -/
def cacheLoad (s : State) (c : CoreId) (hint a n : Nat) : State := cacheLines s c hint (linesOf a n)

end Sys2Proof.Machine
end

