-- ==== Sys2Proof/Machine/Mem.lean ====
section
/-! DEFINITION. Performing reads and writes of memory: poison and Windthrow, versions and the pool, coherence with the caches
(R179 to R184, R191 to R197, R213, R214, R257, R278, R423). -/
namespace Sys2Proof.Machine

/-! ### Error checks of a demand read (R415, R423) -/

/-- Where a code word is read, as Windthrow and the fault log name it: kind, logical unit, unit kind, physical unit, bytes of a
code word, whether the level refetches (R257), and the sub-ring whose version of ACCUM data is read. -/
structure EccAt where
  kind : Nat
  unit : Nat
  fkind : Nat
  phys : Nat
  word : Nat
  benign : Bool
  sub : Nat
  deriving DecidableEq, Repr

/-- Whether memory holds no error that a read could find. -/
def memClean (m : Mem) : Bool :=
  m.poison.isEmpty && m.arrBad.isEmpty && m.pinBad.isEmpty && m.l2Bad.isEmpty && m.soft.isEmpty && m.accVers.all fun v => v.bad.isEmpty

/-- Whether a poisoned unit overlaps `n` bytes from an address (R257, R264, R278). -/
def poisonedAt (s : State) (a n : Nat) : Bool :=
  (mapRange s.mem.poison (a - 31) (a + n)).any fun e => decide (e.1 < a + n) && decide (a < e.1 + e.2)

/-- Whether the stack holds a poisoned sector among `n` bytes as a reader of sub-ring `sub` sees them: of the sub-ring's version of ACCUM
data, or of heartwood, but for a sector whose every byte the L2 holds. -/
def heartBad (s : State) (sub a n : Nat) : Bool :=
  match (if kindAt s a = 2 then accVer s (effSub s sub) (granule a) else none) with
  | some v => (sectorsOf a n).any v.bad.contains
  | none => (sectorsOf a n).any fun x => poisonedAt s (x * 32) 32 && !coversSector s.mem.dirty x

/-- Whether a code word is uncorrectable where it is read. -/
def wordUE (s : State) (w : EccAt) (a : Nat) : Bool :=
  !memClean s.mem && match regionOf s a with
    | some (.array k o) => s.mem.arrBad.contains (arrKey s k o / 8)
    | some (.pin n o) => s.mem.pinBad.contains (pinKey s n o / 8)
    | some (.bank _) => poisonedAt s a w.word
    | some .stack => if w.kind = 4 then heartBad s w.sub a w.word else !w.benign && s.mem.l2Bad.contains (a / 8)
    | _ => false

/-- The count of corrected or uncorrectable code words of the unit that holds an address (Tables 10.6 and 10.18). -/
def eccCount (s : State) (w : EccAt) (ue : Bool) : State :=
  if w.kind = 3 then
    countSat s (BANK_ECC (w.unit / 4)) (if ue then fldBANK_ECC_UE else fldBANK_ECC_CE) 1
  else if w.kind = 4 then countSat s (STK_ECC w.unit) (if ue then fldSTK_ECC_UE else fldSTK_ECC_CE) 1
  else s

/-- An uncorrectable code word is recorded; in RINGED or ACCUM data it dooms the running ring (R210, R278, R415). -/
def logUE (s : State) (w : EccAt) (a : Nat) (injected : Bool) : State :=
  let s := eccCount s w true
  let versioned := w.kind == 4 && kindAt s a != 0
  let ring := if versioned then runningRing s else 0
  let r := { mkRec (if w.kind = 4 then 4 else 2) (if w.benign then 0 else if versioned then 2 else 1) w.fkind w.unit with
    phys := w.phys, addr := a, ring := ring, flags := (if injected then 1 else 0) + (if ring = 0 then 0 else 2),
    arg := flag (w.kind == 4 && !injected && s.mem.wback.contains (a / 32)) }
  let s := logFault s r
  if versioned then doomRunning s 5 {} else s

/-- A dirty line of the L2 in which an uncorrectable word is found is written back, its damaged sectors poisoned, and leaves (R257). -/
def spoilLine (s : State) (line : Nat) : State := l2Evict s (homeSlice s line) line

/-- One code word read on demand: a real error, or an injected one, recorded and counted. Beyond a stack's failed die one further die is
uncorrectable, and that die itself is an erasure (R277). The address and the SEQ of an
uncorrectable word are returned. -/
def eccWord (w : EccAt) (acc : State × Option (Nat × Nat)) (a : Nat) : State × Option (Nat × Nat) :=
  let s := acc.1
  let real := wordUE s w a
  let one := w.kind == 3 && s.mem.soft.contains (a / 8)
  let tgt := s.fld (WT_POINT 3) fldWT_POINT_TARGET
  let param := s.fld (WT_POINT 3) fldWT_POINT_PARAM
  let elig := decide (param ≤ 1) && (tgt % 16 == 15 || tgt % 16 == w.kind) &&
    (tgt / 16 % 256 == 0xFF || tgt / 16 % 256 == w.unit)
  let (s, inj) := wtEvent s 3 elig (real || one)
  if real then
    let seq := s.flt.nextSeq
    let s := logUE s w a false
    (if w.kind = 2 ∧ a < stackTop then spoilLine s (lineOf a) else s, acc.2.or (some (a, seq)))
  else if one then
    let (n, s) := s.free
    (logFault (eccCount s w false) { mkRec 1 0 w.fkind w.unit with phys := w.phys, addr := a, sub := n % 72 }, acc.2)
  else
    match inj with
    | none => (s, acc.2)
    | some d =>
      let fd := if w.kind = 4 then s.fld (STK_CFG w.unit) fldSTK_CFG_DIEFAIL else 0
      if param = 0 ∧ fd ≠ 0 ∧ d % 19 + 1 = fd then (s, acc.2)
      else if param = 0 ∧ fd = 0 then
        let s := eccCount s w false
        (logFault s { mkRec (if w.kind = 4 then 3 else 1) 0 w.fkind w.unit with
          phys := w.phys, addr := a, flags := 1, sub := if w.kind = 4 then d % 19 else d % 72 }, acc.2)
      else
        let seq := s.flt.nextSeq
        let s := logUE s w a true
        (s, if w.benign then acc.2 else acc.2.or (some (a, seq)))

/-- The code words of `n` bytes from an address, at one level, read on demand in ascending order. -/
def eccRead (s : State) (w : EccAt) (a n : Nat) : State × Option (Nat × Nat) :=
  let first := alignDown a w.word
  ((upFrom 0 ((a + n - first + w.word - 1) / w.word)).map fun i => first + i * w.word).foldl (eccWord w) (s, none)

/-- Where a read of `n` bytes finds its code words; `c` is the reading core, if a core reads through its L1. A poisoned sector is found at
its stack, whatever cache holds its line. -/
def eccAt (s : State) (c : Option CoreId) (sub a n : Nat) : EccAt :=
  let stack : EccAt := ⟨4, stackOf s (granule a), 3, stackOf s (granule a), 32, false, sub⟩
  match regionOf s a with
  | some (.bank n) => ⟨3, n, 2, physBank s n, 8, false, 0⟩
  | some (.array k _) => ⟨0, k, 0, physOf s (coreOf k), 8, false, 0⟩
  | some (.pin n _) => ⟨2, n, 1, n, 8, false, 0⟩
  | _ =>
    let line := lineOf a
    let hit := match c with
      | some c => l1Sets s c != 0 && l1Hit s c line (sectorMask a 1)
      | none => false
    if !memClean s.mem && heartBad s sub a n then stack
    else if hit then ⟨2, (c.getD 0).val, 0, physOf s (c.getD 0), 8, true, 0⟩
    else
      match l2Find s line with
      | some e =>
        if e.marker || kindAt s a == 2 then stack
        else ⟨2, (homeSlice s line).val, 1, (homeSlice s line).val, 8, !e.dirty, 0⟩
      | none => stack

/-- The code words of `n` bytes from an address, read on demand in ascending order, line by line where caches may hold them: the address and
the SEQ of the first that is uncorrectable. No word need be looked at where none is bad and Windthrow does not act. -/
def eccSpan (s : State) (c : Option CoreId) (sub a n : Nat) : State × Option (Nat × Nat) :=
  if memClean s.mem && !wtArmed s 3 then (s, none)
  else (linePieces a n).foldl (fun p x =>
    match p.2 with
    | some _ => p
    | none => eccRead p.1 (eccAt p.1 c sub x.1 x.2) x.1 x.2) (s, none)

/-- The record of an uncorrectable word in a cache that holds nothing but a copy of it (R257, R415). -/
def logClean (s : State) (fkind unit phys a : Nat) : State := logFault s { mkRec 2 0 fkind unit with phys := phys, addr := a }

/-- Uncorrectable words of a core's L1 among `n` bytes: recorded, and their lines invalidated, to be fetched again (R257). -/
def refetchL1 (s : State) (c : CoreId) (a n : Nat) : State :=
  (((s.core c).l1Bad.filter fun w => decide (a / 8 ≤ w) && decide (w * 8 < a + n)).foldl (fun s w =>
    (logClean s 0 c (physOf s c) (w * 8)).modCore c fun k => k.putL1 (k.l1.filter fun e => e.line != w / 16)) s)

/-- Uncorrectable words of clean L2 lines among `n` bytes: recorded, and their lines invalidated, to be fetched again (R257). -/
def refetchL2 (s : State) (a n : Nat) : State :=
  (((s.mem.l2Bad.filter fun w => decide (a / 8 ≤ w) && decide (w * 8 < a + n)).filter fun w =>
      (l2Find s (w / 16)).any fun e => !e.dirty && !e.marker).foldl (fun s w =>
    let h := homeSlice s (w / 16)
    let s := dropCopies (logClean s 1 h h (w * 8)) (w / 16)
    (setSlice s h fun sl => { sl with lines := sl.lines.filter fun e => e.line != w / 16 }).modMem fun m =>
      { m with l2Bad := m.l2Bad.filter fun x => x / 16 != w / 16 }) s)

/-- What of a core's L1 and of the L2 is found damaged, and is fetched again, as a read comes to it. -/
def refetch (s : State) (c : Option CoreId) (a n : Nat) : State :=
  match c with
  | none => if s.mem.l2Bad.isEmpty then s else refetchL2 s a n
  | some c =>
    let s := if (s.core c).l1Bad.isEmpty then s else refetchL1 s c a n
    if s.mem.l2Bad.isEmpty ∨ (linesOf a n).all (fun l => l1Sets s c != 0 && l1Hit s c l.1 l.2) then s else refetchL2 s a n

/-! ### The ports of bank memory (R261, R265, R266) -/

/-- Whether a logical bank is a home bank of a master, 0 to 78 (R265). -/
def isHome (s : State) (m n : Nat) : Bool :=
  decide (m < 79) && (upFrom 0 4).any fun k =>
    let w := s.reg (BANK_REGION m k)
    fldBANK_REGION_VALID.test w && decide (fldBANK_REGION_FIRST.get w ≤ n) && decide (n ≤ fldBANK_REGION_LAST.get w)

/-- An access of `n` bytes to a bank: through its home port it takes one beat for each 64 bytes, which are counted; in single-bank mode
there is no home port (R261, R262, R266). -/
def bankBeats (s : State) (m a n : Nat) : State :=
  match regionOf s a with
  | some (.bank b) =>
    if s.test BANK_MODE fldBANK_MODE_NOW = false ∧ isHome s m b then count s (BANK_HOME_BEATS (b / 4)) ((n + 63) / 64) else s
  | _ => s

/-! ### Reads -/

/-- How a read ends. -/
inductive RdRes where
  | ok (bs : List Byte)
  | addr (a : Nat)
  | poison (a seq : Nat)
  | wait
  deriving DecidableEq, Repr

/-- A read of a RINGED granule in a running ring waits for the predecessor's flip (R193). -/
def flipWait (s : State) (a : Nat) : Bool :=
  kindAt s a == 1 && runningRing s != 0 && (olderState s == 3 || olderState s == 4 || olderState s == 6)

/-- An access to a bank waits while single-bank mode has been asked for and is not in effect yet, and an access to a bank under
destructive test until the bank's test ends (R267, R269). -/
def marchWait (s : State) (r : Region) : Bool :=
  match r with
  | .bank n =>
    let phys := physBank s n
    (s.test BANK_MODE fldBANK_MODE_SINGLE && !s.test BANK_MODE fldBANK_MODE_NOW) ||
      (s.test BANK_MARCH_STATUS fldBANK_MARCH_STATUS_BUSY && !s.test BANK_MARCH_CTRL fldBANK_MARCH_CTRL_MODE &&
        decide (s.fld BANK_MARCH_CTRL fldBANK_MARCH_CTRL_FIRST ≤ phys) &&
        decide (phys ≤ s.fld BANK_MARCH_CTRL fldBANK_MARCH_CTRL_LAST))
  | _ => false

/-- Whether an access to `n` bytes waits for a bank that holds some of them. -/
def bankWaits (s : State) (a n : Nat) : Bool := (regionOf s a).any (marchWait s) || (regionOf s (a + n - 1)).any (marchWait s)

/-- Whether a waiting write touches some of `n` bytes. -/
def PoolWait.overlaps (w : PoolWait) (a n : Nat) : Bool := decide (w.addr < a + n) && decide (a < w.addr + w.bytes.length)

/-- Whether a read of `n` bytes must wait: for a flip, for its bank, or behind a waiting write to a common byte (R275), though not one that
enters sapwood, which no read sees (R194). -/
def readWaits (s : State) (a n : Nat) : Bool :=
  flipWait s a || flipWait s (a + n - 1) || bankWaits s a n || s.mem.poolWait.any fun w => w.overlaps a n && kindAt s w.addr != 1

/-- The request of a read that no L1 serves: a present line of the L2 serves it, or its sectors are asked for at the stack (R246). -/
def askRead (s : State) (a n : Nat) : State :=
  (linePieces a n).foldl (fun s p =>
    match l2Find s (lineOf p.1) with
    | some e => if e.marker || kindAt s p.1 == 2 then stackAsk s false p.1 p.2 else count s (L2_HIT (homeSlice s (lineOf p.1))) 1
    | none => stackAsk s false p.1 p.2) s

/-- A read of `n` bytes of memory by a master as it is performed at its point of performance, past every L1. -/
def memRead (s : State) (m sub a n : Nat) : State × RdRes :=
  match spanRegion s a n with
  | none => (s, .addr (firstBad s a n))
  | some r =>
    if readWaits s a n then (s, .wait)
    else
      let bs := memBytes s sub a n
      let s := if r = .stack then askRead (refetch s none a n) a n else bankBeats s m a n
      match eccSpan s none sub a n with
      | (s, none) => (s, .ok bs)
      | (s, some (a, seq)) => (s, .poison a seq)

/-! ### Writes -/

/-- How a write ends: performed, an address error, refused as a RINGED write from an address on, or for want of a pool granule for an
address (R194, R214), or still waiting, with what of it is left. -/
inductive WRes where
  | ok
  | addr (a : Nat)
  | refused (a : Nat)
  | pool (a : Nat)
  | wait (a : Nat) (bs : List Byte)
  deriving DecidableEq, Repr

/-- The two slots that can hold a ring's sapwood. -/
abbrev WSlot := Option Slot

/-- Who writes, and under what: master, sub-ring, hint, and the slot whose sapwood takes its RINGED writes, none where they are
refused (R194, R215). -/
structure Wr where
  m : Nat
  sub : Nat
  hint : Nat
  slot : WSlot
  deriving DecidableEq, Repr

/-- The slot of the running ring, if one runs. -/
def runSlot (s : State) : WSlot := if runningRing s = 0 then none else some .newer

/-- The write generation of every sector a write touches advances (R191). -/
def bumpGens (m : NMap Nat) (a n : Nat) : NMap Nat :=
  (upFrom (a / 32) ((a + n + 31) / 32 - a / 32)).foldl (fun m i => mapPut (fun _ => 0) m i (mapGet (fun _ => 0) m i + 1)) m

/-- What every write does besides storing its bytes: generations, and copies in caches and fetch buffers. -/
def noteWrite (s : State) (a n : Nat) : State :=
  let s := s.modMem fun m => { m with gens := bumpGens m.gens a n }
  (upFrom (lineOf a) (lineOf (a + n - 1) + 1 - lineOf a)).foldl dropCopies s

/-- The units of `w` bytes that a write of `n` bytes at `a` does not cover whole, of a list of unit numbers. -/
def notCovered (w a n : Nat) (l : List Nat) : List Nat := l.filter fun x => !(decide (a ≤ x * w) && decide (x * w + w ≤ a + n))

/-- Poisoned units that a write covers whole are poisoned no more (R257, R264, R278). -/
def healPoison (m : NMap Nat) (a n : Nat) : NMap Nat := m.filter fun e => !(decide (a ≤ e.1) && decide (e.1 + e.2 ≤ a + n))

/-- Heartwood or a base written at its stack. -/
def healStack (s : State) (a n : Nat) : State :=
  s.modMem fun m => { m with poison := healPoison m.poison a n, wback := notCovered 32 a n m.wback }

/-- Bank memory written: its code words are written anew (R264). -/
def healBank (s : State) (a n : Nat) : State :=
  s.modMem fun m => { m with poison := healPoison m.poison a n,
                             soft := m.soft.filter fun w => !(decide (a / 8 ≤ w) && decide (w * 8 < a + n)) }

/-- Bytes written over a map with no value of its own for unlisted addresses. -/
def overlay (m : NMap Byte) (a : Nat) : List Byte → NMap Byte
  | [] => m
  | b :: bs => overlay (mapInsert m a b) (a + 1) bs

/-- A write of one line's bytes to a PLAIN granule at its home slice (R246, R253): a core's write allocates, another master's
updates the line only where it is present; a line that carries a deadfall marker is filled as an ordinary allocation. -/
def writePlain (s : State) (m hint a : Nat) (bs : List Byte) : State :=
  let line := lineOf a
  let n := homeSlice s line
  let present := l2Find s line
  let s := if present.any fun e => !e.marker then count s (L2_HIT n) 1 else s
  let s := noteWrite s a bs.length
  let cached := fun (e : L2Line) =>
    (l2Install s n e).modMem fun t => { t with dirty := overlay t.dirty a bs, l2Bad := notCovered 8 a bs.length t.l2Bad }
  match present with
  | some e => cached { e with cls := if m < 48 then hint else e.cls, dirty := true, marker := false, sharers := 0 }
  | none =>
    if m < 48 ∧ l2Ways s n ≠ 0 then cached { line := line, kind := 0, cls := hint, dirty := true, marker := false, sharers := 0 }
    else healStack ((stackAsk s true a bs.length).modMem fun t => { t with stk := writeBytes zeroByte t.stk a bs }) a bs.length

/-- Whether a stack can still free a granule for a waiting write: it retains heartwood (R214). -/
def stackRetains (s : State) (st : Nat) : Bool := s.mem.retained.gran.any fun g => stackOf s g == st

/-- A first write that finds no free granule: it waits and POOL_WAIT is raised, or it is refused and its ring is doomed with
cause POOL (R214). -/
def poolShort (s : State) (sl : Slot) (g a : Nat) (bs : List Byte) : State × WRes :=
  if stackRetains s (stackOf s g) then (ringEvent s 8, .wait a bs)
  else (doomSlot s sl 7 (ownDevice s) {}, .pool a)

/-- The sapwood of a slot. -/
def sapOf (s : State) : Slot → Sap
  | .newer => s.mem.sapNew
  | .older => s.mem.sapOld

/-- The sapwood of a slot replaced. -/
def setSap (s : State) (sl : Slot) (x : Sap) : State :=
  match sl with
  | .newer => s.modMem fun m => { m with sapNew := x }
  | .older => s.modMem fun m => { m with sapOld := x }

/-- The poisoned sectors of a granule's heartwood or base. -/
def granBad (m : Mem) (g : Nat) : List Nat := (mapRange m.poison (g * 0x10000) (g * 0x10000 + 0x10000)).map fun e => e.1 / 32

/-- The poisoned sectors of the version that a slot's ring copies at its first write of a granule: the older ring's sapwood while that
stands, else the heartwood (R193, R213). -/
def readBad (s : State) (sl : Slot) (g : Nat) : List Nat :=
  if sl = .newer ∧ s.mem.sapOld.gran.contains g then s.mem.sapOld.bad.filter fun x => x / 2048 == g else granBad s.mem g

/-- A poisoned sector is written in part, or read, for a ring: it is recorded and dooms that ring (R210, R278). -/
def doomPoison (s : State) (sl : Slot) (a : Nat) : State :=
  let st := stackOf s (granule a)
  let s := logFault s { mkRec 4 2 3 st with addr := a, ring := slotRing s sl, flags := if slotRing s sl = 0 then 0 else 2 }
  doomSlot s sl 5 (ownDevice s) {}

/-- A write to a RINGED granule enters the sapwood of a slot's ring (R194, R213). The granule's first write copies its read version,
poisoned sectors included; a poisoned sector that a write covers only in part is poisoned in the sapwood, which dooms the ring, and one
that it covers whole is poisoned no more (R278; DEDUCED, assumption 102). -/
def writeSap (s : State) (sl : Slot) (a : Nat) (bs : List Byte) : State × WRes :=
  let g := granule a
  let sap := sapOf s sl
  let put := fun (gran bad : List Nat) =>
    let left := notCovered 32 a bs.length bad
    let s := setSap (stackAsk s true a bs.length) sl { gran := gran, bytes := overlay sap.bytes a bs, bad := left }
    match (sectorsOf a bs.length).find? left.contains with
    | some x => doomPoison s sl (x * 32)
    | none => s
  if sap.gran.contains g then (put sap.gran sap.bad, .ok)
  else if poolFreeIn s (stackOf s g) = 0 then poolShort s sl g a bs
  else (put (g :: sap.gran) (readBad s sl g ++ sap.bad), .ok)

/-- A write to an ACCUM granule: to the sub-ring's version, made as a copy of the base at the first write, poisoned sectors included, or
to the base (R196, R213). -/
def writeAccum (s : State) (sub a : Nat) (bs : List Byte) : State × WRes :=
  let g := granule a
  let k := effSub s sub
  let note := fun (s : State) => noteWrite (stackAsk s true a bs.length) a bs.length
  if k = 0 then (healStack (note (s.modMem fun m => { m with stk := writeBytes zeroByte m.stk a bs })) a bs.length, .ok)
  else
    match accVer s k g with
    | some v => (note (s.modMem fun m => { m with accVers := m.accVers.map fun w =>
        if w = v then { v with bytes := writeBytes zeroByte v.bytes a bs, bad := notCovered 32 a bs.length v.bad } else w }), .ok)
    | none =>
      if poolFreeIn s (stackOf s g) = 0 then poolShort s .newer g a bs
      else
        let v := { sub := k, gran := g, bytes := writeBytes zeroByte (mapRange s.mem.stk (g * 0x10000) (g * 0x10000 + 0x10000)) a bs,
                   bad := notCovered 32 a bs.length (granBad s.mem g) }
        (note (s.modMem fun m => { m with accVers := m.accVers ++ [v] }), .ok)

/-- A write to the pool's own address range (R212): the address maps to some granule of its stack's pool, freely chosen; where that one
holds sapwood, retained heartwood or an ACCUM version, its bytes change without detection. -/
def writePool (s : State) (a : Nat) (bs : List Byte) : State :=
  let st := stackOf s (granule a)
  let (n, s) := s.free
  let i := n % (poolTotal s / 12)
  let mine := fun (l : List Nat) => l.filter fun g => stackOf s g == st
  let at_ := fun (g : Nat) => g * 0x10000 + a % 0x10000
  let m := s.mem
  let k1 := (mine m.sapNew.gran).length
  let k2 := k1 + (mine m.sapOld.gran).length
  let k3 := k2 + (mine m.retained.gran).length
  let put := fun (x : Sap) (g : Nat) => { x with bytes := overlay x.bytes (at_ g) bs, bad := notCovered 32 (at_ g) bs.length x.bad }
  match (mine m.sapNew.gran)[i]?, (mine m.sapOld.gran)[i - k1]?, (mine m.retained.gran)[i - k2]?,
      (m.accVers.filter fun v => stackOf s v.gran == st)[i - k3]? with
  | some g, _, _, _ => s.modMem fun m => { m with sapNew := put m.sapNew g }
  | none, some g, _, _ => s.modMem fun m => { m with sapOld := put m.sapOld g }
  | none, none, some g, _ => s.modMem fun m => { m with retained := put m.retained g }
  | none, none, none, some v => s.modMem fun m => { m with accVers := m.accVers.map fun w =>
      if w = v then { v with bytes := writeBytes zeroByte v.bytes (at_ v.gran) bs, bad := notCovered 32 (at_ v.gran) bs.length v.bad } else w }
  | none, none, none, none => s

/-- A write within one line of stacked memory, by the page kind of its granule (Table 9.1). -/
def writeStackLine (s : State) (w : Wr) (a : Nat) (bs : List Byte) : State × WRes :=
  if inPool s (granule a) then (writePool s a bs, .ok)
  else
    let k := kindAt s a
    if k = 0 then (writePlain s w.m w.hint a bs, .ok)
    else if k = 1 then
      match w.slot with
      | some sl => writeSap s sl a bs
      | none => (s, .refused a)
    else writeAccum s w.sub a bs

/-- A write of stacked memory line by line; one that waits leaves its rest. Fuel bounds the lines. -/
def writeStack : Nat → State → Wr → Nat → List Byte → State × WRes
  | 0, s, _, _, _ => (s, .ok)
  | fuel + 1, s, w, a, bs =>
    let n := 128 - a % 128
    match writeStackLine s w a (bs.take n) with
    | (s, .ok) => if bs.length ≤ n then (s, .ok) else writeStack fuel s w (a + n) (bs.drop n)
    | (s, .wait ..) => (s, .wait a bs)
    | r => r

/-- A write of bytes to memory as it is performed, whatever waits. -/
def memWriteNow (s : State) (w : Wr) (a : Nat) (bs : List Byte) : State × WRes :=
  if bs.isEmpty then (s, .ok)
  else
    match spanRegion s a bs.length with
    | none => (s, .addr (firstBad s a bs.length))
    | some .stack => writeStack bs.length s w a bs
    | some (.bank _) =>
      if bankWaits s a bs.length then (s, .wait a bs)
      else
        let s := bankBeats s w.m a bs.length
        (healBank (noteWrite (s.modMem fun t => { t with bank := writeBytes zeroByte t.bank (a - bankBase) bs }) a bs.length) a bs.length, .ok)
    | some (.array c o) =>
      let key := arrKey s c o
      (noteWrite (s.modMem fun t => { t with arr := overlay t.arr key bs, arrBad := notCovered 8 key bs.length t.arrBad }) a bs.length, .ok)
    | some (.pin n o) =>
      let key := pinKey s n o
      (noteWrite (s.modMem fun t => { t with pins := overlay t.pins key bs, pinBad := notCovered 8 key bs.length t.pinBad }) a bs.length, .ok)
    | _ => (s, .addr a)

/-- Whether some of `n` bytes wait to be written: later writes to them, and atomics, come after (R187, R275). -/
def behindWait (s : State) (a n : Nat) : Bool := s.mem.poolWait.any fun w => w.overlaps a n

/-- A write of bytes to memory as it is performed: behind a waiting write to a common byte it waits as well (R275). -/
def memWrite (s : State) (w : Wr) (a : Nat) (bs : List Byte) : State × WRes :=
  if behindWait s a bs.length then (s, .wait a bs) else memWriteNow s w a bs

/-- A write that waits joins the waiting writes (R214, R269). One to bank memory belongs to no ring, whatever its writer (R180). -/
def addWait (s : State) (w : Wr) (a : Nat) (bs : List Byte) (src : WSrc) : State :=
  let ring := match w.slot with
    | some sl => if a < stackTop then slotRing s sl else 0
    | none => 0
  let e : PoolWait := { addr := a, bytes := bs, sub := w.sub, ring := ring, src := src }
  s.modMem fun m => { m with poolWait := m.poolWait ++ [e] }

/-- A write by a master outside every ring; one that waits joins the waiting writes (R269). -/
def writeOrWait (s : State) (m a : Nat) (bs : List Byte) : State :=
  let w : Wr := { m := m, sub := 0, hint := 0, slot := none }
  match memWrite s w a bs with
  | (t, .wait b rest) => addWait t w b rest (.core m)
  | (t, _) => t

/-- The record of a core's store that a stack refuses as a RINGED write (R194, Table 16.4). -/
def logRinged (s : State) (m a n : Nat) : State :=
  logFault s { mkRec 20 1 3 (stackOf s (granule a)) with sub := m, addr := a, arg := n }

/-! ### The merging buffer (R184) -/

/-- The maximal runs of consecutive addresses in a map of bytes. -/
def runsOf : NMap Byte → List (Nat × List Byte)
  | [] => []
  | (a, b) :: m =>
    match runsOf m with
    | (a', bs) :: rs => if a' = a + 1 then (a, b :: bs) :: rs else (a, [b]) :: (a', bs) :: rs
    | [] => [(a, [b])]

/-- A store of a core reaches its point of performance: refused RINGED writes are recorded, one that needs a pool granule waits
in the stack. -/
def performStore (s : State) (c : CoreId) (sub hint a : Nat) (bs : List Byte) : State :=
  let w : Wr := { m := c.val, sub := sub, hint := hint, slot := runSlot s }
  match memWrite s w a bs with
  | (s, .refused b) => logRinged s c.val b (a + bs.length - b)
  | (s, .wait b rest) => addWait s w b rest (.core c.val)
  | (s, _) => s

/-- An entry of the merging buffer is written to its point of performance; while a vector instruction stands unretired that is marked
(R43, R133). -/
def performEntry (s : State) (c : CoreId) (e : MergeEntry) : State :=
  let s := if (s.core c).vecQ.isEmpty then s else s.modCore c fun k => { k with spilled := true }
  (runsOf e.bytes).foldl (fun s r => performStore s c e.sub e.hint r.1 r.2) s

/-- Every entry of a core's merging buffer is performed (R185, R186). -/
def drainMerge (s : State) (c : CoreId) : State :=
  let es := (s.core c).mbuf
  es.foldl (fun s e => performEntry s c e) (s.modCore c fun k => { k with mbuf := [] })

/-- Whether a waiting write is a store or an atomic of a core. -/
def WSrc.ofCore (c : CoreId) : WSrc → Bool
  | .core d => d == c.val
  | .atom d _ _ => d == c.val
  | _ => false

/-- Whether a store or an atomic of a core still waits in a stack or a bank (R214, R269). -/
def storesWait (s : State) (c : CoreId) : Bool := s.mem.poolWait.any fun w => w.src.ofCore c

/-- One entry leaves the merging buffer and is performed. -/
def performAt (s : State) (c : CoreId) (i : Nat) : State :=
  match (s.core c).mbuf[i]? with
  | some e => performEntry (s.modCore c fun k => { k with mbuf := k.mbuf.eraseIdx i }) c e
  | none => s

/-- A store of bytes within one line enters the merging buffer. Entries of the line for another sub-ring perform first; where
all eight entries are in use one of them, freely chosen, performs (R184). -/
def mergeStore (s : State) (c : CoreId) (hint a : Nat) (bs : List Byte) : State :=
  let line := lineOf a
  let sub := coreSub s c
  let s := match (s.core c).mbuf.findIdx? fun e => e.line == line && e.sub != sub with
    | some i => performAt s c i
    | none => s
  match (s.core c).mbuf.findIdx? fun e => e.line == line with
  | some i => s.modCore c fun k => { k with mbuf := k.mbuf.modify i fun e => { e with bytes := overlay e.bytes a bs, hint := hint } }
  | none =>
    let s := if 8 ≤ (s.core c).mbuf.length then
        let (n, s) := s.free
        performAt s c (n % (s.core c).mbuf.length)
      else s
    s.modCore c fun k => { k with mbuf := k.mbuf ++ [{ line := line, sub := sub, bytes := overlay [] a bs, hint := hint }] }

/-- What a store to a core's own array overwrites, kept while a vector instruction stands unretired (R133). -/
def keepUndo (s : State) (c : CoreId) (key n : Nat) : State :=
  if (s.core c).vecQ.isEmpty then s
  else
    let old := (upFrom key n).map fun k => (k, mapFind s.mem.arr k)
    s.modCore c fun k => { k with vecQ := k.vecQ.modify (k.vecQ.length - 1) fun op => { op with undo := old ++ op.undo } }

/-- A core's store of bytes to populated memory: to its own array at once, elsewhere through the merging buffer (R184). -/
def coreStore (s : State) (c : CoreId) (hint a : Nat) (bs : List Byte) : State :=
  match regionOf s a with
  | some (.array c' o) =>
    if c' = c.val then (memWrite (keepUndo s c (arrKey s c' o) bs.length) ⟨c.val, coreSub s c, hint, runSlot s⟩ a bs).1
    else if lineOf a = lineOf (a + bs.length - 1) then mergeStore s c hint a bs
    else
      let n := 128 - a % 128
      mergeStore (mergeStore s c hint a (bs.take n)) c hint (a + n) (bs.drop n)
  | _ =>
    if lineOf a = lineOf (a + bs.length - 1) then mergeStore s c hint a bs
    else
      let n := 128 - a % 128
      mergeStore (mergeStore s c hint a (bs.take n)) c hint (a + n) (bs.drop n)

/-- Bytes of memory with the issuing core's own merging-buffer bytes over them (R184); a store to a RINGED granule is seen by no read, its
writer's included (R194). -/
def mergeView (s : State) (c : CoreId) (a : Nat) (bs : List Byte) : List Byte :=
  if (s.core c).mbuf.isEmpty then bs
  else bs.mapIdx fun i b =>
    if a + i < stackTop ∧ kindAt s (a + i) = 1 then b
    else ((s.core c).mbuf.foldl (fun acc e => (mapFind e.bytes (a + i)).or acc) none).getD b

/-- The core's buffered stores that a load overlaps and that belong to another sub-ring than the load are performed first, each to its own
version (R185, R196, R208). -/
def settleSub (s : State) (c : CoreId) (a n : Nat) : State :=
  ((s.core c).mbuf.filter fun e => e.sub != coreSub s c && !(mapRange e.bytes a (a + n)).isEmpty).foldl (fun s e =>
    match (s.core c).mbuf.findIdx? (· == e) with
    | some i => performAt s c i
    | none => s) s

/-- Whether a store of a core that waits in a stack or a bank overlaps a load of its own, which comes after it (R185). -/
def ownWait (s : State) (c : CoreId) (a n : Nat) : Bool := s.mem.poolWait.any fun w => w.src.ofCore c && w.overlaps a n

/-- A core's load of `n ≤ 128` bytes of populated memory: caches, errors and its own buffered stores (R184, R239, R257). -/
def coreLoad (s : State) (c : CoreId) (hint a n : Nat) : State × RdRes :=
  match spanRegion s a n with
  | none => (s, .addr (firstBad s a n))
  | some r =>
    if readWaits s a n ∨ ownWait s c a n ∨ (r = .stack ∧ loadAccepted s c a n = false) then (s, .wait)
    else
      let t := settleSub s c a n
      let bs := mergeView t c a (memBytes t (coreSub t c) a n)
      let t := if r = .stack then cacheLoad (refetch t (some c) a n) c hint a n else bankBeats t c a n
      match eccSpan t (some c) (coreSub t c) a n with
      | (t, none) => (t, .ok bs)
      | (t, some (b, seq)) => (t, .poison (max b a) seq)

end Sys2Proof.Machine
end

