-- ==== Sys2Proof/Machine/Stack.lean ====
section
/-! DEFINITION. Bank memory's modes and march test, the stacks' error correction and page table, and the exact accumulators
(R260 to R288). -/
namespace Sys2Proof.Machine
open Host

/-! ### Single-bank mode (R267) -/

/-- The requested mode takes effect; the model's ports are idle between commands. -/
def execBankModeChange (s : State) : Outcome State Fault Refusal :=
  if s.still then next s s else
  next s (s.setBit BANK_MODE fldBANK_MODE_NOW (s.test BANK_MODE fldBANK_MODE_SINGLE))

/-! ### The march test engine (R268 to R270) -/

/-- The logical bank a physical bank serves, if any. -/
def logicalBank (s : State) (phys : Nat) : Option Nat :=
  (upFrom 0 64).find? fun n => physBank s n == phys

/-- A write of BANK_MARCH_CTRL: its fields outside a run, and the start of a run. -/
def marchCtrlWrite (s : State) (v : Word) : State :=
  if s.test BANK_MARCH_STATUS fldBANK_MARCH_STATUS_BUSY then s
  else
    let s := s.setFld BANK_MARCH_CTRL fldBANK_MARCH_CTRL_MODE (fldBANK_MARCH_CTRL_MODE.get v)
    let s := s.setFld BANK_MARCH_CTRL fldBANK_MARCH_CTRL_LAST (fldBANK_MARCH_CTRL_LAST.get v)
    let s := s.setFld BANK_MARCH_CTRL fldBANK_MARCH_CTRL_FIRST (fldBANK_MARCH_CTRL_FIRST.get v)
    if fldBANK_MARCH_CTRL_GO.test v then
      let s := s.setBit BANK_MARCH_STATUS fldBANK_MARCH_STATUS_BUSY true
      let s := s.setFld BANK_MARCH_STATUS fldBANK_MARCH_STATUS_BANK (fldBANK_MARCH_CTRL_FIRST.get v)
      s.setFld BANK_MARCH_STATUS fldBANK_MARCH_STATUS_ROW 0
    else s

/-- MARCH_GO. -/
def execMarchGo (v : Word) (s : State) : Outcome State Fault Refusal := if s.still then next s s else next s (marchCtrlWrite s v)

/-- A bank out of service until the next canopy load (R270, R21). -/
def bankFail (s : State) (f : MarchFail) : State :=
  let s := s.setBit BANK_MARCH_STATUS fldBANK_MARCH_STATUS_FAIL true
  let s := s.setFld BANK_MARCH_STATUS fldBANK_MARCH_STATUS_BANK f.bank
  let n := logicalBank s f.bank
  let s := match n with
    | some n => s.modMem fun m => { m with bankOut := if m.bankOut.contains n then m.bankOut else m.bankOut ++ [n] }
    | none => s
  let s := retire s 2 f.bank 0
  logFault s { mkRec 10 3 2 (n.getD 0) with phys := f.bank, flags := 4, sub := f.row }

/-- The place of a bank's count of spares in use, in the register of its group (Table 10.7). -/
def repairFld (n : Nat) (column : Bool) : Fld :=
  let b := 11 * (n % 4)
  if column then ⟨b + 10, b + 6⟩ else ⟨b + 5, b⟩

/-- The spare rows or columns of a physical bank that are in use (R260). -/
def sparesUsed (s : State) (phys : Nat) (column : Bool) : Nat := mapGet (fun _ => 0) s.mem.bankSpare (2 * phys + (flag column))

/-- What BANK_REPAIR shows: the spares in use in the banks of a group (Table 10.7). -/
def bankRepairView (s : State) (g : Nat) : Word :=
  word ((upFrom (4 * g) 4).flatMap fun n => [false, true].map fun column => (repairFld n column, sparesUsed s (physBank s n) column))

/-- A soft repair: a spare row or column of the bank, recorded and entered among the retired elements, or the bank's failure where none
is left (R260, R270). -/
def bankRepair (s : State) (r : MarchRepair) : State :=
  let k := sparesUsed s r.bank r.column
  if (if r.column then 16 else 32) ≤ k then bankFail s { bank := r.bank, row := r.index }
  else
    let s := s.modMem fun m => { m with bankSpare := mapInsert m.bankSpare (2 * r.bank + flag r.column) (k + 1) }
    let sub := r.index % 0x10000 + 0x10000 * flag r.column
    let s := retire s 12 r.bank (sub + 0x20000 * r.subarray)
    match logicalBank s r.bank with
    | none => logFault s { mkRec 6 0 2 0 with phys := r.bank, sub := sub, arg := r.subarray }
    | some n =>
      let row := if r.column then r.subarray * 2048 else r.index
      logFault s { mkRec 6 0 2 n with
        phys := r.bank, sub := sub, addr := bankBase + n * 0x1000000 + row * 512, arg := r.subarray }

/-- Whether a run tests a physical bank. -/
def inRun (s : State) (p : Nat) : Bool :=
  decide (s.fld BANK_MARCH_CTRL fldBANK_MARCH_CTRL_FIRST ≤ p) && decide (p ≤ s.fld BANK_MARCH_CTRL fldBANK_MARCH_CTRL_LAST)

/-- What BANK_MARCH_STATUS shows: of a run in progress some bank and row under test, freely chosen since the model keeps no time of it
(assumption 103). -/
def marchView (s : State) (w : Word) : Word :=
  let first := s.fld BANK_MARCH_CTRL fldBANK_MARCH_CTRL_FIRST
  let last := s.fld BANK_MARCH_CTRL fldBANK_MARCH_CTRL_LAST
  if fldBANK_MARCH_STATUS_BUSY.test w then
    let n := Config.free s.freeCtr
    fldBANK_MARCH_STATUS_ROW.set (n % 32768) (fldBANK_MARCH_STATUS_BANK.set (first + n / 32768 % (last + 1 - first)) w)
  else w

/-- The bytes of a logical bank, as addresses. -/
def bankSpan (n : Nat) : Nat × Nat := (bankBase + n * 0x1000000, bankBase + n * 0x1000000 + 0x1000000)

/-- The logical banks that a run tests. -/
def runBanks (s : State) : List Nat := (upFrom 0 64).filter fun n => inRun s (physBank s n)

/-- The write generations of the sectors of a range advance; only those that a copy under way has read can ever be compared, so only
those are kept up (R191). -/
def bumpRead (s : State) (lo hi : Nat) : State :=
  (s.xfer.toList.flatMap fun x => x.active.flatMap fun d => (mapRange d.gens (lo / 32) (hi / 32)).map Prod.fst).dedup.foldl (fun s i =>
    s.modMem fun m => { m with gens := bumpGens m.gens (i * 32) 32 }) s

/-- Every byte of the tested banks is 0 with a valid code after a destructive run, which is a write of every sector (R269, R191). -/
def marchZero (s : State) : State :=
  (runBanks s).foldl (fun s n =>
    let (lo, hi) := bankSpan n
    let s := bumpRead s lo hi
    s.modMem fun m => { m with bank := mapDropRange m.bank (lo - bankBase) (hi - bankBase), poison := mapDropRange m.poison lo hi }) s

/-- A run rewrites the words it corrects (R264). -/
def marchMend (s : State) : State :=
  let spans := (runBanks s).map bankSpan
  s.modMem fun m => { m with soft := m.soft.filter fun w => !spans.any fun x => decide (x.1 ≤ w * 8) && decide (w * 8 < x.2) }

/-- MARCH_RUN_END: a run ends, with the cells of its banks that were repaired and those that could not be. -/
def execMarchRunEnd (rep : List MarchRepair) (fail : List MarchFail) (s : State) : Outcome State Fault Refusal :=
  if s.still then next s s else
  if s.test BANK_MARCH_STATUS fldBANK_MARCH_STATUS_BUSY then
    let t := marchMend (if s.test BANK_MARCH_CTRL fldBANK_MARCH_CTRL_MODE then s else marchZero s)
    let last := s.fld BANK_MARCH_CTRL fldBANK_MARCH_CTRL_LAST
    let t := if inRun s last then
        (t.setFld BANK_MARCH_STATUS fldBANK_MARCH_STATUS_BANK last).setFld BANK_MARCH_STATUS fldBANK_MARCH_STATUS_ROW 32767
      else t
    let t := (fail.filter fun f => inRun s f.bank).foldl bankFail ((rep.filter fun r => inRun s r.bank).foldl bankRepair t)
    let t := t.setBit BANK_MARCH_STATUS fldBANK_MARCH_STATUS_BUSY false
    next s (t.setBit BANK_MARCH_STATUS fldBANK_MARCH_STATUS_DONE true)
  else next s s

/-! ### DRAM accesses (R274 to R279) -/

/-- The place of an address in its DRAM row: its column. -/
def dramColumn (a : Nat) : Nat := (granule a / 12 * 0x10000 + a % 0x10000) / 8192 % 4 * 256 + a % 256

/-- The spares in use in a stack, from the Warden's record of each DRAM bank. -/
def stackSpares (s : State) (st : Nat) (column : Bool) : Nat :=
  ((s.nv.stkRep.filter fun e => e.1 / 2 / 1536 == st && e.1 % 2 == flag column).map Prod.snd).sum

/-- STK_REPAIR of a stack shows the Warden's record (R279). -/
def showRepairs (s : State) (st : Nat) : State :=
  (s.setFld (STK_REPAIR st) fldSTK_REPAIR_ROWS (stackSpares s st false)).setFld (STK_REPAIR st) fldSTK_REPAIR_COLS (stackSpares s st true)

/-- A spare row or column of a DRAM bank replaces one whose corrected errors reach DIETHR / 16 (R279). A DRAM bank has 64 spare rows and 16
spare columns (R271); with none left nothing is replaced (DESIGN CHOICE, assumption 104). -/
def dramRepair (s : State) (st a : Nat) (column : Bool) : State :=
  let key := 2 * bankKey s a + flag column
  let used := mapGet (fun _ => 0) s.nv.stkRep key
  if (if column then 16 else 64) ≤ used then s
  else
    let s : State := { s with nv := { s.nv with stkRep := mapPut (fun _ => 0) s.nv.stkRep key (used + 1) } }
    logFault (showRepairs s st) { mkRec 6 0 3 st with
      sub := (if column then dramColumn a + 0x10000 else (rowOf s a).2) + 0x20000, addr := a, arg := (rowOf s a).1 }

/-- A count kept under a key, advanced by one. -/
def bumpKey (m : NMap Nat) (k : Nat) : NMap Nat := mapPut (fun _ => 0) m k (mapGet (fun _ => 0) m k + 1)

/-- A symbol of a die corrected in a sector: the counts, the record, and what their thresholds bring about (R277, R279). -/
def correctDie (s : State) (a die : Nat) : State :=
  let st := stackOf s (granule a)
  let thr := s.fld (STK_CFG st) fldSTK_CFG_DIETHR
  let s := countSat s (STK_ECC st) fldSTK_ECC_CE 1
  let s := logFault s { mkRec 3 0 3 st with sub := die, addr := alignDown a 32 }
  let kd := st * 32 + die
  let kr := bankKey s a * 32768 + (rowOf s a).2
  let kc := bankKey s a * 1024 + alignDown (dramColumn a) 32
  let s := s.modMem fun m =>
    { m with dieErr := bumpKey m.dieErr kd, rowErr := bumpKey m.rowErr kr, colErr := bumpKey m.colErr kc }
  let n := mapGet (fun _ => 0) s.mem.dieErr kd
  let s := if thr ≤ n ∧ s.fld (STK_CFG st) fldSTK_CFG_DIEFAIL = 0 then
      let s := s.setFld (STK_CFG st) fldSTK_CFG_DIEFAIL (die + 1)
      logFault (retire s 3 st (die + 1)) { mkRec 5 3 3 st with flags := 4, sub := die, arg := n }
    else s
  if thr ≤ 16 * mapGet (fun _ => 0) s.mem.rowErr kr then
    dramRepair (s.modMem fun m => { m with rowErr := mapErase m.rowErr kr }) st a false
  else if thr ≤ 16 * mapGet (fun _ => 0) s.mem.colErr kc then
    dramRepair (s.modMem fun m => { m with colErr := mapErase m.colErr kc }) st a true
  else s

/-- A sector found uncorrectable is poisoned; in RINGED or ACCUM data it dooms the running ring (R278, R210, R415). -/
def poisonSector (s : State) (a : Nat) : State :=
  let a := alignDown a 32
  let s := s.modMem fun m => { m with poison := mapInsert m.poison a 32 }
  logUE s ⟨4, stackOf s (granule a), 3, stackOf s (granule a), 32, false, 0⟩ a false

/-- What the code makes of a sector's symbols with errors in the dies named. One bad die is corrected, two are detected; beyond the failed
die, one or two further are detected (R276, R277). Errors in more dies than the code answers for are detected or mistaken for one
die's, freely. -/
def decodeSector (s : State) (addr : Nat) (errs : List SymErr) : State :=
  let dies := ((errs.filter fun e => e.bits != 0 && decide (e.die < 19)).map SymErr.die).dedup
  let fd := s.fld (STK_CFG (stackOf s (granule addr))) fldSTK_CFG_DIEFAIL
  let live := if fd = 0 then dies else dies.filter fun d => d + 1 != fd
  if live = [] then s
  else if live.length = 1 ∧ fd = 0 then correctDie s addr (live.headD 0)
  else if live.length ≤ 2 then poisonSector s addr
  else
    let (n, s) := s.free
    if n % 2 = 0 then poisonSector s addr else correctDie s addr (n / 2 % 19)

/-- STACK_ACCESS: one DRAM access to the sector at an address, whose symbols arrive with errors in the dies named. Where requests of the
sector wait it is the turn of one of them, or nothing happens (R274), and only a read is decoded; else it is a read of the scrubber,
which waits in no queue (assumption 105). -/
def execStackAccess (addr : Nat) (errs : List SymErr) (s : State) : Outcome State Fault Refusal :=
  if s.still then next s s else
  if addr < stackTop then
    let came := chanEvent s (112 + stackOf s (granule addr))
    if s.mem.sorter.any fun r => r.sector == addr / 32 then
      match sortPick s (channelOf s addr) with
      | some r =>
        if r.sector = addr / 32 then next s (if r.wr then sortServe came r else decodeSector (sortServe came r) addr errs) else next s s
      | none => next s s
    else next s (decodeSector (openPage came addr) addr errs)
  else next s s

/-! ### Page kinds (R281) -/

/-- A page-kind command refused or stopped. -/
def pteErr (s : State) (st reason : Nat) : State :=
  (s.setBit (STK_PTE_STATUS st) fldSTK_PTE_STATUS_ERR true).setFld (STK_PTE_STATUS st) fldSTK_PTE_STATUS_REASON reason

/-- The entry of one granule set: its content stays, so dirty lines reach the stack first. -/
def pteApply (s : State) (st q entry : Nat) : State :=
  let g := granuleIn s st q
  let s := s.modMem fun m => m.flush (g * 0x10000) (g * 0x10000 + 0x10000)
  s.modMem fun m => { m with pte := mapPut (fun _ => 0) m.pte g entry }

/-- The running command of a stack changes up to `n` further granules; when none is left it ends. -/
def pteRun (s : State) (st n : Nat) : State :=
  match mapFind s.mem.pteCmd st with
  | none => s
  | some k =>
    let n := min n k.left
    let s := (upFrom k.next n).foldl (fun s q => pteApply s st q k.entry) s
    let s := s.setFld (STK_PTE_STATUS st) fldSTK_PTE_STATUS_NEXT (k.next + n)
    if n = k.left then
      (s.modMem fun m => { m with pteCmd := mapErase m.pteCmd st }).setBit (STK_PTE_STATUS st) fldSTK_PTE_STATUS_BUSY false
    else s.modMem fun m => { m with pteCmd := mapInsert m.pteCmd st { k with next := k.next + n, left := k.left - n } }

/-- A write of STK_PTE_SET starts a command or is refused, for the first of the reasons 4, 1, 2 and 3 that applies. -/
def pteSetWrite (s : State) (st : Nat) (v : Word) : State :=
  let cnt := fldSTK_PTE_SET_COUNTM1.get v + 1
  let first := fldSTK_PTE_SET_FIRST.get v
  let kind := fldSTK_PTE_SET_KIND.get v
  if s.test (STK_PTE_STATUS st) fldSTK_PTE_STATUS_BUSY then pteErr s st 4
  else if allFree s = false then pteErr s st 1
  else if 786432 < first + cnt then pteErr s st 2
  else if kind = 3 then pteErr s st 3
  else
    let s := s.setBit (STK_PTE_STATUS st) fldSTK_PTE_STATUS_BUSY true
    let s := s.setFld (STK_PTE_STATUS st) fldSTK_PTE_STATUS_NEXT first
    let k : PteCmd := { next := first, left := cnt, entry := kind + 4 * fldSTK_PTE_SET_MIRROR.get v }
    s.modMem fun m => { m with pteCmd := mapInsert m.pteCmd st k }

/-- An OPEN accepted while a command runs stops it before its next granule. -/
def pteStop (s : State) (st : Nat) : State :=
  match mapFind s.mem.pteCmd st with
  | none => s
  | some _ =>
    pteErr ((s.modMem fun m => { m with pteCmd := mapErase m.pteCmd st }).setBit (STK_PTE_STATUS st)
      fldSTK_PTE_STATUS_BUSY false) st 1

/-- PTE_SET. -/
def execPteSet (st : Fin 12) (v : Word) (s : State) : Outcome State Fault Refusal := if s.still then next s s else next s (pteSetWrite s st v)

/-- PTE_SET_COMPLETE: the running command reaches its last granule. -/
def execPteSetComplete (st : Fin 12) (s : State) : Outcome State Fault Refusal := if s.still then next s s else next s (pteRun s st 786432)

/-! ### Exact accumulators (R284 to R286) -/

/-- An accumulator, by the number of its 128 bytes: 4,096 to a stack. -/
def accGet (s : State) (k : Nat) : ExAcc := mapGet (fun _ => { val := 0, st := 0 }) s.mem.exacc k

/-- An accumulator replaced. -/
def accPut (s : State) (k : Nat) (x : ExAcc) : State :=
  s.modMem fun m => { m with exacc := mapPut (fun _ => { val := 0, st := 0 }) m.exacc k x }

/-- The largest value, in units of 2^-298. -/
def accMax : Int := 2 ^ 639 - 1

/-- The smallest value. -/
def accMin : Int := -2 ^ 639

/-- A bit of STATUS set. -/
def ExAcc.raise (x : ExAcc) (b : Nat) : ExAcc := { x with st := x.st ||| 2 ^ b }

/-- An exact add of a number in units of 2^-298, held at the ends of the range (R285). -/
def ExAcc.add (x : ExAcc) (d : Int) : ExAcc :=
  let v := x.val + d
  if accMax < v then { x.raise 3 with val := accMax } else if v < accMin then { x.raise 3 with val := accMin }
  else { x with val := v }

/-- The magnitude of a finite binary32 in units of 2^-149. -/
def f32Units (w : Nat) : Nat :=
  if w / 2 ^ 23 % 256 = 0 then w % 2 ^ 23 else (2 ^ 23 + w % 2 ^ 23) * 2 ^ (w / 2 ^ 23 % 256 - 1)

/-- Whether a binary32 is a not-a-number. -/
def f32IsNaN (w : Nat) : Bool := w / 2 ^ 23 % 256 == 255 && w % 2 ^ 23 != 0
/-- Whether a binary32 is an infinity. -/
def f32IsInf (w : Nat) : Bool := w / 2 ^ 23 % 256 == 255 && w % 2 ^ 23 == 0

/-- A store to ADD, or a value of an EXSUM. -/
def ExAcc.addF (x : ExAcc) (w : Nat) : ExAcc :=
  if f32IsNaN w then x.raise 0
  else if f32IsInf w then x.raise (if bitOf w 31 then 2 else 1)
  else x.add ((if bitOf w 31 then -1 else 1) * ((f32Units w * 2 ^ 149 : Nat) : Int))

/-- A store to ADDSQ, or a value of an EXSUMSQ. -/
def ExAcc.addSq (x : ExAcc) (w : Nat) : ExAcc :=
  if f32IsNaN w then x.raise 0 else if f32IsInf w then x.raise 1
  else x.add ((f32Units w * f32Units w : Nat) : Int)

/-- The readout in a binary format (R286). -/
def ExAcc.readout (x : ExAcc) (f : Fmt) : Nat :=
  if bitOf x.st 0 ∨ (bitOf x.st 1 ∧ bitOf x.st 2) then f.nan
  else if bitOf x.st 1 then f.inf false
  else if bitOf x.st 2 then f.inf true
  else if x.val = 0 then f.zero false
  else (engRound f false false { neg := decide (x.val < 0), m := x.val.natAbs, e := -298 }).1

/-- A store to CLEAR. -/
def accClearOp (s : State) (k : Nat) (v : Word) : State := if bitOf v.toNat 0 then accPut s k { val := 0, st := 0 } else s
/-- A store to ADD. -/
def accAddOp (s : State) (k : Nat) (v : Word) : State := accPut s k ((accGet s k).addF (v.toNat % 2 ^ 32))
/-- A store to ADDSQ. -/
def accAddSqOp (s : State) (k : Nat) (v : Word) : State := accPut s k ((accGet s k).addSq (v.toNat % 2 ^ 32))

/-- ACC_CLEAR. -/
def execAccClear (st : Fin 12) (i : Fin 4096) (v : Word) (s : State) : Outcome State Fault Refusal :=
  if s.still then next s s else
  next s (accClearOp s (st * 4096 + i) v)
/-- ACC_ADD. -/
def execAccAdd (st : Fin 12) (i : Fin 4096) (v : Word) (s : State) : Outcome State Fault Refusal :=
  if s.still then next s s else
  next s (accAddOp s (st * 4096 + i) v)
/-- ACC_ADDSQ. -/
def execAccAddsq (st : Fin 12) (i : Fin 4096) (v : Word) (s : State) : Outcome State Fault Refusal :=
  if s.still then next s s else
  next s (accAddSqOp s (st * 4096 + i) v)

end Sys2Proof.Machine
end

