-- ==== Sys2Proof/Machine/Ring.lean ====
section
/-! DEFINITION. Rings: opening, sub-rings, sealing and prepare, the group decision, the flip and the discard (R202 to R231). -/
namespace Sys2Proof.Machine
open Host

/-! ### Sub-ring sets -/

/-- The ring logic changed. -/
def State.modRing (s : State) (f : RingSt → RingSt) : State := { s with ring := f s.ring }

/-- The members of the group, this device named by its own number; the device alone where no list has been read (R220). -/
def membersOf (s : State) : List Nat :=
  if s.ring.members.isEmpty then [ownDevice s] else s.ring.members.map fun d => if isSelf s d then ownDevice s else d

/-! ### The decision log (R224) -/

/-- The record of a group and a ring. -/
def logFind (s : State) (g r : Nat) : Option RingPayload := s.ring.log.find? fun p => p.group == g && p.ring == r

/-- A record entered, or written over the one of its group and ring; a 257th record evicts the oldest. -/
def logPut (s : State) (p : RingPayload) : State :=
  if (logFind s p.group p.ring).isSome then
    s.modRing fun k => { k with log := k.log.map fun q => if q.group = p.group ∧ q.ring = p.ring then p else q }
  else if s.ring.log.length < 256 then s.modRing fun k => { k with log := k.log ++ [p] }
  else s.modRing fun k =>
    { k with log := k.log.drop 1 ++ [p],
             evicted := k.evicted ++ (k.log.take 1).map fun q => (q.group, q.ring) }

/-- A decision record (Table 8.6): outcome 1 COMMIT or 2 DISCARD. -/
def mkRecord (s : State) (group ring g outcome source : Nat) (w : Why) : RingPayload :=
  { ring := ring, g := g, group := group, kind := outcome, arg := if outcome = 1 then 0 else w.cause, source := source,
    culprit := if outcome = 1 then 0 else w.culprit, shard := if outcome = 1 then 0 else w.shard,
    step := if outcome = 1 then 0 else w.step, members := groupSize s, cause := 0 }

/-- A holder answers a CLAIM with its record, entered from the proposal where it has none (R224). A record it has evicted
is answered with KIND 0. -/
def claimServe (s : State) (p : RingPayload) : State × List Byte :=
  if s.ring.evicted.contains (p.group, p.ring) then
    (s, ringBytes { mkPayload s p.ring 0 0 with g := 0, group := p.group, source := 0 })
  else
    match logFind s p.group p.ring with
    | some r => (s, ringBytes r)
    | none =>
      if p.arg = 1 ∨ p.arg = 2 then
        let r := mkRecord s p.group p.ring p.g p.arg p.source ⟨p.cause, p.culprit, p.shard, p.step⟩
        (logPut s r, ringBytes r)
      else (s, [])

/-! ### The resolve (R224) -/

/-- The device of a holder. -/
def holderDev (s : State) (h2 : Bool) : Nat :=
  s.fld RING_HOLDERS (if h2 then fldRING_HOLDERS_H2 else fldRING_HOLDERS_H1)

/-- A proposal as a CLAIM carries it. -/
def claimPayload (s : State) (ring outcome : Nat) (w : Why) : RingPayload :=
  { mkPayload s ring 5 outcome with
    culprit := w.culprit, shard := w.shard, step := w.step, cause := if outcome = 2 then w.cause else 0 }

/-- The CLAIM of a resolve leaves for its holder. -/
def sendClaim (s : State) (r : Resolve) (p : RingPayload) : State :=
  sendVote s (holderDev s r.atH2) p (.claim r.ring r.lead r.atH2)

/-- A resolve replaced. -/
def putResolve (s : State) (r : Resolve) : State :=
  s.modRing fun k => { k with resolves := k.resolves.map fun q => if q.ring = r.ring ∧ q.lead = r.lead then r else q }

/-- The resolve of a ring, the leader's or a member's. -/
def findResolve (s : State) (ring : Nat) (lead : Bool) : Option Resolve :=
  s.ring.resolves.find? fun q => q.ring == ring && q.lead == lead

/-- A resolve ends. -/
def dropResolve (s : State) (ring : Nat) (lead : Bool) : State :=
  s.modRing fun k => { k with resolves := k.resolves.filter fun q => !(q.ring == ring && q.lead == lead) }

/-- A resolve begins with a CLAIM to H1; one already going on stands. -/
def startResolve (s : State) (ring : Nat) (lead : Bool) (outcome : Nat) (w : Why) : State :=
  if (findResolve s ring lead).isSome then s
  else
    let p := claimPayload s ring outcome w
    let r : Resolve := { ring := ring, lead := lead, prop := p, atH2 := false, v1 := none, phase := 0 }
    sendClaim (s.modRing fun k => { k with resolves := k.resolves ++ [r] }) r p

/-- The cause a resolving device gives: the first cause of its own doom of the ring, else RESOLVED (R224). -/
def ownWhy (s : State) (ring : Nat) : Why :=
  match slotOfRing s ring with
  | some sl =>
    match (slotOf s sl).cause with
    | some (c, d, _) => ⟨c, d, 0, 0⟩
    | none => ⟨16, ownDevice s, 0, 0⟩
  | none => ⟨16, ownDevice s, 0, 0⟩

/-- A member resolves a ring, with proposal DISCARD. -/
def memberResolve (s : State) (ring : Nat) : State := startResolve s ring false 2 (ownWhy s ring)

/-! ### Outcomes at a member (R225) -/

/-- A slot becomes FREE. -/
def freeSlot (s : State) (sl : Slot) : State :=
  let s := setSlotState s sl 0
  let s := setDoomBit s sl false
  let s := setSlot s sl RingSlot.empty
  s.setReg (match sl with | .newer => RING_NEWER | .older => RING_OLDER) 0

/-- A ring left alone by the newer one is itself the newer, the higher-numbered ring of those not FREE (R202); the ring that
then opens makes it the older again (R204). DEDUCED. -/
def promote (s : State) : State :=
  if newerState s = 0 ∧ olderState s ≠ 0 then
    let t := setSlot s .newer (slotOf s .older)
    let t := setDoomBit (setSlotState t .newer (olderState s)) .newer (slotDoomed s .older)
    let t := t.setReg RING_NEWER (s.reg RING_OLDER)
    freeSlot (setSap (setSap t .newer (sapOf s .older)) .older Sap.empty) .older
  else s

/-- The versions of every open sub-ring are dropped with their ring, uncounted (Table 8.2). -/
def dropSubs (s : State) : State :=
  let s := s.setReg RING_SUBOPEN 0
  let s := s.modRing fun k => { k with closing := [], overlap := [] }
  s.modMem fun m => { m with accVers := [] }

/-- RECOVERED is raised once the resolves after a warm reset have settled every RECOVER ring (R230). -/
def recoverCheck (s : State) : State :=
  if s.ring.recovering = 2 ∧ newerState s ≠ 6 ∧ olderState s ≠ 6 then
    ringEvent (s.modRing fun k => { k with recovering := 0 }) 10
  else s

/-- The resolves and the UNDECIDED mark of a ring whose outcome is known end. -/
def settle (s : State) (ring : Nat) : State :=
  let s := dropResolve s ring false
  s.setBit RING_STATUS fldRING_STATUS_UNDECIDED (s.ring.resolves.any fun r => r.phase == 2)

/-- Descriptors tagged with a discarded ring are aborted (R301). -/
def abortTagged (s : State) (ring : Nat) : State :=
  { s with xfer := s.xfer.map fun x =>
      { x with queue := x.queue.map fun q => if q.tag = ring then { q with aborted := true } else q,
               active := x.active.map fun d => if d.post.tag = ring then { d with aborted := true } else d } }

/-- A BWAIT issued in a discarded ring is to write 1 (R334). -/
def releaseBwaits (s : State) (ring : Nat) : State :=
  { s with cores := s.cores.map fun k =>
      match k.wait with
      | .bwait rd b t r q none => if r = ring then { k with wait := .bwait rd b t r q (some 1) } else k
      | _ => k }

/-- The ring of a slot is discarded: sapwood and open versions are dropped, the cause is recorded where none arose here,
DISCARDED is raised, and a newer ring is doomed with PRED_DISCARD (Table 8.1, R211, R225, R229). -/
def dropRing (s : State) (sl : Slot) (w : Why) (g : Nat) (loc : Bool) : State :=
  let r := slotRing s sl
  let open' := slotState s sl == 1 || slotState s sl == 2
  let s := count s RING_DISCARDS 1
  let s := if (slotOf s sl).cause.isSome then s
    else doomRecord (setCause s r w.cause w.culprit loc) r w.cause w.culprit
      (if w.cause = 11 then { sub := w.shard, addr := g, arg := w.step } else {})
  let s := if open' then dropSubs s else s
  let s := setSap s sl Sap.empty
  let s := settle (freeSlot s sl) r
  let s := releaseBwaits (abortTagged s r) r
  let s := ringEvent s 3
  let s := match sl with
    | .older => doomSlot s .newer 13 w.culprit {}
    | .newer => s
  recoverCheck s

/-- A ring is discarded, and the ring it leaves alone is the newer. -/
def discardSlot (s : State) (sl : Slot) (w : Why) (g : Nat) (loc : Bool) : State := promote (dropRing s sl w g loc)

/-- The cached lines of the granules a ring wrote are invalidated at the flip (R195); reads under way see it (R238). -/
def flipCaches (s : State) (gs : List Nat) : State :=
  let hit := fun line => gs.contains (line / 512)
  let s : State := { s with cores := s.cores.map fun k =>
    { k.putL1 (k.l1.filter fun e => !hit e.line) with fetch := k.fetch.filter fun l => !hit l } }
  s.modMem fun m => { m with l2Bad := m.l2Bad.filter (fun w => !hit (w / 16)), slices := m.slices.map fun sl =>
    { sl with lines := sl.lines.filter fun e => !hit e.line,
              fills := sl.fills.map fun f => if f.kind = 1 then { f with flipped := true } else f } }

/-- Granules of heartwood or of a base replaced, as to their poison: sectors `bad` of them are poisoned now (R213, R278). -/
def replacePoison (m : Mem) (gs bad : List Nat) : Mem :=
  let kept := fun (x : Nat) => !gs.contains (x / 2048)
  { m with poison := bad.foldl (fun p x => mapInsert p (x * 32) 32) (m.poison.filter fun e => kept (e.1 / 32)),
           wback := m.wback.filter kept }

/-- The sapwood of a slot becomes heartwood, poisoned sectors included, and the heartwood it replaces is retained (R225). -/
def flipMemory (s : State) (sl : Slot) : State :=
  let sap := sapOf s sl
  let old : Sap := { gran := sap.gran,
                     bytes := s.mem.stk.filter fun e => sap.gran.contains (e.1 / 0x10000),
                     bad := sap.gran.flatMap (granBad s.mem) }
  let s := s.modMem fun m =>
    { replacePoison m sap.gran sap.bad with
             stk := sap.bytes.foldl (fun t e => mapPut zeroByte t e.1 e.2) m.stk,
             gens := sap.bytes.foldl (fun t e => mapInsert t (e.1 / 32) (mapGet (fun _ => 0) m.gens (e.1 / 32) + 1)) m.gens,
             retained := old }
  setSap s sl Sap.empty

/-- The ring of a slot commits, in one step as reads see it (R225). -/
def commitSlot (s : State) (sl : Slot) (g : Nat) : State :=
  let r := slotRing s sl
  let gs := (sapOf s sl).gran
  let s := match sl with
    | .newer => if olderState s = 5 then freeSlot s .older else s
    | .older => s
  let s := flipCaches (flipMemory s sl) gs
  let s := s.setReg RING_PREV (s.reg RING_VISIBLE)
  let s := s.setReg RING_VISIBLE (BitVec.ofNat 64 r)
  let s := s.setReg RING_GSTEP (BitVec.ofNat 64 (g + 1))
  let s := settle (setDoomBit (setSlotState s sl 5) sl false) r
  let s := sendVote s (leaderDev s) (mkPayload s r 4 0) .vote
  let s := count s RING_COMMITS 1
  recoverCheck (ringEvent s 2)

/-- A member applies an outcome, received or resolved: 1 COMMIT or 2 DISCARD. An outcome of a ring that is not awaiting one
has no effect. -/
def applyOutcome (s : State) (ring outcome : Nat) (w : Why) (g : Nat) : State :=
  match slotOfRing s ring with
  | none => s
  | some sl =>
    if outcome = 1 then
      if slotState s sl = 4 ∨ slotState s sl = 6 then commitSlot s sl g else s
    else if undecidedState (slotState s sl) then discardSlot s sl w g false else s

/-- RETIRE: a COMMITTED ring becomes FREE and its retained heartwood returns to the pool (Table 8.1). -/
def applyRetire (s : State) (ring : Nat) : State :=
  match slotOfRing s ring with
  | none => s
  | some sl =>
    if slotState s sl = 5 then
      let s := freeSlot s sl
      let s := s.setReg RING_PREV 0
      promote (s.modMem fun m => { m with retained := Sap.empty })
    else s

/-! ### The leader (R222, R223, Table 8.5) -/

/-- The leader's record of a ring, if it has one. -/
def leadFind (s : State) (ring : Nat) : Option LeadRec := s.ring.leads.find? fun l => l.ring == ring

/-- The leader's record replaced. -/
def leadPut (s : State) (l : LeadRec) : State :=
  s.modRing fun k => { k with leads := k.leads.map fun q => if q.ring = l.ring then l else q }

/-- Whether the leader has decided a ring before. -/
def leadDecided (s : State) (ring : Nat) : Bool :=
  (s.ring.announced.any fun a => a.1 == ring) || (logFind s (groupId s) ring).isSome

/-- COLLECTING begins for a ring the leader opens or first hears a vote for. -/
def leadOpen (s : State) (ring : Nat) : State :=
  if (leadFind s ring).isSome ∨ leadDecided s ring then s
  else s.modRing fun k =>
    { k with leads := k.leads ++ [{ ring := ring, state := 1, votes := [], why := none, flipped := [], g := 0 }] }

/-- What stands of the previous ring (R223): 1 its condition is met, 2 it was discarded, by the culprit given; 0 it is open. -/
def prevRing (s : State) (ring : Nat) : Nat × Nat :=
  match s.ring.announced.find? fun a => a.1 == ring - 1 with
  | some a => (a.2.1, a.2.2)
  | none =>
    match logFind s (groupId s) (ring - 1) with
    | some p => (p.kind, p.culprit)
    | none => if s.ring.collected.contains (ring - 1) then (0, 0) else (1, 0)

/-- The first event against a ring stands (Table 8.5). -/
def LeadRec.blame (l : LeadRec) (w : Why) : LeadRec := if l.why.isSome then l else { l with why := some w }

/-- Every G is held against that of the leader's own vote, once that is present (R222). -/
def LeadRec.checkG (l : LeadRec) (own : Nat) : LeadRec :=
  match l.votes.find? fun v => v.source == own with
  | none => l
  | some o =>
    match l.votes.find? fun v => v.g != o.g with
    | some v => l.blame ⟨12, v.source, 0, 0⟩
    | none => l

/-- The leader leaves COLLECTING with a decision, writes it into its own log and resolves with it (R222, R224). -/
def leadRecord (s : State) (l : LeadRec) (outcome : Nat) (w : Why) : State :=
  let g := ((l.votes.find? fun v => v.source == ownDevice s).map RingPayload.g).getD (gstep s)
  let s := leadPut s { l with state := 2, g := g }
  let s := if (logFind s (groupId s) l.ring).isSome then s
    else logPut s (mkRecord s (groupId s) l.ring g outcome (ownDevice s) w)
  startResolve s l.ring true outcome w

/-- The leader decides a ring it collects, if it can, and then those that follow it, in ascending ring order: a record of a ring
settles the condition of the next (R222, R223). At most as many rings as the count given. -/
def leadDecideUpTo : Nat → State → Nat → State
  | 0, s, _ => s
  | n + 1, s, ring =>
    match leadFind s ring with
    | none => s
    | some l =>
      if l.state ≠ 1 then s
      else
        let l := l.checkG (ownDevice s)
        let s := leadPut s l
        let pv := prevRing s ring
        if pv.1 = 0 then s
        else
          let l := if pv.1 = 2 then l.blame ⟨13, pv.2, 0, 0⟩ else l
          match l.why with
          | some w => leadDecideUpTo n (leadRecord s l 2 w) (ring + 1)
          | none =>
            if (membersOf s).all fun m => l.votes.any fun v => v.source == m && v.kind == 1 then
              leadDecideUpTo n (leadRecord s l 1 ⟨0, 0, 0, 0⟩) (ring + 1)
            else s

/-- The leader looks at a ring it may decide, and at those that follow it. -/
def leadDecide (s : State) (ring : Nat) : State := leadDecideUpTo (s.ring.leads.length + 1) s ring

/-- A payload to every member: op 9 COMMIT or 10 DISCARD. -/
def sendAll (s : State) (op ring kind : Nat) (p : RingPayload) : State :=
  (membersOf s).foldl (fun s m => issueOrWait s (mkReq s op m 3 0 0 0 (ringBytes p)) (.announce ring m kind) (m * 2 ^ 44)) s

/-- Every member has flipped a ring that was announced COMMIT: the leader is done with it, and RETIRE goes to every member (Table 8.5). -/
def leadRetire (s : State) (ring : Nat) : State :=
  match leadFind s ring with
  | none => s
  | some l =>
    if l.state = 3 ∧ (membersOf s).all (fun m => l.flipped.contains m) then
      let s := s.modRing fun k => { k with leads := k.leads.filter fun q => q.ring != ring }
      sendAll s 9 ring 1 { mkPayload s ring 1 0 with g := l.g, members := groupSize s }
    else s

/-- The leader announces the outcome its resolve returned, and looks at the ring that follows (Table 8.5, R224). -/
def announce (s : State) (l : LeadRec) (rec : RingPayload) : State :=
  let s := logPut s rec
  let s := s.modRing fun k => { k with announced := k.announced ++ [(l.ring, rec.kind, rec.culprit)] }
  let p : RingPayload :=
    { ring := l.ring, g := l.g, group := groupId s, kind := if rec.kind = 1 then 0 else 2,
      arg := if rec.kind = 1 then 0 else rec.arg, source := ownDevice s, culprit := rec.culprit, shard := rec.shard,
      step := rec.step, members := groupSize s, cause := 0 }
  let s := if rec.kind = 1 then leadPut s { l with state := 3 }
    else s.modRing fun k => { k with leads := k.leads.filter fun q => q.ring != l.ring }
  let s := sendAll s (if rec.kind = 1 then 9 else 10) l.ring p.kind p
  leadRetire (leadDecide s (l.ring + 1)) l.ring

/-- A member has flipped, or cannot be reached: that stands whatever the leader's state, since a member may resolve and flip before the
announcement (R222, Table 8.5). -/
def leadFlipped (s : State) (ring member : Nat) : State :=
  match leadFind s ring with
  | none => s
  | some l => leadRetire (leadPut s { l with flipped := if l.flipped.contains member then l.flipped else member :: l.flipped }) ring

/-- A READY, DOOM or REFUSE_STEP vote reaches the leader (R222). A vote from a device that is no member is not counted. -/
def leadVote (s : State) (p : RingPayload) : State :=
  if isLeader s = false ∨ p.group ≠ groupId s ∨ (membersOf s).contains p.source = false ∨ p.ring = 0 then s
  else
    let s := leadOpen s p.ring
    match leadFind s p.ring with
    | none => s
    | some l =>
      if l.state ≠ 1 then s
      else
        let s := s.modRing fun k =>
          { k with collected := if k.collected.contains p.ring then k.collected else p.ring :: k.collected }
        let l := { l with votes := (l.votes.filter fun v => v.source != p.source || v.kind == 2) ++ [p] }
        let l := if p.kind = 2 then l.blame ⟨p.arg, p.culprit, 0, 0⟩
          else if p.kind = 3 then l.blame ⟨11, p.source, p.shard, p.step⟩ else l
        leadDecide (leadPut s l) p.ring

/-! ### A resolve goes on -/

/-- A resolve returns an outcome: the leader announces it, a member applies it. -/
def resolved (s : State) (r : Resolve) (rec : RingPayload) : State :=
  let s := dropResolve s r.ring r.lead
  if r.lead then
    match leadFind s r.ring with
    | some l => if l.state = 2 then announce s l rec else s
    | none => s
  else applyOutcome s r.ring rec.kind ⟨rec.arg, rec.culprit, rec.shard, rec.step⟩ rec.g

/-- A CLAIM returned a holder's record, or its holder is lost (R224). -/
def claimDone (s : State) (r : Resolve) (v : Option RingPayload) : State :=
  if r.atH2 then
    match v.or r.v1 with
    | some rec => resolved s r rec
    | none =>
      let s := putResolve s { r with phase := 2, atH2 := false }
      ringEvent (s.setBit RING_STATUS fldRING_STATUS_UNDECIDED true) 9
  else
    match v with
    | some rec =>
      let r := { r with atH2 := true, v1 := some rec }
      sendClaim (putResolve s r) r (claimPayload s r.ring rec.kind ⟨rec.arg, rec.culprit, rec.shard, rec.step⟩)
    | none =>
      let r := { r with atH2 := true, v1 := none }
      let w : Why := if r.prop.arg = 2 then ⟨r.prop.cause, r.prop.culprit, r.prop.shard, r.prop.step⟩
        else ⟨16, ownDevice s, 0, 0⟩
      sendClaim (putResolve s r) r (claimPayload s r.ring 2 w)

/-- The completion of a CLAIM: its record, KIND 0 being an evicted one; anything else is sent again later (R224). -/
def claimAnswer (s : State) (ring : Nat) (lead atH2 : Bool) (status : Nat) (data : List Byte) : State :=
  match findResolve s ring lead with
  | none => s
  | some r =>
    if r.phase ≠ 0 ∨ r.atH2 ≠ atH2 then s
    else if status = 13 then claimDone s r none
    else
      let p := payloadOf data
      if status = 0 ∧ 64 ≤ data.length ∧ p.ring = ring ∧ p.group = groupId s then
        claimDone s r (if p.kind = 1 ∨ p.kind = 2 then some p else none)
      else putResolve s { r with phase := 1 }

/-- The CLAIM a resolve has out, or is to send again. -/
def currentClaim (s : State) (r : Resolve) : RingPayload :=
  if r.atH2 then
    match r.v1 with
    | some rec => claimPayload s r.ring rec.kind ⟨rec.arg, rec.culprit, rec.shard, rec.step⟩
    | none => claimPayload s r.ring 2 (if r.prop.arg = 2 then ⟨r.prop.cause, r.prop.culprit, r.prop.shard, r.prop.step⟩
        else ⟨16, ownDevice s, 0, 0⟩)
  else r.prop

/-! ### Path failure (R216, R221) -/

/-- Path failure to a device: every ring whose outcome is not learned is doomed, and an operation that failed toward the leader
makes the device resolve at once the rings it has voted on. -/
def ringPathFail (s : State) (dst : Nat) : State :=
  let s := doomAll s 8 dst
  if (if isSelf s dst then ownDevice s else dst) = (if isSelf s (leaderDev s) then ownDevice s else leaderDev s) then
    [Slot.older, Slot.newer].foldl (fun s sl =>
      if undecidedState (slotState s sl) then memberResolve s (slotRing s sl) else s) s
  else s

/-! ### Mirrored rings (R219) -/

/-- Whether rings are mirrored. -/
def mirrored (s : State) : Bool := s.test RING_MODE fldRING_MODE_MIRROR

/-- A byte of a ring's sapwood: the byte written, or the heartwood it was copied from. -/
def sapByte (s : State) (sap : Sap) (a : Nat) : Byte := (mapFind sap.bytes a).getD (mapGet zeroByte s.mem.stk a)

/-- One packet of 8 KiB of a slot's sapwood is copied, tagged with the ring (R328); a poisoned sector among its bytes dooms the ring, and
nothing is sent (R210). -/
def mirrorPacket (s : State) (sl : Slot) (p : Nat) : State :=
  let sap := sapOf s sl
  let a := p * 8192
  match sap.bad.find? fun x => x / 256 == p with
  | some x => doomPoison s sl (x * 32)
  | none =>
    let base := s.fld RING_MIRROR fldRING_MIRROR_BASE * 0x10000
    let dev := s.fld RING_MIRROR fldRING_MIRROR_DEVICE
    let k := mkReq s 2 dev Config.mirrorClass.val (base + a) 0 (slotRing s sl) ((upFrom a 8192).map (sapByte s sap))
    issueReq s { k with mirror := true } (.mirror (stackOf s (p / 8)) (slotRing s sl)) (dev * 2 ^ 44 + base + a)

/-- The copies that a stack controller has outstanding (R328). -/
def copiesOut (s : State) (st : Nat) : Nat :=
  s.ride.reqs.countP fun r => r.answer.isNone && match r.issuer with
    | .mirror st' _ => st' == st
    | _ => false

/-- One packet of a drain is sent, or left: a doomed ring starts no further copies (Table 17.3, F), a controller holds at most 2,048
outstanding (R328), and the endpoint takes no more than its table holds (R317). -/
def mirrorStep (sl : Slot) (acc : State × List Nat) (p : Nat) : State × List Nat :=
  if slotDoomed acc.1 sl ∨ 2048 ≤ copiesOut acc.1 (stackOf acc.1 (p / 8)) ∨
      endpointTakes acc.1 (acc.1.fld RING_MIRROR fldRING_MIRROR_DEVICE) = false then (acc.1, acc.2 ++ [p])
  else (mirrorPacket acc.1 sl p, acc.2)

/-- The copies of a drain that can be sent are sent. -/
def mirrorFeed (s : State) (sl : Slot) : State :=
  let todo := (slotOf s sl).mirrorTodo
  if todo.isEmpty then s
  else
    let (s, left) := todo.foldl (mirrorStep sl) (s, [])
    setSlot s sl { slotOf s sl with mirrorTodo := left }

/-- The mirror drain of a ring begins, once: every sapwood granule that carries the mirror bit is copied, eight packets each. -/
def startDrain (s : State) (sl : Slot) : State :=
  let k := slotOf s sl
  if k.draining then s
  else
    let todo := ((sapOf s sl).gran.filter fun g => bitOf (pteOf s g) 2).flatMap fun g => upFrom (8 * g) 8
    mirrorFeed (setSlot s sl { k with draining := true, mirrorLeft := todo.length, mirrorTodo := todo }) sl

/-- A copy of a ring has completed. -/
def mirrorDone (s : State) (ring : Nat) : State :=
  let s := match slotOfRing s ring with
    | some sl => setSlot s sl { slotOf s sl with mirrorLeft := (slotOf s sl).mirrorLeft - 1 }
    | none => s
  mirrorFeed (mirrorFeed s .older) .newer

/-! ### Sealing and prepare (R217) -/

/-- Whether writes accepted for a ring still wait (R217, step 1). -/
def writesWait (s : State) (ring : Nat) : Bool := s.mem.poolWait.any fun w => w.ring == ring

/-- The running ring moves to PREPARING; in mirrored mode its drain begins once its writes are performed. -/
def enterPreparing (s : State) : State :=
  let s := setSlotState s .newer 3
  if mirrored s ∧ writesWait s (newerRing s) = false then startDrain s .newer else s

/-- SEAL applies to the running ring. -/
def sealOp (s : State) : State :=
  if newerState s = 1 then
    if s.reg RING_SUBOPEN = 0 then enterPreparing s else setSlotState s .newer 2
  else s

/-- The slot at PREPARING, the older first. -/
def preparingSlot (s : State) : Option Slot :=
  if olderState s = 3 then some .older else if newerState s = 3 then some .newer else none

/-- Prepare ends where its steps are done: writes performed, mirror drained and mirrors heard, older ring COMMITTED or FREE;
the records are written and the vote is sent (R217). -/
def prepareDone (s : State) : State :=
  match preparingSlot s with
  | none => s
  | some sl =>
    let r := slotRing s sl
    let k := slotOf s sl
    if writesWait s r ∨ (mirrored s ∧ k.drained = false) ∨
        (s.ring.mirrored.countP fun e => e.1 == r) < s.fld RING_MODE fldRING_MODE_MIRROR_IN ∨
        (sl = .newer ∧ olderState s ≠ 0 ∧ olderState s ≠ 5) then s
    else
      let s := setSlot s sl { k with prepared := true }
      let s := ringEvent (setSlotState s sl 4) 1
      if slotDoomed s sl then s
      else
        let p := if s.test RING_REFUSE fldRING_REFUSE_VALID then
            { mkPayload s r 3 0 with shard := s.fld RING_REFUSE fldRING_REFUSE_SHARD, step := (s.reg RING_REFUSE_STEP).toNat }
          else mkPayload s r 1 0
        let s := setSlot s sl { slotOf s sl with voted := some p }
        sendVote s (leaderDev s) p .vote

/-! ### Opening (R203, R204) -/

/-- Whether an OPEN can be accepted now: no OPEN is accepted while RECOVER rings await their resolve. -/
def openable (s : State) : Bool :=
  s.ring.recovering == 0 &&
    (newerState s == 0 || (decide (3 ≤ newerState s) && olderState s == 0))

/-- An OPEN is accepted. -/
def openRing (s : State) : State :=
  let r := (s.reg RING_NEXT).toNat
  let s := s.setReg RING_NEXT (BitVec.ofNat 64 (r + 1))
  let s := s.modRing fun k => { k with highest := r, opened := k.opened + 1 }
  let s := if newerState s ≠ 0 then
      let st := newerState s
      let d := slotDoomed s .newer
      let s := setDoomBit (setSlotState (setSlot s .older (slotOf s .newer)) .older st) .older d
      let s := s.setReg RING_OLDER (s.reg RING_NEWER)
      setSap (setSap s .older (sapOf s .newer)) .newer Sap.empty
    else s
  let s := setSlot (setDoomBit (setSlotState s .newer 1) .newer false) .newer RingSlot.empty
  let s := s.setReg RING_NEWER (BitVec.ofNat 64 r)
  let s := s.setBit RING_STATUS fldRING_STATUS_OPEN_PEND false
  let s := s.setBit RING_REFUSE fldRING_REFUSE_VALID false
  let s := (s.setReg RING_SUBOPEN 0).setReg RING_SUBDOOM 0
  let s := s.modRing fun k => { k with used := 0, closing := [], overlap := [] }
  let s : State := { s with cores := s.cores.map fun k => { k with pendSeed := some (BitVec.ofNat 64 r) } }
  let s := (upFrom 0 12).foldl pteStop s
  let s := if isLeader s then leadDecide (leadOpen s r) r else s
  ringEvent s 0

/-- A request to open: refused at the last number, accepted, or held; without effect while one is held (R203, R204). -/
def openOp (s : State) : State :=
  if s.test RING_STATUS fldRING_STATUS_OPEN_PEND then s
  else if s.reg RING_NEXT = BitVec.allOnes 64 then
    ringEvent (s.setBit RING_STATUS fldRING_STATUS_NUMEX true) 7
  else if openable s then openRing s
  else s.setBit RING_STATUS fldRING_STATUS_OPEN_PEND true

/-- A held OPEN is accepted once its condition holds. -/
def openHeld (s : State) : State :=
  if s.test RING_STATUS fldRING_STATUS_OPEN_PEND ∧ openable s then
    if s.reg RING_NEXT = BitVec.allOnes 64 then
      ringEvent ((s.setBit RING_STATUS fldRING_STATUS_OPEN_PEND false).setBit RING_STATUS fldRING_STATUS_NUMEX true) 7
    else openRing s
  else s

/-- A write of RING_CTRL: DISCARD, then SEAL, then OPEN (Table 8.8). -/
def ringCtrlWrite (s : State) (v : Word) : State :=
  let s := if fldRING_CTRL_DISCARD.test v then doomAll s 14 (ownDevice s) else s
  let s := if fldRING_CTRL_SEAL.test v then sealOp s else s
  if fldRING_CTRL_OPEN.test v then openOp s else s

/-! ### Sub-rings (R207, R208) -/

/-- A write of RING_SUBCTRL refused. -/
def subErr (s : State) : State := s.setBit RING_SUBCTRL fldRING_SUBCTRL_ERR true

/-- An open of a sub-ring. -/
def subOpenOp (s : State) (k : Nat) : State :=
  if k = 0 ∨ newerState s ≠ 1 ∨ bitOf s.ring.used k then subErr s
  else
    let s := s.modRing fun r => { r with used := r.used ||| 2 ^ k }
    s.setReg RING_SUBOPEN (s.reg RING_SUBOPEN ||| BitVec.ofNat 64 (2 ^ k))

/-- A close requested; it takes effect once the copies posted for the sub-ring are complete. -/
def subCloseOp (s : State) (k : Nat) (keep : Bool) : State :=
  if k = 0 ∨ subIsOpen s k = false then subErr s
  else if s.ring.closing.any fun c => c.1 == k then s
  else s.modRing fun r => { r with closing := r.closing ++ [(k, keep)] }

/-- A write of RING_SUBCTRL. -/
def subCtrlWrite (s : State) (v : Word) : State :=
  let s := if fldRING_SUBCTRL_ERR.test v then s.setBit RING_SUBCTRL fldRING_SUBCTRL_ERR false else s
  let k := fldRING_SUBCTRL_K.get v
  match fldRING_SUBCTRL_OP.get v with
  | 1 => subOpenOp s k
  | 2 => subCloseOp s k true
  | 3 => subCloseOp s k false
  | _ => s

/-- Whether an access of a sub-ring has still to reach memory: a copy posted for it, or a store of it that is buffered or waits (R208;
DEDUCED of stores, assumption 106). -/
def subBusy (s : State) (k : Nat) : Bool :=
  (s.xfer.toList.any fun x => (x.queue.any fun q => q.sub == k) || x.active.any fun d => d.post.sub == k) ||
    (s.cores.toList.any fun c => c.mbuf.any fun e => e.sub == k) || s.mem.poolWait.any fun w => w.sub == k

/-- The versions a sub-ring holds replace the base, granule by granule, poisoned sectors included (R196). -/
def keepVersions (s : State) (k : Nat) : State :=
  (s.mem.accVers.filter fun v => v.sub == k).foldl (fun s v =>
    s.modMem fun m =>
      { replacePoison m [v.gran] v.bad with
               stk := v.bytes.foldl (fun t e => mapPut zeroByte t e.1 e.2)
                 (mapDropRange m.stk (v.gran * 0x10000) (v.gran * 0x10000 + 0x10000)),
               gens := bumpGens m.gens (v.gran * 0x10000) 0x10000 }) s

/-- A close takes effect (Table 8.2, R197, R209, R210). -/
def subCloseEffect (s : State) (k : Nat) : State :=
  match s.ring.closing.find? fun c => c.1 == k with
  | none => s
  | some (_, keep) =>
    if subBusy s k then s
    else
      let keep := keep && !wbit (s.reg RING_SUBDOOM) k
      let mine := (s.mem.accVers.filter fun v => v.sub == k).map AccVer.gran
      let clash := s.ring.overlap.find? fun o => o.1 == k && mine.contains o.2.1
      let s := if keep then keepVersions s k else s
      let s := s.modMem fun m => { m with accVers := m.accVers.filter fun v => v.sub != k }
      let s := s.setReg RING_SUBOPEN (s.reg RING_SUBOPEN &&& ~~~ BitVec.ofNat 64 (2 ^ k))
      let others := (upFrom 1 63).filter fun j => subIsOpen s j
      let s := s.modRing fun r =>
        { r with closing := r.closing.filter fun c => c.1 != k,
                 overlap := (r.overlap.filter fun o => o.1 != k) ++
                   others.flatMap fun j => mine.map fun g => (j, g, k) }
      let s := if keep then s
        else count (s.setReg RING_SUBDOOM (s.reg RING_SUBDOOM ||| BitVec.ofNat 64 (2 ^ k))) RING_SUBDISCARDS 1
      let s := ringEvent s 6
      let s := match clash with
        | some o => doomSlot s .newer 6 (ownDevice s) { addr := o.2.1 * 0x10000, arg := o.2.2 % 64 + k * 256 }
        | none => s
      let lim := s.fld RING_TRIP fldRING_TRIP_SUB_LIMIT
      let gone := ones 64 ((s.reg RING_SUBDOOM &&& ~~~ s.reg RING_SUBOPEN).toNat)
      let s := if lim ≠ 0 ∧ lim < gone then doomSlot s .newer 3 (ownDevice s) {} else s
      if newerState s = 2 ∧ s.reg RING_SUBOPEN = 0 then enterPreparing s else s

/-! ### Writes that wait for a pool granule (R214) -/

/-- Whether a waiting write's ring is doomed, or gone. -/
def waitDoomed (s : State) (w : PoolWait) : Bool :=
  if w.ring = 0 then false
  else
    match slotOfRing s w.ring with
    | some sl => slotDoomed s sl
    | none => true

/-- A waiting write tried again, under its own ring. -/
def tryWait (s : State) (w : PoolWait) : State × WRes :=
  if waitDoomed s w then (s, .pool w.addr)
  else
    let m := match w.src with
      | .core c => c
      | .atom .. => 64
      | .engine e _ => 48 + e
      | .status e _ => 48 + e
      | .remote .. => 64
    memWriteNow s { m := m, sub := w.sub, hint := 0, slot := slotOfRing s w.ring } w.addr w.bytes

/-- A waiting write is performed, refused, or waits on, as it does behind an earlier one to a common byte (R275); the mirror drain of a
sealed ring follows its last write. The write is returned where it has ended. -/
def poolResume (s : State) (i : Nat) : State × Option (PoolWait × WRes) :=
  match s.mem.poolWait[i]? with
  | none => (s, none)
  | some w =>
    if (s.mem.poolWait.take i).any fun e => e.overlaps w.addr w.bytes.length then (s, none)
    else match tryWait s w with
    | (t, .wait a bs) =>
      (t.modMem fun m =>
        { m with poolWait := m.poolWait.modify i fun w => { w with addr := a, bytes := bs } }, none)
    | (s, r) =>
      let s := s.modMem fun m => { m with poolWait := m.poolWait.eraseIdx i }
      let s := match slotOfRing s w.ring with
        | some sl => if slotState s sl = 3 ∧ mirrored s ∧ writesWait s w.ring = false then startDrain s sl else s
        | none => s
      (s, some (w, r))

/-! ### Group change and restart (R230, R231) -/

/-- A launch that changes the group: every ring not COMMITTED is discarded with cause GROUP_CHANGE, newest first, every
retained granule is freed, and the leader's collection starts anew. -/
def groupChange (s : State) : State :=
  let s := [Slot.newer, Slot.older].foldl (fun s sl =>
    if undecidedState (slotState s sl) then dropRing s sl ⟨17, ownDevice s, 0, 0⟩ 0 true
    else if slotState s sl = 5 then freeSlot s sl else s) s
  let s := s.setReg RING_PREV 0
  let s := s.modMem fun m => { m with retained := Sap.empty }
  s.modRing fun k => { k with leads := [], announced := [], collected := [], resolves := [], mirrored := [] }

/-- The ring logic over a warm reset: rings up to PREPARING are discarded with cause RESTART, VOTED rings await their
resolve, and the registers kept are kept (R230, Table 8.1). -/
def ringWarm (s : State) : State :=
  promote <| [Slot.newer, Slot.older].foldl (fun s sl =>
    let st := slotState s sl
    let r := slotRing s sl
    if st = 1 ∨ st = 2 ∨ st = 3 then
      let s := if (slotOf s sl).cause.isSome then s
        else doomRecord (setCause s r 15 (ownDevice s) true) r 15 (ownDevice s) {}
      let s := if st = 3 then s else dropSubs s
      freeSlot (count (setSap s sl Sap.empty) RING_DISCARDS 1) sl
    else if st = 4 then setSlotState s sl 6 else s) s

/-! ### The commands -/

/-- OPEN. -/
def execRingOpen (s : State) : Outcome State Fault Refusal := if s.still then next s s else next s (ringCtrlWrite s 1)
/-- OPEN_ACCEPT. -/
def execOpenAccept (s : State) : Outcome State Fault Refusal := if s.still then next s s else next s (openHeld s)
/-- SEAL. -/
def execSeal (s : State) : Outcome State Fault Refusal := if s.still then next s s else next s (ringCtrlWrite s 2)
/-- RING_CTRL_DISCARD. -/
def execRingCtrlDiscard (s : State) : Outcome State Fault Refusal := if s.still then next s s else next s (ringCtrlWrite s 4)
/-- SUB_OPEN. -/
def execSubOpen (k : Fin 64) (s : State) : Outcome State Fault Refusal := if s.still then next s s else next s (subOpenOp s k)
/-- SUB_CLOSE_KEEP. -/
def execSubCloseKeep (k : Fin 64) (s : State) : Outcome State Fault Refusal := if s.still then next s s else next s (subCloseOp s k true)
/-- SUB_CLOSE_DISCARD. -/
def execSubCloseDiscard (k : Fin 64) (s : State) : Outcome State Fault Refusal := if s.still then next s s else next s (subCloseOp s k false)
/-- SUB_CLOSE_EFFECT. -/
def execSubCloseEffect (k : Fin 64) (s : State) : Outcome State Fault Refusal := if s.still then next s s else next s (subCloseEffect s k)
/-- PREPARE_COMPLETE. -/
def execPrepareComplete (s : State) : Outcome State Fault Refusal := if s.still then next s s else next s (prepareDone s)

/-- MIRROR_DRAIN_COMPLETE: every copy has completed and MIRRORED goes to the mirror. -/
def execMirrorDrainComplete (s : State) : Outcome State Fault Refusal :=
  if s.still then next s s else
  match preparingSlot s with
  | none => next s s
  | some sl =>
    let k := slotOf s sl
    if mirrored s ∧ k.draining ∧ k.mirrorLeft = 0 ∧ k.drained = false ∧ slotDoomed s sl = false then
      let t := setSlot s sl { k with drained := true }
      next s (sendVote t (t.fld RING_MIRROR fldRING_MIRROR_DEVICE) (mkPayload t (slotRing t sl) 6 0) .vote)
    else next s s

/-- ALIVE_TIMER. -/
def execAliveTimer (s : State) : Outcome State Fault Refusal :=
  if s.still then next s s else
  if allFree s then next s s else next s (sendVote s (leaderDev s) (mkPayload s 0 0 0) .vote)

/-- SILENCE_TIMEOUT: the leader finds a member silent; every ring it collects is to be discarded with TIMEOUT. -/
def execSilenceTimeout (member : Nat) (s : State) : Outcome State Fault Refusal :=
  if s.still then next s s else
  if isLeader s ∧ allFree s = false ∧ (membersOf s).contains member then
    next s ((s.ring.leads.map LeadRec.ring).foldl (fun s r =>
      match leadFind s r with
      | some l => if l.state = 1 then leadDecide (leadPut s (l.blame ⟨10, member, 0, 0⟩)) r else s
      | none => s) s)
  else next s s

/-- OUTCOME_TIMEOUT: a ring whose vote was sent 2T ago is resolved. -/
def execOutcomeTimeout (ring : Nat) (s : State) : Outcome State Fault Refusal :=
  if s.still then next s s else
  match slotOfRing s ring with
  | some sl =>
    if undecidedState (slotState s sl) ∧ ((slotOf s sl).voted.isSome ∨ (slotOf s sl).doomSent) then
      next s (memberResolve s ring)
    else next s s
  | none => next s s

/-- RESOLVE_RETRY: an undecided resolve starts again at H1. -/
def execResolveRetry (ring : Nat) (lead : Bool) (s : State) : Outcome State Fault Refusal :=
  if s.still then next s s else
  match findResolve s ring lead with
  | some r =>
    if r.phase = 2 then
      let r := { r with phase := 0, atH2 := false, v1 := none }
      next s (sendClaim (putResolve s r) r r.prop)
    else next s s
  | none => next s s

/-- CLAIM_RESEND: a CLAIM that completed without its record is sent again. -/
def execClaimResend (ring : Nat) (lead : Bool) (s : State) : Outcome State Fault Refusal :=
  if s.still then next s s else
  match findResolve s ring lead with
  | some r =>
    if r.phase = 1 then
      let r := { r with phase := 0 }
      next s (sendClaim (putResolve s r) r (currentClaim s r))
    else next s s
  | none => next s s

/-- RECOVER_RESOLVE: after the fabric join that follows a warm reset. -/
def execRecoverResolve (s : State) : Outcome State Fault Refusal :=
  if s.still then next s s else
  if s.ring.recovering = 1 ∧ s.test RIDE_DEVICE fldRIDE_DEVICE_JOINED then
    let t := s.modRing fun k => { k with recovering := 2 }
    let t := [Slot.older, Slot.newer].foldl (fun t sl =>
      if slotState t sl = 6 then memberResolve t (slotRing t sl) else t) t
    next s (recoverCheck t)
  else next s s

/-- A write of RING_NEXT (R203). -/
def ringNextOp (s : State) (v : Word) : State :=
  if allFree s ∧ s.ring.highest < v.toNat then s.setReg RING_NEXT v else s

/-- A write of RING_GSTEP (Table 8.18). -/
def ringGstepOp (s : State) (v : Word) : State := if allFree s then s.setReg RING_GSTEP v else s

/-- RING_NEXT_WRITE. -/
def execRingNextWrite (v : Word) (s : State) : Outcome State Fault Refusal := if s.still then next s s else next s (ringNextOp s v)
/-- RING_GSTEP_WRITE. -/
def execRingGstepWrite (v : Word) (s : State) : Outcome State Fault Refusal := if s.still then next s s else next s (ringGstepOp s v)

end Sys2Proof.Machine
end

