-- ==== Sys2Proof/Machine/Forester.lean ====
section
/-! DEFINITION. Forester: task slots, energy credit, the thermal model, decisions, throttling, Hold and the periodic activities
(R340 to R362). Powers are in 1/16 W, credits in 1/16 µJ, temperatures in 1/16 °C, clocks in steps of 100 MHz. -/
namespace Sys2Proof.Machine
open Host

/-- Forester changed. -/
def State.modFor (s : State) (f : ForSt → ForSt) : State := { s with forr := f s.forr }

/-- A quantity in units of 1/n shown in whole units. -/
def showIn (x n : Nat) : Nat := x / n + (if x % n ≠ 0 ∧ Config.showUp x n then 1 else 0)

/-- A quadrant of four. -/
def quad4 (q : Nat) : Fin 4 := Fin.ofNat 4 q

/-- The logical cores of a quadrant, ascending. -/
def quadCores (s : State) (q : Nat) : List CoreId := allCores.filter fun (c : CoreId) => quadOf s c == q

/-! ### Charges (R347) -/

/-- A class power at a clock: P × (f / 2.4 GHz)², in 1/16 W. -/
def classAt (s : State) (e f : Nat) : Nat :=
  let n := s.fld (FOR_CLASS e) fldFOR_CLASS_POWER * f * f
  n / 576 + (if n % 576 ≠ 0 ∧ Config.chargeUp n then 1 else 0)

/-- Whether a core holds a task. -/
def busy (s : State) (c : CoreId) : Bool := s.test (FOR_CORE c) fldFOR_CORE_BUSY

/-- The task dispatched to a core. -/
def taskOn (s : State) (c : CoreId) : Option ForTask := s.forr.tasks.find? fun t => t.core == some c.val

/-- The energy class of a task. -/
def ForTask.cls (t : ForTask) : Nat := bitsOf t.word 59 57
/-- The priority of a task. -/
def ForTask.prio (t : ForTask) : Nat := bitsOf t.word 63 60

/-- What a core is charged now. -/
def charge (s : State) (c : CoreId) : Nat :=
  if isStopped s c ∨ s.test (FOR_CORE c) fldFOR_CORE_EN = false ∨ 3 ≤ coreDomain s c then 0
  else if inHold s c then s.fld (FOR_CLASS 9) fldFOR_CLASS_POWER
  else
    match taskOn s c with
    | some t => classAt s t.cls (coreFreq s c)
    | none => s.fld (FOR_CLASS 8) fldFOR_CLASS_POWER

/-- D_q: the charges of a quadrant. -/
def draw (s : State) (q : Nat) : Nat := ((quadCores s q).map (charge s)).foldl (· + ·) 0

/-- A_q: the allotment of a quadrant, in effect since the last tick (R348). -/
def allot (s : State) (q : Nat) : Nat := s.fld (FOR_Q q) fldFOR_Q_ALLOT

/-- C_q. -/
def credit (s : State) (q : Nat) : Nat := s.forr.credit.get (quad4 q)

/-- CAP. -/
def creditCap (s : State) : Nat := 16 * s.fld FOR_CREDIT_CFG fldFOR_CREDIT_CFG_CAP

/-- Whether catch-up holds (R358). -/
def catchup (s : State) : Bool := s.test FOR_STATUS fldFOR_STATUS_CATCHUP

/-- The cap on the clock of a quadrant's cores: the least of FCAP_q, FMAX under HEAT, and 2.4 GHz (R354). -/
def clockCap (s : State) (q : Nat) : Nat :=
  let f := min (s.fld (FOR_QT q) fldFOR_QT_FCAP) 24
  if s.test FOR_THERM fldFOR_THERM_HEAT then min f (s.fld FOR_THERM fldFOR_THERM_FMAX) else f

/-! ### Dispatch (R341 to R346, R351, R352) -/

/-- Whether a post word is refused (R342). -/
def postRefused (s : State) (w : Nat) : Bool :=
  let qm := bitsOf w 50 47
  let c := bitsOf w 46 41
  qm == 0 || (decide (48 ≤ c) && decide (c ≤ 62)) || (decide (c < 48) && !bitOf qm (quadOf s c)) || bitsOf w 40 38 != 0

/-- A slot number free to take a post: which one is free (assumption 17). -/
def freeSlotNo (s : State) : Nat × State :=
  let free := (List.range 1024).filter fun i => !s.forr.tasks.any fun t => t.slot == i
  let (n, s) := s.free
  (free.getD (n % free.length) 0, s)

/-- Whether a core takes tasks now (R344). -/
def takesTasks (s : State) (c : CoreId) : Bool :=
  s.test (FOR_CORE c) fldFOR_CORE_EN && !busy s c && !isStopped s c && !s.test CAN_STATUS fldCAN_STATUS_PENDING

/-- Dispatch of a task to a core (R344). -/
def dispatch (s : State) (t : ForTask) (c : CoreId) : State :=
  let w := BitVec.ofNat 64 t.word
  let s := s.modFor fun f =>
    { f with tasks := f.tasks.map fun u => if u.post = t.post then { u with core := some c.val, passed := [] } else u,
             blocker := f.blocker.map fun b => if b = some t.post then none else b }
  let s := s.setBit (FOR_CORE c) fldFOR_CORE_BUSY true
  let s := s.setFld (FOR_CORE c) fldFOR_CORE_SLOT t.slot
  let s := s.setFld (FOR_CORE c) fldFOR_CORE_DESC (t.word % 2 ^ 38)
  let s := s.setFld (RING_CORE_SUB c) fldRING_CORE_SUB_SUB (bitsOf w.toNat 56 51)
  let s := count s FOR_DISPATCHES 1
  let s := serveRails (requestClock s c (clockCap s (quadOf s c)))
  raiseInt s c 17

/-- Whether a task of a class fits on a core: energy with the credit it may spend, and heat (R351). A HORIZON of 0 puts no bound on the
energy beyond the credit: both sides lose their allotment (DEDUCED, assumption 112). -/
def fits (s : State) (e : Nat) (c : CoreId) : Bool :=
  let q := quadOf s c
  let p := charge s c
  let pe := classAt s e (clockCap s q)
  let avail := if catchup s then credit s q else credit s q - 16 * s.fld FOR_CREDIT_CFG fldFOR_CREDIT_CFG_RESERVE
  let hz := s.fld FOR_CFG fldFOR_CFG_HORIZON
  let t := s.forr.temp.get (quad4 q) + Config.rth q * (((pe : Int) - p : Int) : Rat)
  decide ((draw s q - p + pe) * hz ≤ allot s q * hz + avail) && decide (t ≤ (s.fld FOR_THERM fldFOR_THERM_TLIM : Rat))

/-- Whether one READY task goes before another: higher priority, then older post. -/
def ForTask.before (a b : ForTask) : Bool := decide (b.prio < a.prio) || (a.prio == b.prio && decide (a.post ≤ b.post))

/-- The READY tasks that may run on a core, in the order of R351. -/
def readyFor (s : State) (c : CoreId) : List ForTask :=
  let q := quadOf s c
  (s.forr.tasks.filter fun t => t.core.isNone && bitOf (bitsOf t.word 50 47) q &&
    (bitsOf t.word 46 41 == 63 || bitsOf t.word 46 41 == c.val)).mergeSort ForTask.before

/-- The blocker of a quadrant, as a task (R352). -/
def blockerOf (s : State) (q : Nat) : Option ForTask :=
  match s.forr.blocker.get (quad4 q) with
  | some p => s.forr.tasks.find? fun t => t.post == p && t.core.isNone
  | none => none

/-- One free core's part of a decision: the tasks in order, dispatched or passed over; the passed posts are returned. -/
def decideCore (s : State) (c : CoreId) : List ForTask → State × List Nat
  | [] => (s, [])
  | t :: ts =>
    if (blockerOf s (quadOf s c)).any fun b => decide (t.prio < b.prio) then (s, [])
    else if fits s t.cls c then (dispatch s t c, [])
    else
      let (s, l) := decideCore s c ts
      (s, t.post :: l)

/-- What a decision leaves behind in a quadrant: tasks passed over at it keep the time of their first pass, others lose it, and a
task passed over for STARVE µs becomes the blocker where none stands (R352). -/
def notePassed (s : State) (q : Nat) (l : List Nat) : State :=
  let now := refTime s
  let s := s.modFor fun f =>
    { f with tasks := f.tasks.map fun t =>
        if l.contains t.post then
          if t.passed.any fun p => p.1 == q then t else { t with passed := (q, now) :: t.passed }
        else { t with passed := t.passed.filter fun p => p.1 != q } }
  if (blockerOf s q).isSome then s
  else
    let starved := s.forr.tasks.filter fun t => t.core.isNone &&
      t.passed.any fun p => p.1 == q && decide (p.2 + 100 * s.fld FOR_CFG fldFOR_CFG_STARVE ≤ now)
    s.modFor fun f => { f with blocker := f.blocker.set (quad4 q) ((starved.mergeSort ForTask.before).head?.map ForTask.post) }

/-- A decision (R351). -/
def decision (s : State) : State :=
  (List.range 4).foldl (fun s q =>
    let (s, l) := (quadCores s q).foldl (fun (acc : State × List Nat) (c : CoreId) =>
      if takesTasks acc.1 c then
        let (s, l) := decideCore acc.1 c (readyFor acc.1 c)
        (s, acc.2 ++ l)
      else acc) (s, [])
    notePassed s q l) s

/-- A post accepted into a slot. -/
def acceptPost (s : State) (v : Word) : State :=
  let (n, s) := freeSlotNo s
  decision (s.modFor fun f =>
    { f with tasks := f.tasks ++ [{ slot := n, post := f.nextPost, word := v.toNat, core := none, passed := [] }],
             nextPost := (f.nextPost + 1) % 2 ^ 64 })

/-- A store of a post word to FOR_POST: refused, accepted, or waiting for a slot (R341, R342). -/
def postOp (s : State) (v : Word) : State :=
  if postRefused s v.toNat then (s.setBit FOR_STATUS fldFOR_STATUS_ERRV true).setFld FOR_STATUS fldFOR_STATUS_ERRCODE 1
  else if 1024 ≤ s.forr.tasks.length ∨ s.forr.waiting ≠ [] then s.modFor fun f => { f with waiting := f.waiting ++ [v] }
  else acceptPost s v

/-- POST. -/
def execPost (v : Word) (s : State) : Outcome State Fault Refusal := if s.still then next s s else next s (postOp s v)

/-- POST_ACCEPT: the oldest waiting post takes a slot that has freed. -/
def execPostAccept (s : State) : Outcome State Fault Refusal :=
  if s.still then next s s else
  match s.forr.waiting with
  | v :: ws => if s.forr.tasks.length < 1024 then next s (acceptPost (s.modFor fun f => { f with waiting := ws }) v) else next s s
  | [] => next s s

/-- A write of DONE frees the slot of a core's task; a decision follows (R345, Table 13.6). -/
def taskDone (s : State) (c : CoreId) : State :=
  if busy s c then
    decision ((s.modFor fun f => { f with tasks := f.tasks.filter fun t => t.core != some c.val }).setBit
      (FOR_CORE c) fldFOR_CORE_BUSY false)
  else s

/-- TASK_DONE. -/
def execTaskDone (c : CoreId) (s : State) : Outcome State Fault Refusal := if s.still then next s s else next s (taskDone s c)

/-- A write of FOR_CANCEL (R346). -/
def cancelOp (s : State) (v : Word) : State :=
  let hit := fun (t : ForTask) => t.core.isNone &&
    (!fldFOR_CANCEL_MODE.test v || bitsOf t.word 56 51 == fldFOR_CANCEL_SUB.get v)
  let gone := (s.forr.tasks.filter hit).map ForTask.post
  s.modFor fun f =>
    { f with tasks := f.tasks.filter fun t => !hit t,
             blocker := f.blocker.map fun b => if b.any fun p => gone.contains p then none else b }

/-- CANCEL. -/
def execCancel (v : Word) (s : State) : Outcome State Fault Refusal := if s.still then next s s else next s (cancelOp s v)

/-! ### The tick (R348 to R350) -/

/-- A_q as WATTS and UNCORE give it. -/
def allotNew (s : State) : Nat := 4 * (s.fld FOR_BUDGET fldFOR_BUDGET_WATTS - s.fld FOR_CFG fldFOR_CFG_UNCORE)

/-- The credits of the next tick, from the credits, the allotment and the draws (R349). -/
def creditTick (cap a : Nat) (c d : Vector Nat 4) : Vector Nat 4 :=
  let c := Vector.ofFn fun (q : Fin 4) => c.get q + a - d.get q
  let excess := (c.toList.map fun x => x - cap).foldl (· + ·) 0
  let c := c.map fun x => min x cap
  let n := c.toList.countP fun x => decide (x < cap)
  c.map fun x => if x < cap then min cap (x + excess / n) else x

/-- The predicted temperatures of the next tick (R350). -/
def tempTick (s : State) (d : Vector Nat 4) : Vector Rat 4 :=
  Vector.ofFn fun (q : Fin 4) =>
    let t := s.forr.temp.get q
    let heat : Rat := ((d.get q + 4 * s.fld FOR_CFG fldFOR_CFG_UNCORE : Nat) : Rat)
    t + ((s.fld FOR_INLET fldFOR_INLET_TEMP : Nat) + Config.rth q.val * heat - t) / Config.tau q.val

/-- FORESTER_TICK. -/
def execForesterTick (s : State) : Outcome State Fault Refusal :=
  if s.still then next s s else
  let a := allotNew s
  let t := (List.range 4).foldl (fun s q => s.setFld (FOR_Q q) fldFOR_Q_ALLOT a) s
  let d : Vector Nat 4 := Vector.ofFn fun (q : Fin 4) => draw t q.val
  let t := t.modFor fun f => { f with credit := creditTick (creditCap t) a f.credit d, temp := tempTick t d }
  if t.forr.tasks.any fun u => u.core.isNone then next s (decision t) else next s t

/-- SENSOR_READING (R350); Forester takes it where its clock runs. -/
def execSensorReading (q : Fin 4) (t : Nat) (s : State) : Outcome State Fault Refusal :=
  let s' := if s.still then s else s.modFor fun f => { f with temp := f.temp.set q (t : Rat) }
  next s { s' with modu := { s'.modu with sensors := (q.val, t) :: s'.modu.sensors.filter fun e => e.1 != q.val } }

/-! ### Throttling (R353, R354, R443) -/

/-- The cores of a quadrant that run a task. -/
def taskCores (s : State) (q : Nat) : List CoreId := (quadCores s q).filter (busy s)

/-- One quadrant's cap adjusted. -/
def fcapAdjust (s : State) (q : Nat) : State :=
  let f := s.fld (FOR_QT q) fldFOR_QT_FCAP
  let t := s.forr.temp.get (quad4 q)
  let lim : Rat := ((s.fld FOR_THERM fldFOR_THERM_TLIM : Nat) : Rat)
  let f' := if (credit s q = 0 ∧ allot s q < draw s q) ∨ lim < t then max 6 (f - 1)
    else if creditCap s ≤ 2 * credit s q ∧ t ≤ lim - 32 then min 24 (f + 1)
    else f
  let start := decide (f = 24) && decide (f' < 24)
  let s := s.setFld (FOR_QT q) fldFOR_QT_FCAP f'
  let s := if start then
      (taskCores s q).foldl (fun s (c : CoreId) => raiseInt s c 24)
        (count (s.setBit (FOR_QT q) fldFOR_QT_THROTTLE true) FOR_THROTTLES 1)
    else if f' = 24 then s.setBit (FOR_QT q) fldFOR_QT_THROTTLE false
    else s
  serveRails ((taskCores s q).foldl (fun s (c : CoreId) => requestClock s c (clockCap s q)) s)

/-- FCAP_ADJUST. -/
def execFcapAdjust (s : State) : Outcome State Fault Refusal := if s.still then next s s else next s ((List.range 4).foldl fcapAdjust s)

/-- Every core is asked for the clock its caps allow: no core runs above them. -/
def applyCaps (s : State) : State :=
  serveRails (allCores.foldl (fun s (c : CoreId) => requestClock s c (clockCap s (quadOf s c))) s)

/-- HEAT_IN_ASSERT. -/
def execHeatInAssert (s : State) : Outcome State Fault Refusal :=
  if s.pwr.heatIn then next s s
  else
    let p := s.modPwr fun p => { p with heatIn := true }
    let t := p.setBit FOR_THERM fldFOR_THERM_HEAT true
    if s.still then next s p else next s (applyCaps (allCores.foldl (fun t (c : CoreId) => raiseInt t c 24) t))

/-- HEAT_IN_RELEASE. -/
def execHeatInRelease (s : State) : Outcome State Fault Refusal :=
  if s.pwr.heatIn then
    let p := s.modPwr fun p => { p with heatIn := false }
    if s.still then next s p else next s (applyCaps (p.setBit FOR_THERM fldFOR_THERM_HEAT false))
  else next s s

/-! ### Hold (R355, R356) -/

/-- Whether a core's cycles are idle (R355). -/
def coreIdle (s : State) (c : CoreId) : Bool :=
  let k := s.core c
  (match k.wait with
    | .wfi => true
    | .bwait _ _ _ _ _ none => true
    | _ => false) &&
    k.tileQ.isEmpty && k.vecQ.isEmpty && s.fld (TILE_RAMP c) fldTILE_RAMP_LEVEL == 0 && k.mbuf.isEmpty && !qwOpen s c &&
    !isStopped s c

/-- HOLD_ENTRY. An interrupt that is pending and enabled already, for a BWAIT with IE clear, keeps no core from Hold. -/
def execHoldEntry (c : CoreId) (s : State) : Outcome State Fault Refusal :=
  if s.still then next s s else
  if coreIdle s c ∧ inHold s c = false then
    let t := s.modCore c fun k => { k with held := enabledPending s c }
    next s (count (t.setBit (FOR_CORE c) fldFOR_CORE_HOLD true) FOR_HOLDS 1)
  else next s s

/-- The wake source of a core in Hold, by Table 14.6, the lower code first: an enabled interrupt that has become pending since its
entry, or a MACHINE_CHECK attributed to it; its BWAIT's outcome; a stop request (R356). -/
def holdWakeSource (s : State) (c : CoreId) : Option Nat :=
  if enabledPending s c &&& ~~~ (s.core c).held ≠ 0 ∨ (s.core c).mcDue ≠ [] then some 8
  else
    match (s.core c).wait with
    | .bwait _ _ _ _ _ (some _) => some 9
    | _ => if (s.core c).stopReq = 0 then none else some 10

/-- HOLD_WAKE. -/
def execHoldWake (c : CoreId) (s : State) : Outcome State Fault Refusal :=
  if s.still then next s s else
  if inHold s c then
    match holdWakeSource s c with
    | some w =>
      next s (wfiCheck ((s.setBit (FOR_CORE c) fldFOR_CORE_HOLD false).setFld (PWR_CORE c) fldPWR_CORE_WSRC w) c)
    | none => next s s
  else next s s

/-! ### Periodic activities (R357 to R359) -/

/-- An activity. -/
def actOf (s : State) (k : Fin 4) : ForActSt := s.forr.acts.get k

/-- An activity replaced. -/
def setAct (s : State) (k : Fin 4) (a : ForActSt) : State := s.modFor fun f => { f with acts := f.acts.set k a }

/-- The period of an activity, in REFCLK_CORE cycles. -/
def actPeriod (s : State) (k : Fin 4) : Nat := 1000 * s.fld (FOR_ACT k) fldFOR_ACT_PERIOD

/-- A write of FOR_ACT: its fields, and S with EN = 1 (R358, Table 13.19). An instance that runs keeps its own nominal end. -/
def forActWrite (s : State) (k : Fin 4) (v : Word) : State :=
  let a := FOR_ACT k
  let md := fldFOR_ACT_MAXDEFER.get v
  let p := fldFOR_ACT_PERIOD.get v
  let s := if md = 0 then s else s.setFld a fldFOR_ACT_MAXDEFER md
  let s := if p = 0 then s else s.setFld a fldFOR_ACT_PERIOD p
  let en := fldFOR_ACT_EN.test v
  let s := s.setBit a fldFOR_ACT_EN en
  if en then setAct s k { actOf s k with nominal := refTime s, due := refTime s } else s

/-- FOR_ACT_WRITE. -/
def execForActWrite (k : Fin 4) (v : Word) (s : State) : Outcome State Fault Refusal := if s.still then next s s else next s (forActWrite s k v)

/-- Whether a register is one of the device's counters: a 48-bit COUNT with its OVF. -/
def isCounter (a : Nat) : Bool :=
  match regRowAt a with
  | some r => (r.flds.any fun f => f.fld == ⟨47, 0⟩) && r.flds.any fun f => f.fld == ⟨63, 63⟩ && f.acc == .w1c
  | none => false

/-- The device counters sampled into the telemetry record (Table 13.4). -/
def telemSample (s : State) : State :=
  { s with wdn := { s.wdn with telemTime := refTime s, telem := s.regs.filter fun e => isCounter e.1 } }

/-- What an instance starts by (Table 13.4). -/
def actBegin (s : State) (k : Fin 4) : State :=
  if k = 0 then postOp s (s.reg FOR_CAD_POST)
  else if k = 2 then telemSample s
  else if k = 3 then s.setBit AGE_STATUS fldAGE_STATUS_BUSY true
  else s

/-- An instance runs from now, with its nominal end and its target, where the next falls due at the earliest; `fresh` restarts the
schedule at its start (R358, R359). -/
def actRun (s : State) (k : Fin 4) (fresh : Bool) : State :=
  let a := actOf s k
  let now := refTime s
  let p := actPeriod s k
  let e := (if fresh then now else a.nominal) + p
  let s := setAct s k { a with
    running := true, start := now, nominal := e, ends := e, due := max (now + p * 3 / 4) e,
    ring0 := s.ring.highest, opened0 := s.ring.opened }
  actBegin (s.setFld (FOR_ACT_STATE k) fldFOR_ACT_STATE_DEFERRED 0) k

/-- ACTIVITY_START: an instance falls due; it starts, or is deferred during catch-up, or runs merged, at the end of catch-up or after
MAXDEFER deferrals (R358, R359). -/
def execActivityStart (k : Fin 4) (s : State) : Outcome State Fault Refusal :=
  if s.still then next s s else
  let a := actOf s k
  let d := s.fld (FOR_ACT_STATE k) fldFOR_ACT_STATE_DEFERRED
  let defer := catchup s && s.test (FOR_ACT k) fldFOR_ACT_DEFER
  let due := decide (a.due ≤ refTime s) || (d != 0 && !defer)
  if s.test (FOR_ACT k) fldFOR_ACT_EN = false ∨ a.running ∨ due = false then next s s
  else
    if defer then
      let t := countSat (count s FOR_DEFERS 1) (FOR_ACT_STATE k) fldFOR_ACT_STATE_DEFERRED 1
      let p := actPeriod t k
      if t.fld (FOR_ACT k) fldFOR_ACT_MAXDEFER ≤ d + 1 then next s (actRun t k true)
      else next s (setAct t k { a with nominal := a.nominal + p, due := a.due + p })
    else next s (actRun s k (d != 0))

/-- The rings whose outcome is open and that were opened after an instance started. -/
def openedSince (s : State) (r : Nat) : Nat :=
  [Slot.newer, Slot.older].countP fun sl => undecidedState (slotState s sl) && decide (r < slotRing s sl)

/-- One stack's part of a scrub instance: its granules due at the instance's start (R280). A pass that ends starts the counts of
R277 and R279 anew. -/
def scrubStack (start : Nat) (s : State) (st : Fin 12) : State :=
  let done := fun (s : State) (t : Nat) => s.modFor fun f => { f with scrubAt := f.scrubAt.set st t }
  if s.test (STK_SCRUB st) fldSTK_SCRUB_EN = false then done s start
  else
    let h := s.fld (STK_SCRUB st) fldSTK_SCRUB_HOURS * 360000000000
    let n := (start - s.forr.scrubAt.get st) * 786432 / h
    let pos := s.fld (STK_SCRUB_STATUS st) fldSTK_SCRUB_STATUS_POS + n
    let s := s.setFld (STK_SCRUB_STATUS st) fldSTK_SCRUB_STATUS_POS (pos % 786432)
    let s := done s (s.forr.scrubAt.get st + (n * h + 786431) / 786432)
    if pos / 786432 = 0 then s
    else
      let s := countSat s (STK_SCRUB_STATUS st) fldSTK_SCRUB_STATUS_PASSES (pos / 786432)
      s.modMem fun m =>
        { m with dieErr := mapDropRange m.dieErr (st * 32) (st * 32 + 32),
                 rowErr := mapDropRange m.rowErr (st * 32 * 48 * 32768) ((st + 1) * 32 * 48 * 32768),
                 colErr := mapDropRange m.colErr (st * 32 * 48 * 1024) ((st + 1) * 32 * 48 * 1024) }

/-- The readings of ageing monitors stored (R381). -/
def storeMon (s : State) (l : List MonRead) : State :=
  l.foldl (fun s r => s.setFld (AGE_MON r.core r.mon) fldAGE_MON_READING r.value) s

/-- What an instance's end leaves besides its schedule. -/
def actFinish (s : State) (k : Fin 4) (start : Nat) (mon : List MonRead) : State :=
  if k = 1 then (List.finRange 12).foldl (scrubStack start) s
  else if k = 3 then (storeMon s mon).setBit AGE_STATUS fldAGE_STATUS_BUSY false
  else s

/-- ACTIVITY_END: an instance of the ring cadence ends once a ring opened after its start is decided; the others end as the
event says. Its lag and catch-up follow (R358). -/
def execActivityEnd (k : Fin 4) (mon : List MonRead) (s : State) : Outcome State Fault Refusal :=
  if s.still then next s s else
  let a := actOf s k
  if a.running = false ∨ (k = 0 ∧ s.ring.opened - a.opened0 ≤ openedSince s a.ring0) then next s s
  else
    let now := refTime s
    let lag := now - a.ends
    let t := actFinish s k a.start mon
    let t := t.setFld (FOR_ACT_STATE k) fldFOR_ACT_STATE_LAG (min (2 ^ 32 - 1) (showIn lag 1000))
    let t := if lag = 0 then t else count t FOR_LATE 1
    let t := if k = 0 then t.setBit FOR_STATUS fldFOR_STATUS_CATCHUP (lag != 0) else t
    next s (setAct t k { a with running := false, due := max now a.due })

/-! ### What the registers show -/

/-- FOR_STATUS with its live counts. -/
def forStatus (s : State) : Word :=
  fldFOR_STATUS_READY.set (s.forr.tasks.countP fun t => t.core.isNone)
    (fldFOR_STATUS_USED.set s.forr.tasks.length (s.reg FOR_STATUS))

/-- FOR_Q of a quadrant. -/
def forQ (s : State) (q : Nat) : Word :=
  fldFOR_Q_CREDIT.set (showIn (credit s q) 16) (fldFOR_Q_DRAW.set (draw s q) (s.reg (FOR_Q q)))

/-- FOR_QT of a quadrant. -/
def forQT (s : State) (q : Nat) : Word :=
  let t := s.forr.temp.get (quad4 q)
  let n := t.floor
  let shown := if n < 0 ∨ 4095 < n then Config.showOut n
    else n.toNat + (if (n : Rat) ≠ t ∧ Config.showUp n.toNat 0 then 1 else 0)
  fldFOR_QT_TPRED.set shown (s.reg (FOR_QT q))

end Sys2Proof.Machine
end

