-- ==== Sys2Proof/Machine/Power.lean ====
section
/-! DEFINITION. Core domains in Rest, what a core's reset leaves, oscillators, the thermal trip, and the margin planner
(R363 to R389). -/
namespace Sys2Proof.Machine
open Host

/-! ### A core right after reset (R30, R83, R119, R367) -/

/-- Registers of a core's block whose values a canopy or a launch set, and which a core's own reset leaves: its identity, the L1
share, the issue mode and the arrays; and CORE_REFTIME, which is the device's. -/
def coreKept (c : Nat) : List Nat := [CORE_ID c, CORE_REFTIME c, CORE_L1CFG c, CORE_ISSUE c, TILE_CFG c]

/-- NUM_MODE and VEC_RNG.MODE as the last MODES section set them (Table 15.3), at a core's reset. -/
def applyModes (s : State) (c : CoreId) : State :=
  match s.wdn.modes with
  | some (m, r) => (s.setReg (NUM_MODE c) (BitVec.ofNat 64 m)).setBit (VEC_RNG c) fldVEC_RNG_MODE r
  | none => s

/-- Each lane's generator set from the entropy source (R141; assumption 4). -/
def drawLanes (s : State) (c : CoreId) : State :=
  let s := (upFrom 0 32).foldl (fun s l => s.setReg (VEC_RNG_STATE c l) (Config.laneSeed s.entropy c l)) s
  { s with entropy := s.entropy + 1 }

/-- A core with all its state as after reset but the array, and what a canopy or a launch set (R30, R404). -/
def coreReset (s : State) (c : CoreId) : State :=
  let lo := CORE_ID c
  let s : State := { s with regs := s.regs.filter fun e =>
    !(decide (lo ≤ e.1) && decide (e.1 < lo + 0x10000)) || (coreKept c).contains e.1 }
  let s := s.setFld (CORE_L1CFG c) fldCORE_L1CFG_DEFHINT 0
  let s := drawLanes s c
  applyModes (s.setCore c { CoreSt.reset with sealKey := (s.core c).sealKey }) c

/-- The local address of offset `x` in a core's own array (R32). -/
def coreLocal (c : Nat) (x : Nat) : Nat := windowBase + c * 0x1000000 + x

/-- The Warden releases a core at vector 0, with state as after reset (R30). -/
def releaseCore (s : State) (c : CoreId) : State :=
  let s := coreReset (drainMerge s c) c
  let s := s.setBit (CORE_STATUS c) fldCORE_STATUS_STOPPED false
  let s := s.setFld (CORE_STOPINFO c) fldCORE_STOPINFO_REASON 0
  let s := s.setBit (FOR_CORE c) fldFOR_CORE_HOLD false
  s.modCore c fun k => { k with pc := BitVec.ofNat 64 (coreLocal c 0) }

/-! ### Rest of a core domain (R364) -/

/-- The cores of a core's Rest group (Table 15.3). -/
def restGroup (s : State) (c : CoreId) : List CoreId :=
  allCores.filter fun (d : CoreId) => s.pwr.restGroup.get d == s.pwr.restGroup.get c

/-- Whether a core's channels have drained: no miss, no buffered store and no store of its own waits (R19, R367 step 2). -/
def coreQuiet (s : State) (c : CoreId) : Bool :=
  missInUse s c == 0 && (s.core c).mbuf.isEmpty && !storesWait s c

/-- A domain asked to rest is powered down once its channels have drained. -/
def restTry (s : State) (c : CoreId) : State :=
  if s.test (PWR_CORE c) fldPWR_CORE_REST ∧ s.fld (PWR_CORE c) fldPWR_CORE_STATE < 3 ∧ coreQuiet s c then
    s.setFld (PWR_CORE c) fldPWR_CORE_STATE 3
  else s

/-- A write of 1 to PWR_CORE.REST, for the whole group where every member meets its conditions: each drains its merging buffer and
is powered down once its channels have drained (R364, R367). -/
def restOn (s : State) (c : CoreId) : State :=
  let g := restGroup s c
  if g.all fun (d : CoreId) => isStopped s d && !s.test (FOR_CORE d) fldFOR_CORE_EN && decide (coreDomain s d ≠ 4) then
    g.foldl (fun s (d : CoreId) => restTry (drainMerge (s.setBit (PWR_CORE d) fldPWR_CORE_REST true) d) d) s
  else s

/-- A write of 0 to PWR_CORE.REST wakes the domains of the group that are in Rest; they take their reset values. A domain that has
not gone down yet stays up. -/
def restOff (s : State) (c : CoreId) : State :=
  (restGroup s c).foldl (fun s (d : CoreId) =>
    let down := s.fld (PWR_CORE d) fldPWR_CORE_STATE == 3
    let s := s.setBit (PWR_CORE d) fldPWR_CORE_REST false
    if down then ((coreReset s d).setFld (PWR_CORE d) fldPWR_CORE_STATE 0).setFld (PWR_CORE d) fldPWR_CORE_WSRC 11
    else s) s

/-- CORE_REST. -/
def execCoreRest (c : CoreId) (s : State) : Outcome State Fault Refusal := if s.still then next s s else next s (restOn s c)
/-- CORE_REST_WAKE. -/
def execCoreRestWake (c : CoreId) (s : State) : Outcome State Fault Refusal := if s.still then next s s else next s (restOff s c)

/-! ### Thermal trip (R372) -/

/-- THERMAL_TRIP: a junction sensor reads 115 °C or more. A pending launch is lost, and the pending LL values with it (Table 15.5). -/
def execThermalTrip (q : Fin 4) (t : Nat) (s : State) : Outcome State Fault Refusal :=
  if s.modu.poresetLow then next s s else
  if 1840 ≤ t then
    let s' := s.modPwr fun p => { p with thermtrip := true, trip := some (q.val, t) }
    let s' := s'.setBit PWR_STATE fldPWR_STATE_TRIPPED true
    next s { s'.setBit CAN_STATUS fldCAN_STATUS_PENDING false with ll := [], wdn := { s'.wdn with launch := none } }
  else next s s

/-! ### Rails and clocks (R374 to R380) -/

/-- AVS_FRAME. -/
def execAvsFrame (m : Fin 2) (ok vdone : Bool) (s : State) : Outcome State Fault Refusal := if s.modu.poresetLow then next s s else next s (avsFrame s m ok vdone)
/-- RAIL_ACK. -/
def execRailAck (k : Fin 5) (s : State) : Outcome State Fault Refusal := if s.modu.poresetLow then next s s else next s (railAck s k)
/-- AVS_TIMEOUT. -/
def execAvsTimeout (k : Fin 5) (s : State) : Outcome State Fault Refusal := if s.modu.poresetLow then next s s else next s (avsTimeout s k)
/-- CLOCK_STEP. -/
def execClockStep (c : CoreId) (s : State) : Outcome State Fault Refusal := if s.still then next s s else next s (clockStep s c)

/-- The oscillators that run: of the core domains that are up, and of the other islands (Table 1.2) whose domains are. -/
def oscillators (s : State) : Nat :=
  let up := fun i => if domainUp s i then 1 else 0
  allCores.countP (fun (c : CoreId) => decide (coreDomain s c < 3)) +
    ((upFrom 4 8 ++ [12, 16, 20, 24, 29] ++ upFrom 32 12).map up).foldl (· + ·) 0 + 1

/-- OSC_CALIBRATION. -/
def execOscCalibration (s : State) : Outcome State Fault Refusal := if s.still then next s s else next s (count s PWR_OSC_CAL (oscillators s))

/-! ### The margin planner (R381 to R385) -/

/-- The least multiple of 5 not below a quantity and not negative. -/
def roundup5 (r : Rat) : Nat := if r ≤ 0 then 0 else 5 * (r / 5).ceil.toNat

/-- A quantity in mV as a register shows it. -/
def showMv (r : Rat) : Nat :=
  let n := r.floor
  if n < 0 ∨ 65535 < n then Config.showOut n else n.toNat + (if (n : Rat) ≠ r ∧ Config.showUp n.toNat 0 then 1 else 0)

/-- The latest reading of a monitor. -/
def monitor (s : State) (c : CoreId) (m : Nat) : Rat := ((s.fld (AGE_MON c m) fldAGE_MON_READING : Nat) : Rat)

/-- drep: the largest loss of replica slack, in mV. -/
def drep (s : State) (c : CoreId) : Rat :=
  let p := physOf s c
  let d := fun m => (((Config.base p m : Nat) : Rat) - monitor s c m) / Config.sens p m
  max (max (d 4) (d 5)) (max (d 6) (d 7))

/-- The slowing of one ring oscillator, in mV. -/
def droOf (s : State) (c : CoreId) (m : Nat) : Rat :=
  let p := physOf s c
  let f0 : Rat := ((Config.base p m : Nat) : Rat)
  (f0 - monitor s c m) / f0 * 100 * Config.sens p m

/-- dro: the largest slowing of a ring oscillator, in mV. -/
def dro (s : State) (c : CoreId) : Rat := max (max (droOf s c 0) (droOf s c 1)) (max (droOf s c 2) (droOf s c 3))

/-- GUARD. -/
def guardMv (s : State) : Nat := s.fld AGE_CFG fldAGE_CFG_GUARD

/-- An island whose need of voltage exceeds VMAX goes out of service: it is stopped with reason 3, takes no task, and gives up the
one it holds (R385). -/
def failIsland (s : State) (c : CoreId) (delta v : Nat) : State :=
  let p := physOf s c
  let s := retire s 0 p 0
  let s := s.setBit (AGE_ISLAND c) fldAGE_ISLAND_RETIRE true
  let s := logFault s { mkRec 16 3 0 c with phys := p, flags := 4, addr := delta, arg := v }
  let s := s.setBit (FOR_CORE c) fldFOR_CORE_EN false
  let s : State := { s with wdn := { s.wdn with coresOut := c.val :: s.wdn.coresOut.filter (· != c.val) } }
  let s := if isStopped s c then s else s.modCore c fun k => { k with stopReq := 3 }
  taskDone s c

/-- One island planned (R383 to R385): its voltages, its delta and what follows from them. -/
def planIsland (base : Bool) (s : State) (c : CoreId) : State :=
  let p := physOf s c
  let delta := if base then 0
    else max (mapGet (fun _ => 0) s.nv.delta p) (roundup5 (max (drep s c) (dro s c)))
  let s : State := { s with nv := { s.nv with delta := mapPut (fun _ => 0) s.nv.delta p delta } }
  let v := fun f => Config.vb p f + delta + guardMv s
  let s := (upFrom 0 19).foldl (fun s i => s.setFld (AGE_VTAB c i) fldAGE_VTAB_V (v (i + 6))) s
  let s := s.setFld (AGE_ISLAND c) fldAGE_ISLAND_DREP (showMv (drep s c))
  let s := s.setFld (AGE_ISLAND c) fldAGE_ISLAND_DRO (showMv (dro s c))
  let s := s.setFld (AGE_ISLAND c) fldAGE_ISLAND_DELTA delta
  let s := s.setFld (PWR_CORE c) fldPWR_CORE_VNEED (vtab s c (coreFreq s c))
  let s := if s.fld AGE_CFG fldAGE_CFG_LIMIT < delta ∧ s.test (AGE_ISLAND c) fldAGE_ISLAND_WORN = false then
      let s := retire s 0 p 0
      let s := s.setBit (AGE_ISLAND c) fldAGE_ISLAND_WORN true
      let s := s.setBit (AGE_ISLAND c) fldAGE_ISLAND_RETIRE true
      let s := s.setBit AGE_STATUS fldAGE_STATUS_WORN true
      logFault s { mkRec 15 0 0 c with phys := p, flags := 4, addr := delta, arg := v 24 }
    else s
  if s.fld AGE_CFG fldAGE_CFG_VMAX < v 24 ∧ s.wdn.coresOut.contains c.val = false then failIsland s c delta (v 24) else s

/-- The planned VDD_SRAM, from the largest slowing of the arrays' SRAM-cell monitors. -/
def planSram (base : Bool) (s : State) : State :=
  let worst := allCores.foldl (fun (m : Rat) (c : CoreId) => max m (droOf s c 2)) 0
  let delta := if base then 0 else max s.nv.deltaSram (roundup5 worst)
  let s : State := { s with nv := { s.nv with deltaSram := delta } }
  s.setFld AGE_VSRAM fldAGE_VSRAM_V (Config.vbSram + delta + guardMv s)

/-- A run of the planner: from the baseline where the record holds no history (R384); the rails that need more are raised. -/
def planRun (s : State) : State :=
  let base := !s.nv.planned
  let s := allCores.foldl (planIsland base) s
  let s := planSram base s
  let s := s.setBit AGE_STATUS fldAGE_STATUS_BASE base
  let s := countSat s AGE_STATUS fldAGE_STATUS_PLANS 1
  let h := s.fld AGE_HOURS fldAGE_HOURS_HOURS
  let s := s.setFld AGE_HOURS fldAGE_HOURS_LASTPLAN h
  let s : State := { s with nv := { s.nv with planned := true, hours := h, lastPlan := h } }
  (upFrom 0 5).foldl (fun s k => railUpdate s k false) s

/-- Whether a measurement or plan runs. -/
def ageBusy (s : State) : Bool := s.test AGE_STATUS fldAGE_STATUS_BUSY

/-- AGE_MEASURE: every monitor is read. A measurement that a store began ends with its readings; another one under way makes
the write have no effect. -/
def execAgeMeasure (mon : List MonRead) (s : State) : Outcome State Fault Refusal :=
  if s.still then next s s else
  if s.wdn.measuring then
    let t : State := { s with wdn := { s.wdn with measuring := false } }
    next s ((storeMon t mon).setBit AGE_STATUS fldAGE_STATUS_BUSY false)
  else if ageBusy s then next s s
  else next s (storeMon s mon)

/-- AGE_PLAN. -/
def execAgePlan (s : State) : Outcome State Fault Refusal := if s.modu.poresetLow then next s s else if ageBusy s then next s s else next s (planRun s)

/-- AGE_PLAN_PERIOD: PERIOD powered hours have passed since the last plan. -/
def execAgePlanPeriod (s : State) : Outcome State Fault Refusal :=
  if s.modu.poresetLow then next s s else
  let h := s.fld AGE_HOURS fldAGE_HOURS_LASTPLAN + s.fld AGE_CFG fldAGE_CFG_PERIOD
  next s (planRun (if s.fld AGE_HOURS fldAGE_HOURS_HOURS < h then s.setFld AGE_HOURS fldAGE_HOURS_HOURS h else s))

/-- A write of AGE_CTRL (Table 14.22): the planner runs, or a measurement begins that AGE_MEASURE ends. -/
def ageCtrlWrite (s : State) (v : Word) : State :=
  if ageBusy s then s
  else
    let s := if fldAGE_CTRL_PLAN.test v then planRun s else s
    if fldAGE_CTRL_MEASURE.test v then
      { s.setBit AGE_STATUS fldAGE_STATUS_BUSY true with wdn := { s.wdn with measuring := true } }
    else s

end Sys2Proof.Machine
end

