-- ==== Sys2Proof/Machine/Rng.lean ====
section
/-! DEFINITION. The per-lane generators (R141 to R145). In free-running mode a lane's draws come in successive cycles, each of which
advances it, so that a draw has the same effect on its lane in both modes. -/
namespace Sys2Proof.Machine

/-- next_l. -/
def rngNext (l : Nat) (s : Word) : Word := s * 0xA3B195F42C6D7E05 + BitVec.ofNat 64 (2 * l + 1)

/-- output: bits [63:48]. -/
def rngOut (s : Word) : Nat := ((s ^^^ (s >>> 29)) >>> 48).toNat

/-- seed(r, h, l). -/
def rngSeed (r h : Word) (l : Nat) : Word :=
  let s := r ^^^ h.rotateLeft 17 ^^^ (BitVec.ofNat 64 l <<< 59)
  rngNext l (rngNext l (rngNext l (rngNext l s)))

/-- The states of a core's lanes. -/
def lanesOf (s : State) (c : CoreId) : List Word := (upFrom 0 32).map fun l => s.reg (VEC_RNG_STATE c l)

/-- The states of a core's lanes replaced. -/
def setLanes (s : State) (c : CoreId) (ls : List Word) : State := ls.zipIdx.foldl (fun s e => s.setReg (VEC_RNG_STATE c e.2) e.1) s

/-- A draw from lane `e mod 32`. -/
def drawLane (ls : List Word) (e : Nat) : Nat × List Word :=
  let s := ls.getD (e % 32) 0
  (rngOut s, ls.set (e % 32) (rngNext (e % 32) s))

/-- Every lane set by a seed. -/
def seedLanes (r h : Word) : List Word := (upFrom 0 32).map fun l => rngSeed r h l

/-- Ring-open seeding of a core's lanes, in draw-advanced mode alone (R143). -/
def seedRing (s : State) (c : CoreId) (r : Word) : State :=
  if s.test (VEC_RNG c) fldVEC_RNG_MODE then
    (setLanes s c (seedLanes r (s.reg (VEC_RNG_SHARD c)))).setReg (VEC_RNG_RING c) r
  else s

/-- Every lane advanced by the cycles of a time, in free-running mode (R142). -/
def freeRun (s : State) (c : CoreId) (n : Nat) : State :=
  if s.test (VEC_RNG c) fldVEC_RNG_MODE then s
  else setLanes s c ((lanesOf s c).zipIdx.map fun e => Nat.repeat (rngNext e.2) n e.1)

end Sys2Proof.Machine
end

