-- ==== Sys2Proof/Machine/CoreStop.lean ====
section
/-! DEFINITION. Abandoned vector and tile instructions and a core's stop (R41, R42, R97, R104, R133). -/
namespace Sys2Proof.Machine

/-! ### Vector instructions that an interrupt or a stop abandons (R133) -/

/-- The registers of a core's block that a vector or update instruction, or a scalar one after it, writes. -/
def vecWordAt (c : CoreId) : List Nat :=
  [CORE_FSTAT c, NUM_FLAGS c, NUM_VEC_SAT c, NUM_VEC_FLUSH c, NUM_UPD_SAT c, NUM_UPD_FLUSH c, VEC_VL c, VEC_STATUS c, VEC_BUSY c,
    VEC_MISALIGN c, VEC_RESUME c]

/-- A byte of an array as it stood before a store. -/
def undoByte (s : State) (e : Nat × Option Byte) : State :=
  s.modMem fun m => { m with arr := match e.2 with
    | some b => mapInsert m.arr e.1 b
    | none => mapErase m.arr e.1 }

/-- An interrupt or a stop is taken at the oldest unretired vector instruction: every later instruction is undone, and so is a whole one
that is the oldest; a resumable one keeps its progress in VPROG (R131, R133). -/
def restoreVec (s : State) (c : CoreId) : State :=
  match (s.core c).vecQ with
  | [] => s
  | op :: later =>
    let s := ((later.reverse.flatMap VecOp.undo) ++ op.undo).foldl undoByte s
    let s := s.modCore c fun k =>
      { k with pc := op.pc, x := op.x, f := op.f, v := op.v, m := op.m, mbuf := op.mbuf, vecQ := [] }
    let s := op.words.foldl (fun s e => s.setReg e.1 e.2) s
    let s := match (if op.whole then op :: later else later).findSome? VecOp.lanes with
      | some ls => setLanes s c ls
      | none => s
    s.setFld (VEC_VPROG c) fldVEC_VPROG_DONE op.done

/-- The generators as VEC_RNG_STATE shows them: as they stood before the oldest unretired instruction that draws (Table 5.16). -/
def rngShown (k : CoreSt) : Option (List Word) :=
  (k.vecQ.findSome? VecOp.lanes).or ((k.tileQ.find? TileOp.draws).map fun op => op.ckpt.rng)

/-- A word written to a register of a core's block stands when an unretired instruction is undone: `f` is what the write makes of the
value that is put back. -/
def keepWrite (s : State) (c : CoreId) (a : Nat) (f : Word → Word) : State :=
  if (s.core c).vecQ.isEmpty && (s.core c).tileQ.isEmpty then s
  else s.modCore c fun k => { k with
    vecQ := k.vecQ.map fun op => { op with words := op.words.map fun e => if e.1 = a then (a, f e.2) else e },
    tileQ := k.tileQ.map fun op => { op with ckpt := { op.ckpt with
      fstat := if a = CORE_FSTAT c then f op.ckpt.fstat else op.ckpt.fstat,
      inuse := if a = TILE_INUSE c then f op.ckpt.inuse else op.ckpt.inuse } } }

/-! ### Retirement of vector instructions (R125, R126) -/

/-- The oldest unretired vector or update instruction retires; an NV that waited for that is reported (R79). -/
def vecRetire (s : State) (c : CoreId) : State :=
  match (s.core c).vecQ with
  | [] => s
  | op :: later =>
    let s := s.modCore c fun k => { k with vecQ := later }
    match op.nv with
    | some sub => reportNV s sub
    | none => s

/-- Every unretired vector and update instruction retires. -/
def retireAll (s : State) (c : CoreId) : State := Nat.repeat (fun s => vecRetire s c) (s.core c).vecQ.length s

/-- What a master does to a register, as an event: a core's earlier instructions retire and its earlier stores are performed first; while
one of them still waits in a stack, so does this (R185). -/
def byMaster (s : State) (m : Nat) (f : State → State) : State :=
  if m < 48 then
    let t := drainMerge (retireAll s (coreOf m)) (coreOf m)
    if storesWait t (coreOf m) then t else f t
  else f s

/-! ### Tile instructions that are abandoned (R104) -/

/-- A tile whose load has been cut short holds unspecified contents until the load completes (R44, assumption 22). -/
def cutTile (s : State) (c : CoreId) (t : Nat) : State :=
  let (n, s) := ((s.freeCtr, { s with freeCtr := s.freeCtr + 1 }) : Nat × State)
  let z : Tile := { rows := Vector.ofFn fun i => Config.cutTile n i.val, scales := Vector.ofFn fun i => Config.cutScale n i.val, gen := 0 }
  s.modCore c fun k => k.setT (BitVec.ofNat 3 t) z

/-- The oldest unretired tile instruction is to restart: it and every later instruction are undone, to their registers, flags and
generators (R97, R104). -/
def tileAbandon (s : State) (c : CoreId) : State :=
  match (s.core c).tileQ with
  | [] => s
  | op :: _ =>
    let k := op.ckpt
    let s := s.modCore c fun q => { q with x := k.x, f := k.f, pc := op.pc, tileQ := [] }
    let s := (s.setReg (CORE_FSTAT c) k.fstat).setReg (TILE_INUSE c) k.inuse
    let s := (k.rng.zipIdx).foldl (fun s e => s.setReg (VEC_RNG_STATE c e.2) e.1) s
    let s := match op.work with
      | .tld t _ _ _ _ _ _ => cutTile s c t
      | _ => s
    count s (TILE_RESTART c) 1

/-- A BWAIT is abandoned; the response of its remote WAIT is discarded when it arrives (R334). -/
def abandonWait (s : State) (c : CoreId) : State :=
  match (s.core c).wait with
  | .bwait _ _ _ _ (some id) _ =>
    { s with ride := { s.ride with reqs := (s.ride.reqs.filter fun r => !(r.id == id && r.answer.isSome)).map fun r =>
        if r.id = id then { r with issuer := .abandoned } else r } }
  | _ => s

/-- A core stops (R41): the reason, the stop PC, the vector of the second exception, and the record. -/
def stopCore (s : State) (c : CoreId) (reason vector2 sev : Nat) : State :=
  let s := abandonWait (tileAbandon (restoreVec s c) c) c
  let pc := (s.core c).pc
  let s := s.setFld (CORE_STOPINFO c) fldCORE_STOPINFO_REASON reason
  let s := s.setFld (CORE_STOPINFO c) fldCORE_STOPINFO_VECTOR2 vector2
  let s := s.setFld (CORE_STOPINFO c) fldCORE_STOPINFO_PC pc.toNat
  let s := s.setBit (CORE_STATUS c) fldCORE_STATUS_STOPPED true
  let s := s.modCore c fun k => { k with wait := .running, stepDue := none, stopReq := 0, mcDue := [] }
  logFault s { mkRec 9 sev 0 c with phys := physOf s c, addr := pc.toNat, arg := reason % 16 + vector2 % 64 * 256 }

/-- Every core that runs stops with reason 3 (R404, Table 14.5). -/
def stopAll (s : State) : State :=
  allCores.foldl (fun s (c : CoreId) => if isStopped s c then s else stopCore s c 3 0 1) s

end Sys2Proof.Machine
end

