-- ==== Sys2Proof/Machine/CacheEv.lean ====
section
/-! DEFINITION. What the caches do of their own accord: merging-buffer writes, fills, prefetches, deadfall and the thrash windows
(R184, R238, R246, R247, R251 to R256). -/
namespace Sys2Proof.Machine
open Host

/-- Whether an entry of a merging buffer holds no byte of a store that an interrupt could still undo (R133). -/
def entryFirm (k : CoreSt) (e : MergeEntry) : Bool := k.vecQ.all fun op => op.mbuf.contains e

/-- MERGE_ENTRY_PERFORM: one entry of a merging buffer is written to its point of performance (R184). An entry with bytes stored after
a vector instruction that is unretired waits for that (R43). -/
def execMergePerform (c : CoreId) (i : Nat) (s : State) : Outcome State Fault Refusal :=
  if s.still then next s s else
  match (s.core c).mbuf[i]? with
  | none => next s s
  | some e =>
    if entryFirm (s.core c) e then
      let t := s.modCore c fun k => { k with vecQ := k.vecQ.map fun op => { op with mbuf := op.mbuf.erase e } }
      next s ((performAt t c i).modCore c fun k => { k with spilled := false })
    else next s s

/-- A requester's sectors enter its L1. -/
def fillL1 (line : Nat) (s : State) (r : Nat × Nat × Nat) : State :=
  let c := coreOf r.1
  if l1Sets s c = 0 then s else s.modCore c fun k => k.putL1 (l1Install (l1Sets s c) k.l1 line r.2.1 (r.2.2 % 4))

/-- A line arrives from its stack: it is installed for its requesters, unless a flip came between (R238), or a
prefetch alone asked for a line that carries a deadfall marker (R253). -/
def fillDone (s : State) (n : Fin 8) (f : Fill) : State :=
  let s := setSlice s n fun sl => { sl with fills := sl.fills.filter fun g => g.line != f.line }
  let s := f.reqs.foldl (fun s r => s.modCore (coreOf r.1) fun k => orderPop k (false, f.line)) s
  let kind := kindAt s (f.line * 128)
  let ahead := f.reqs.all fun r => decide (4 ≤ r.2.2)
  if kind = 2 ∨ (kind = 1 ∧ f.flipped) ∨ (ahead ∧ (l2Find s f.line).any fun e => e.marker) then s
  else
    let sharers := f.reqs.foldl (fun m r => m ||| 2 ^ r.1) 0
    let e : L2Line := match l2Find s f.line with
      | some e => if e.marker then { line := f.line, kind := kind, cls := f.cls, dirty := false, marker := false, sharers := sharers }
        else { e with cls := f.cls, sharers := e.sharers ||| sharers }
      | none => { line := f.line, kind := kind, cls := f.cls, dirty := false, marker := false, sharers := sharers }
    f.reqs.foldl (fillL1 f.line) (l2Install s n e)

/-- L2_FILL_COMPLETE: an outstanding fill of a slice ends. In A20 issue mode a core is given its data in the order of its requests, so a
fill that one of them joined waits for those before it (R303). -/
def execL2FillComplete (slice line : Nat) (s : State) : Outcome State Fault Refusal :=
  if s.still then next s s else
  let n : Fin 8 := Fin.ofNat 8 slice
  match (s.mem.slices.get n).fills.find? fun f => f.line == line with
  | some f => if f.reqs.any fun r => heldBack (s.core (coreOf r.1)) (false, line) then next s s
    else next s (chanEvent (fillDone s n f) (64 + n))
  | none => next s s

/-- The prefetches of a core that await their line. -/
def prefetchesOf (s : State) (c : Nat) : Nat :=
  (s.mem.slices.toList.map fun sl => sl.fills.countP fun f => f.reqs.any fun r => r.1 == c && decide (4 ≤ r.2.2)).foldl (· + ·) 0

/-- The line a trained stream asks for next: within DIST lines of its last demand miss and in the same granule (R254). -/
def pfNext (s : State) (c : CoreId) (e : PfEntry) : Option Nat :=
  let dist := s.fld (CORE_PF c) fldCORE_PF_DIST
  let line := (e.ahead : Int) + e.stride
  let ahead := if e.stride = 0 then 0 else ((e.ahead : Int) - e.last) / e.stride
  if s.test (CORE_PF c) fldCORE_PF_EN ∧ 4 ≤ e.run ∧ e.stride ≠ 0 ∧ ahead < dist ∧ 0 ≤ line ∧
      line.toNat / 512 = e.last / 512 ∧ kindAt s (line.toNat * 128) ≠ 2 ∧ regionOf s (line.toNat * 128) = some .stack then
    some line.toNat
  else none

/-- PREFETCH: one stream of a core asks for its next line, or the request is skipped at one of the bounds of R255; where the core's miss
registers or the slice's fill entries are all in use, it waits (R247). -/
def execPrefetch (c : CoreId) (i : Nat) (s : State) : Outcome State Fault Refusal :=
  if s.still then next s s else
  match (s.core c).pf[i]? with
  | none => next s s
  | some e =>
    match pfNext s c e with
    | none => next s s
    | some line =>
      let t := s.modCore c fun k => { k with pf := k.pf.modify i fun e => { e with ahead := line } }
      if l1Hit t c line 15 then next s t
      else if missMax s c ≤ 8 * prefetchesOf s c ∨ stackCap s c ≤ fillsAt s c (stackOf s (line / 512)) then next s (count s (CORE_PF_SKIP c) 1)
      else if linesAccepted s c (missedOf s c [(line, 15)]) = false then next s s
      else next s (sliceRequest (count t (CORE_PF_ISSUE c) 1) c line 15 e.hint false)

/-- One line of a deadfall hint: a PLAIN line present in its slice loses its data and keeps its tag (R252). -/
def deadfallLine (s : State) (line : Nat) : State :=
  if stackTop ≤ line * 128 ∨ regionOf s (line * 128) ≠ some .stack ∨ kindAt s (line * 128) ≠ 0 then s
  else
    match l2Find s line with
    | none => s
    | some _ =>
      let s := dropCopies s line
      let s := s.modMem fun m => { m with dirty := mapDropRange m.dirty (line * 128) (line * 128 + 128),
                                          l2Bad := m.l2Bad.filter fun w => w / 16 != line }
      setSlice s (homeSlice s line) fun sl => { sl with lines := sl.lines.map fun e =>
        if e.line = line then { e with dirty := false, marker := true, sharers := 0 } else e }

/-- A store of CORE_DEADFALL. -/
def deadfallOp (s : State) (v : Word) : State :=
  (upFrom (fldCORE_DEADFALL_LINE.get v) (fldCORE_DEADFALL_LM1.get v + 1)).foldl deadfallLine s

/-- THRASH_WINDOW: a slice's window of 65,536 cycles begins (R251). -/
def execThrashWindow (slice : Fin 8) (s : State) : Outcome State Fault Refusal :=
  if s.still then next s s else
  next s (setSlice s slice fun sl => { sl with counts := [], fired := [] })

end Sys2Proof.Machine
end

