-- ==== Sys2Proof/Machine/Crypto.lean ====
section
/-! DEFINITION. The checks the Warden makes of what it loads: CRC-32 of IEEE 802.3 (R392, R400), SHA-256 and the verification of
RSASSA-PSS of PKCS #1 v2.2 with SHA-256, MGF1 with SHA-256 and a 32-byte salt (R393, R399). -/
namespace Sys2Proof.Machine

/-! ### CRC-32 -/

/-- `n` shifts of the reflected CRC-32 register. -/
def crcShift : Nat → Nat → Nat
  | 0, x => x
  | n + 1, x => crcShift n (if x % 2 = 1 then (x / 2) ^^^ 0xEDB88320 else x / 2)

/-- The CRC-32 of bytes. -/
def crc32 (bs : List Byte) : Nat :=
  bs.foldl (fun x b => crcShift 8 (x ^^^ b.toNat)) 0xFFFFFFFF ^^^ 0xFFFFFFFF

/-! ### SHA-256 -/

/-- A word of SHA-256. -/
abbrev W32 := BitVec 32

/-- The integer cube root of a number below 2^(3n), bit by bit from bit `n - 1` down. -/
def icbrt : Nat → Nat → Nat → Nat
  | 0, _, r => r
  | n + 1, x, r => let t := r + 2 ^ n; icbrt n x (if t * t * t ≤ x then t else r)

/-- The integer square root, in the same way. -/
def isqrtBits : Nat → Nat → Nat → Nat
  | 0, _, r => r
  | n + 1, x, r => let t := r + 2 ^ n; isqrtBits n x (if t * t ≤ x then t else r)

/-- The first 64 primes. -/
def shaPrimes : List Nat :=
  [2, 3, 5, 7, 11, 13, 17, 19, 23, 29, 31, 37, 41, 43, 47, 53, 59, 61, 67, 71, 73, 79, 83, 89, 97, 101, 103, 107, 109, 113, 127,
   131] ++
  [137, 139, 149, 151, 157, 163, 167, 173, 179, 181, 191, 193, 197, 199, 211, 223, 227, 229, 233, 239, 241, 251, 257, 263, 269,
   271, 277, 281, 283, 293, 307, 311]

/-- The round constants: the first 32 bits of the fractions of the primes' cube roots. -/
def shaK : List W32 := shaPrimes.map fun p => BitVec.ofNat 32 (icbrt 36 (p * 2 ^ 96) 0)

/-- The initial hash value: the first 32 bits of the fractions of the first eight primes' square roots. -/
def shaInit : List W32 := (shaPrimes.take 8).map fun p => BitVec.ofNat 32 (isqrtBits 36 (p * 2 ^ 64) 0)

/-- A number's `n` bytes, most significant first. -/
def beBytes (n v : Nat) : List Byte := (bytesOfNat n v).reverse

/-- The number spelled by bytes, most significant first. -/
def beNat (bs : List Byte) : Nat := natOfBytes bs.reverse

/-- A message padded to whole blocks of 64 bytes. -/
def shaPad (m : List Byte) : List Byte :=
  m ++ [0x80] ++ List.replicate ((119 - m.length % 64) % 64) 0 ++ beBytes 8 (8 * m.length)

/-- A list cut into pieces of `k`; fuel bounds the number of pieces. -/
def cutBytes (k : Nat) : Nat → List Byte → List (List Byte)
  | 0, _ => []
  | n + 1, l => if l.isEmpty then [] else l.take k :: cutBytes k n (l.drop k)

/-- The message schedule, kept with the latest word first, extended by `n` words. -/
def shaExtend : Nat → List W32 → List W32
  | 0, w => w
  | n + 1, w =>
    let at' := fun i => w.getD (i - 1) 0
    let s0 := (at' 15).rotateRight 7 ^^^ (at' 15).rotateRight 18 ^^^ (at' 15 >>> 3)
    let s1 := (at' 2).rotateRight 17 ^^^ (at' 2).rotateRight 19 ^^^ (at' 2 >>> 10)
    shaExtend n ((at' 16 + s0 + at' 7 + s1) :: w)

/-- One round on the eight working variables. -/
def shaRound (v : List W32) (kw : W32 × W32) : List W32 :=
  match v with
  | [a, b, c, d, e, f, g, h] =>
    let s1 := e.rotateRight 6 ^^^ e.rotateRight 11 ^^^ e.rotateRight 25
    let ch := (e &&& f) ^^^ (~~~ e &&& g)
    let t1 := h + s1 + ch + kw.1 + kw.2
    let s0 := a.rotateRight 2 ^^^ a.rotateRight 13 ^^^ a.rotateRight 22
    let mj := (a &&& b) ^^^ (a &&& c) ^^^ (b &&& c)
    [t1 + s0 + mj, a, b, c, d + t1, e, f, g]
  | _ => v

/-- One block compressed into the hash value. -/
def shaBlock (h : List W32) (b : List Byte) : List W32 :=
  let w := (shaExtend 48 (((cutBytes 4 16 b).map fun q => BitVec.ofNat 32 (beNat q)).reverse)).reverse
  List.zipWith (· + ·) h ((shaK.zip w).foldl shaRound h)

/-- SHA-256 of a message. -/
def sha256 (m : List Byte) : List Byte :=
  let p := shaPad m
  ((cutBytes 64 (p.length / 64) p).foldl shaBlock shaInit).flatMap fun w => beBytes 4 w.toNat

/-! ### RSASSA-PSS -/

/-- `x` raised to 2^n modulo `m`. -/
def powTwo (m : Nat) : Nat → Nat → Nat
  | 0, x => x % m
  | n + 1, x => powTwo m n (x * x % m)

/-- RSAVP1 with public exponent 65,537. -/
def rsaPublic (n s : Nat) : Nat := powTwo n 16 s * s % n

/-- MGF1 with SHA-256: `len` bytes. -/
def mgf1 (seed : List Byte) (len : Nat) : List Byte :=
  (((upFrom 0 ((len + 31) / 32)).map fun i => sha256 (seed ++ beBytes 4 i)).flatten).take len

/-- EMSA-PSS-VERIFY of an encoded message of `emBits` bits, salt 32 bytes. -/
def pssVerify (m em : List Byte) (emBits : Nat) : Bool :=
  let emLen := (emBits + 7) / 8
  let db := emLen - 33
  let masked := em.take db
  let h := (em.drop db).take 32
  let top := 8 * emLen - emBits
  let plain := List.zipWith (· ^^^ ·) masked (mgf1 h db)
  let plain := match plain with
    | b :: bs => (b &&& BitVec.ofNat 8 (2 ^ (8 - top) - 1)) :: bs
    | [] => []
  let zeros := emLen - 66
  decide (66 ≤ emLen) && em.getLast? == some 0xBC &&
    (masked.headD 0).toNat / 2 ^ (8 - top) == 0 &&
    (plain.take zeros).all (· == 0) && plain.getD zeros 0 == 0x01 &&
    h == sha256 (List.replicate 8 0 ++ sha256 m ++ plain.drop (zeros + 1))

/-- RSASSA-PSS-VERIFY: modulus and signature as bytes, big-endian (R393). -/
def rsaPssVerify (nBytes sBytes m : List Byte) : Bool :=
  let n := beNat nBytes
  let s := beNat sBytes
  let bits := Nat.log2 n + 1
  let em := rsaPublic n s
  let emLen := (bits + 6) / 8
  decide (1 < n) && decide (s < n) && decide (em < 2 ^ (8 * emLen)) && pssVerify m (beBytes emLen em) (bits - 1)

end Sys2Proof.Machine
end

