-- ==== Sys2Proof/Machine/Canopy.lean ====
section
/-! DEFINITION. Canopy images: their layout, the checks of Table 15.4, and what their sections set (R400 to R404, R105, R236, R245,
R249, R265). -/
namespace Sys2Proof.Machine

/-! ### Bytes of images -/

/-- The `n`-byte little-endian field at an offset. -/
def at' (b : List Byte) (o n : Nat) : Nat := natOfBytes ((b.drop o).take n)

/-- The `n` bytes at an offset. -/
def cut (b : List Byte) (o n : Nat) : List Byte := (b.drop o).take n

/-- A failing check: its code (Table 15.4), the section it lies in, the byte offset and the detail. -/
structure CanErr where
  code : Nat
  sec : Nat
  off : Nat
  detail : Nat
  deriving DecidableEq, Repr

/-- A section: its TYPE, the offset of its body in the image, and the body. -/
structure Section where
  type : Nat
  off : Nat
  body : List Byte
  deriving DecidableEq, Repr

/-- A canopy that has passed its checks. -/
structure Canopy where
  serial : Nat
  secs : List Section
  len : Nat
  deriving DecidableEq, Repr

/-- The section of a TYPE. -/
def Canopy.sec (c : Canopy) (t : Nat) : Option Section := c.secs.find? fun x => x.type == t

/-! ### Signatures (R393) -/

/-- Whether a 32-byte fuse may verify a modulus: it is its SHA-256 and not all zeros. -/
def fuseOk (fuse : List Byte) (revoked : Bool) (n : List Byte) : Bool :=
  !revoked && fuse.any (· != 0) && sha256 n == fuse

/-- Whether a trailer signs an object with an accepted key: `owner` where OKEY may be the key (R393). -/
def trailerOk (s : State) (canopy : Bool) (obj t : List Byte) : Bool :=
  let k := at' t 4 1
  let n := cut t 8 384
  let enrolled := s.nv.okey.any (· != 0)
  let key := if k = 3 then canopy && enrolled && fuseOk s.nv.okey false n
    else decide (k < 3) && !(canopy && enrolled) && fuseOk (Config.hkey k) (Config.hkeyRevoked k) n
  t.length == 776 && at' t 0 4 == 0x47495348 && at' t 5 3 == 0 && key &&
    rsaPssVerify n (cut t 392 384) (obj ++ t.take 392)

/-! ### The checks of Table 15.4 (R401, R402) -/

/-- The body's bytes of each TYPE (Table 15.3); none for a TYPE that the table does not list. -/
def secLen (t : Nat) : Option Nat :=
  match t with
  | 0x01 => some 32
  | 0x02 => some 72
  | 0x03 => some 96
  | 0x04 => some 16
  | 0x05 => some 8
  | 0x06 => some 80
  | 0x07 => some 8
  | 0x10 => some 56
  | 0x11 => some 8
  | 0x12 => some 2528
  | 0x13 => some 8
  | 0x14 => some 24
  | _ => none

/-- The sections of an image from an offset: each TYPE above the one before and of its length, and the last ending at LEN. -/
def readSections (b : List Byte) (len : Nat) : Nat → Nat → Nat → Except CanErr (List Section)
  | 0, o, _ => if o = len then .ok [] else .error ⟨2, 0, 8, 0⟩
  | n + 1, o, prev =>
    let t := at' b o 2
    let l := at' b (o + 2) 2
    if len < o + 8 then .error ⟨2, 0, 7, 0⟩
    else if t ≤ prev then .error ⟨2, t, o, 0⟩
    else if secLen t ≠ some l ∨ len < o + 8 + l then .error ⟨2, t, o + (if (secLen t).isNone then 0 else 2), 0⟩
    else
      match readSections b len n (o + 8 + l) t with
      | .ok r => .ok ({ type := t, off := o + 8, body := cut b (o + 8) l } :: r)
      | .error e => .error e

/-- FORMAT: magic, version, kind and length, then the sections. -/
def checkFormat (b : List Byte) (kind : Nat) : Except CanErr (List Section) :=
  let len := at' b 8 4
  if at' b 0 4 ≠ 0x4E414348 then .error ⟨2, 0, 0, 0⟩
  else if at' b 4 2 ≠ 1 then .error ⟨2, 0, 4, 0⟩
  else if at' b 6 1 ≠ kind then .error ⟨2, 0, 6, 0⟩
  else if len < 64 ∨ b.length < len then .error ⟨2, 0, 8, 0⟩
  else readSections b len (at' b 7 1) 64 0

/-- The first of some conditions that holds, as the place it names. -/
def firstOf : List (Bool × Nat) → Option Nat
  | [] => none
  | (c, o) :: l => if c then some o else firstOf l

/-- The first nonzero byte of a range of reserved bytes. -/
def reserved (b : List Byte) (o n : Nat) : Option Nat := ((upFrom o n).find? fun i => b.getD i 0 != 0)

/-- The first place of a body that a check per element finds wrong. -/
def eachOf (n : Nat) (bad : Nat → Bool) (place : Nat → Nat) : Option Nat := ((upFrom 0 n).find? bad).map place

/-- RANGE: the offset in a body of the first field outside Table 15.3, or of a reserved bit that is set. -/
def rangeOf (x : Section) : Option Nat :=
  let b := x.body
  match x.type with
  | 0x01 => firstOf [(decide (2 ^ 52 ≤ at' b 0 8), 0), (decide (2 ^ 36 ≤ at' b 8 8), 8), (decide (2 ^ 68 ≤ at' b 16 16), 16)]
  | 0x02 => eachOf 36 (fun p => bitOf (at' b (2 * p) 2) 15) (2 * ·)
  | 0x03 => eachOf 96 (fun i => decide (48 ≤ at' b i 1)) id
  | 0x04 => (firstOf [(decide (0x3FFFE < at' b 0 4), 0)]).or ((reserved b 4 4).or
      ((firstOf [(decide (1 < at' b 14 1), 14)]).or (reserved b 15 1)))
  | 0x05 => (firstOf [(decide (1 < at' b 0 1), 0)]).or ((reserved b 1 3).or
      (firstOf [(decide (at' b 4 4 % 12 ≠ 0) || decide (4718592 < at' b 4 4), 4)]))
  | 0x06 => (reserved b 38 2).or ((eachOf 4 (fun k => decide (1 < at' b (40 + 8 * k) 1)) (40 + 8 * ·)).or
      ((eachOf 4 (fun k => at' b (42 + 8 * k) 2 != 0) (42 + 8 * ·)).or (reserved b 74 6)))
  | 0x07 => (firstOf [(decide (4 ≤ at' b 0 1), 0)]).or ((reserved b 1 1).or
      ((firstOf [(at' b 2 2 == 0, 2)]).or (reserved b 4 4)))
  | 0x10 => (eachOf 48 (fun c => decide (16 ≤ at' b c 1) || decide (4 < at' b c 1 % 8)) id).or
      ((firstOf [(at' b 48 1 != 2 && at' b 48 1 != 4, 48)]).or (reserved b 49 7))
  | 0x11 => (firstOf [(decide (1 < at' b 0 1), 0), (decide (12 < at' b 1 1), 1)]).or (reserved b 2 6)
  | 0x12 => eachOf 316 (fun i => at' b (8 * i) 8 &&& 0x7FFFFFFFFFFFC0C0 != 0) (8 * ·)
  | 0x13 => (firstOf [(at' b 0 4 &&& 0xFFFCF8F8 != 0, 0), (decide (1 < at' b 4 1), 4)]).or (reserved b 5 3)
  | 0x14 => (firstOf [(decide (16383 < at' b 12 4), 12)]).or (reserved b 16 8)
  | _ => none

/-- SCOPE: a boot section in a launch canopy, JOB in a boot canopy, or a boot section missing. -/
def scopeOf (kind : Nat) (secs : List Section) : Option CanErr :=
  let bad := fun (x : Section) => if kind = 0 then x.type == 0x14 else decide (x.type < 0x10)
  match secs.find? bad with
  | some x => some ⟨6, x.type, x.off - 8, 0⟩
  | none =>
    if kind = 0 ∧ ((upFrom 1 7).any fun t => !secs.any fun x => x.type == t) then some ⟨6, 0, 7, 0⟩ else none

/-- The power limit and the highest core voltage of Table 15.1. -/
def plim : Nat := 2800
/-- VMAXF. -/
def vmaxf : Nat := 850

/-- FUSE: LIMIT above PLIM, or VMAX above VMAXF. -/
def fuseOf (secs : List Section) : Option CanErr :=
  match secs.find? fun x => x.type == 0x06 with
  | some x =>
    if plim < at' x.body 20 2 then some ⟨8, 6, x.off + 20, 0⟩
    else if vmaxf < at' x.body 72 2 then some ⟨8, 6, x.off + 72, 0⟩
    else none
  | none => none

/-- The first failing field under RANGE, the header's reserved bytes before the sections. -/
def rangeErr (b : List Byte) (secs : List Section) : Option CanErr :=
  match (firstOf [(decide (1 < at' b 32 1), 32)]).or (reserved b 33 31) with
  | some o => some ⟨7, 0, o, 0⟩
  | none =>
    secs.findSome? fun x =>
      match reserved b (x.off - 4) 4 with
      | some o => some ⟨7, x.type, o, 0⟩
      | none => (rangeOf x).map fun o => ⟨7, x.type, x.off + o, 0⟩

/-- The checks of codes 2 to 8, in their order. -/
def verifyCanopy (s : State) (b : List Byte) (kind : Nat) : Except CanErr Canopy :=
  match checkFormat b kind with
  | .error e => .error e
  | .ok secs =>
    let len := at' b 8 4
    let signed := at' b 32 1 == 1
    let must := kind == 0 || s.test CAN_POLICY fldCAN_POLICY_LAUNCH_SIG
    if crc32 (cut b 64 (len - 64)) ≠ at' b 12 4 then .error ⟨3, 0, 12, 0⟩
    else if (must ∧ signed = false) then .error ⟨4, 0, 32, 0⟩
    else if signed ∧ trailerOk s true (b.take len) (cut b len 776) = false then .error ⟨4, 0, len, 0⟩
    else if at' b 24 8 ≠ 0 ∧ at' b 24 8 ≠ Config.dieid.toNat then .error ⟨5, 0, 24, 0⟩
    else
      match ((scopeOf kind secs).or (rangeErr b secs)).or (fuseOf secs) with
      | some e => .error e
      | none => .ok { serial := at' b 16 8, secs := secs, len := len }

/-- How many bytes an image has, header, sections and trailer, as its first 64 bytes say. -/
def imageBytes (h : List Byte) : Nat := at' h 8 4 + (if at' h 32 1 = 1 then 776 else 0)

/-! ### What the sections set -/

/-- The arrays in use: all four, or one healthy pair, the lower first (R105, R116). -/
def arraysInUse (arrays out : Nat) : Nat :=
  let lo := out % 4 == 0
  let hi := out / 4 % 4 == 0
  if arrays = 4 ∧ lo ∧ hi then 15
  else if arrays = 0 then 0
  else if lo then 3 else if hi then 12 else 0

/-- TILE_CFG.ACTIVE as ARRAYS and OUT give it. -/
def setActive (s : State) (c : CoreId) : State :=
  s.setFld (TILE_CFG c) fldTILE_CFG_ACTIVE
    (arraysInUse (s.fld (TILE_CFG c) fldTILE_CFG_ARRAYS) (s.fld (TILE_CFG c) fldTILE_CFG_OUT))

/-- A core's L1 share set, from the share its physical array was under: its L1 is invalidated, what becomes scratchpad reads 0, and
what becomes L1 is lost (R236, R454). -/
def setShare (s : State) (c : CoreId) (old new : Nat) : State :=
  let p := physOf s c
  let s := (s.setFld (CORE_L1CFG c) fldCORE_L1CFG_NOW new).setFld (CORE_L1CFG c) fldCORE_L1CFG_SHARE new
  if old = new then s
  else
    let lo := 0x800000 - max (shareBytes old) (shareBytes new)
    let s := s.modCore c fun k => k.putL1 []
    s.modMem fun m =>
      { m with arrBad := m.arrBad.filter (fun w => !(decide (p * 0x800000 + lo ≤ w * 8) && decide (w * 8 < p * 0x800000 + 0x800000))),
               arr := mapDropRange m.arr (p * 0x800000 + lo) (p * 0x800000 + 0x800000),
               zeroLo := if shareBytes new < shareBytes old then
                   mapPut (fun _ => 0x800000) m.zeroLo p
                     (min (mapGet (fun _ => 0x800000) m.zeroLo p) (0x800000 - shareBytes old))
                 else m.zeroLo }

/-- Every line of a slice written back and invalidated. -/
def flushSlice (s : State) (n : Fin 8) : State :=
  (s.mem.slices.get n).lines.foldl (fun s e => l2Evict s n e.line) s

/-- HASH set on every slice; a change writes back and invalidates every unpinned line (R245). -/
def setHash (s : State) (h : Nat) : State :=
  let s := if s.fld (L2_CFG 0) fldL2_CFG_HASH = h then s else (List.finRange 8).foldl flushSlice s
  (upFrom 0 8).foldl (fun s n => s.setFld (L2_CFG n) fldL2_CFG_HASH h) s

/-- The lines that a slice holds in the ways from `lo` up to `hi` are written back and invalidated. -/
def clearWays (s : State) (n : Fin 8) (lo hi : Nat) : State :=
  ((s.mem.slices.get n).lines.filter fun e => decide (lo ≤ e.way) && decide (e.way < hi)).foldl (fun s e => l2Evict s n e.line) s

/-- PINNED set on one slice (R249): ways that become pinned lose their lines and read 0, and ways no longer pinned are empty cache ways. -/
def setPinned (s : State) (n : Fin 8) (p : Nat) : State :=
  let old := pinnedWays s n
  if old = p then s
  else
    let s := clearWays s n (16 - p) (16 - old)
    let s := s.setFld (L2_CFG n) fldL2_CFG_PINNED p
    let hi := (n * 16 + (16 - min old p)) * 0x400000
    s.modMem fun m =>
      { m with pins := mapDropRange m.pins (n * 0x4000000) hi,
               pinBad := m.pinBad.filter fun w => !(decide (n * 0x4000000 ≤ w * 8) && decide (w * 8 < hi)) }

/-- Whether a slice can pin so many ways: pinned ways are taken from serviceable ones (R387). -/
def pinsMet (s : State) (n : Fin 8) (p : Nat) : Bool := decide (p ≤ 16 - ones 16 (s.fld (L2_CFG n) fldL2_CFG_OUT))

/-- The L2 section. -/
def applyL2 (s : State) (b : List Byte) : State :=
  let s := setHash s (at' b 0 1)
  (List.finRange 8).foldl (fun s n => setPinned s n (at' b 1 1)) s

/-- How many masters name a bank as home, 3 standing for three or more (R265). -/
def homeCount (s : State) (bank : Nat) : Nat :=
  min 3 ((upFrom 0 79).countP fun m => (upFrom 0 4).any fun k =>
    let w := s.reg (BANK_REGION m k)
    fldBANK_REGION_VALID.test w && decide (fldBANK_REGION_FIRST.get w ≤ bank) && decide (bank ≤ fldBANK_REGION_LAST.get w))

/-- BANK_GRP_CFG's counts of home masters. -/
def setHomes (s : State) : State :=
  (upFrom 0 64).foldl (fun s n =>
    s.setFld (BANK_GRP_CFG (n / 4)) ⟨29 + 2 * (n % 4), 28 + 2 * (n % 4)⟩ (homeCount s n)) s

/-- The BANKS section. -/
def applyBanks (s : State) (b : List Byte) : State :=
  setHomes ((upFrom 0 316).foldl (fun s i =>
    s.setReg (BANK_REGION (i / 4) (i % 4)) (BitVec.ofNat 64 (at' b (8 * i) 8))) s)

/-- The CORES section; `old` gives the share each physical array was under. -/
def applyCores (s : State) (old : CoreId → Nat) (b : List Byte) : State :=
  allCores.foldl (fun s (c : CoreId) =>
    let v := at' b c 1
    let s := setShare s c (old c) (v % 8)
    let a := if bitOf v 3 then 1 else 0
    let s := (s.setFld (CORE_ISSUE c) fldCORE_ISSUE_A20 a).setFld (CORE_ISSUE c) fldCORE_ISSUE_NOW a
    setActive (s.setFld (TILE_CFG c) fldTILE_CFG_ARRAYS (at' b 48 1)) c) s

/-- The MODES section: every core, now and at each later reset of the core. -/
def applyModesSec (s : State) (b : List Byte) : State :=
  let s : State := { s with wdn := { s.wdn with modes := some (at' b 0 4, bitOf (at' b 4 1) 0) } }
  allCores.foldl applyModes s

/-- The sections a launch may hold, in the order of R404. -/
def applyLaunchSecs (s : State) (old : CoreId → Nat) (c : Canopy) : State :=
  let s := match c.sec 0x11 with | some x => applyL2 s x.body | none => s
  let s := match c.sec 0x12 with | some x => applyBanks s x.body | none => s
  let s := match c.sec 0x10 with | some x => applyCores s old x.body | none => s
  match c.sec 0x13 with | some x => applyModesSec s x.body | none => s

/-! ### Measurements (R399) -/

/-- The bytes of a measurement register. -/
def measBytes (s : State) (i : Nat) : List Byte := (upFrom 0 4).flatMap fun w => bytesOfNat 8 (s.reg (WDN_MEAS i w)).toNat

/-- A measurement register replaced. -/
def setMeas (s : State) (i : Nat) (b : List Byte) : State :=
  (upFrom 0 4).foldl (fun s w => s.setReg (WDN_MEAS i w) (BitVec.ofNat 64 (at' b (8 * w) 8))) s

/-- A measurement register extended with an object. -/
def extend (s : State) (i : Nat) (obj : List Byte) : State := setMeas s i (sha256 (measBytes s i ++ sha256 obj))

end Sys2Proof.Machine
end

