-- ==== Sys2Proof/Machine/Boot.lean ====
section
/-! DEFINITION. Resets, the boot sequence, coppice and the device's power states (R14, R16, R30, R230, R283, R369 to R372, R386, R387,
R391 to R399, R454). -/
namespace Sys2Proof.Machine
open Host

/-! ### What a boot starts from -/

/-- What stood before a reset and bears on the boot after it: whether memory and rings were kept, and the L1 share code each physical
array was under (R236, R396). -/
structure Before where
  warm : Bool
  shares : NMap Nat
  deriving DecidableEq, Repr

/-- The Warden changed. -/
def State.modWdn (s : State) (f : WdnSt → WdnSt) : State := { s with wdn := f s.wdn }

/-- The share code of each physical array. -/
def sharesNow (s : State) : NMap Nat :=
  allCores.foldl (fun m (c : CoreId) => mapInsert m (physOf s c) (s.fld (CORE_L1CFG c) fldCORE_L1CFG_NOW)) []

/-- Every core's state drawn and reset (R35, R141, R83). -/
def resetCores (s : State) : State :=
  let s : State := { s with
    cores := Vector.ofFn fun (c : CoreId) => { CoreSt.reset with sealKey := Config.sealKey s.entropy c },
    entropy := s.entropy + 1 }
  allCores.foldl drawLanes s

/-- PORESET_N (R9): everything at its reset value but what lies outside the reset: the Warden's store, the flash, the board's
signals, and PWR_STATE.TRIPPED. Every core array is unspecified (R454). -/
def poreset (s : State) : State :=
  let z := State.reset
  let t : State := { z with
    nv := s.nv, freeCtr := s.freeCtr, entropy := s.entropy,
    mem := { z.mem with epoch := s.mem.epoch + 1 },
    modu := { s.modu with poresetLow := false, smbOut := [] },
    pwr := { z.pwr with heatIn := s.pwr.heatIn, trip := s.pwr.trip } }
  let t := t.setBit PWR_STATE fldPWR_STATE_TRIPPED (s.test PWR_STATE fldPWR_STATE_TRIPPED)
  resetCores ((t.setReg AGE_HOURS (s.reg AGE_HOURS)).setBit FOR_THERM fldFOR_THERM_HEAT s.pwr.heatIn)

/-- The control registers of one 64 KiB block. -/
def inBlock (lo a : Nat) : Bool := decide (lo ≤ a) && decide (a < lo + 0x10000)

/-- Registers whose stored words a warm reset keeps whole (R49, R230, R389, R426). -/
def warmKept (a : Nat) : Bool :=
  inBlock FLT_HEAD a || a == CORE_REFTIME 0 || [RING_VISIBLE, RING_PREV, RING_NEXT, RING_GSTEP, RING_NEWER, RING_OLDER,
    PWR_WAKE_LAST, AGE_HOURS, AGE_VSRAM].contains a || (decide (AGE_VTAB 0 0 ≤ a) && decide (a < AGE_VTAB 48 0)) ||
    (decide (AGE_ISLAND 0 ≤ a) && decide (a < AGE_ISLAND 48))

/-- Every dirty line reaches its stack. -/
def flushDirty (m : Mem) : Mem := m.flush 0 stackTop

/-- A ring kept over a warm reset awaits its resolve: its cause and doom are not kept. -/
def keptSlot (r : RingSlot) : RingSlot := { RingSlot.empty with voted := r.voted, prepared := r.prepared }

/-- WARMRST_N: what it keeps (R49, R230, R283, R284, R389, R417, R454), everything else at its reset value. The rings it discards
are counted after the reset. -/
def warmReset (s : State) : State :=
  let lost := [Slot.newer, Slot.older].countP fun sl => decide (1 ≤ slotState s sl) && decide (slotState s sl ≤ 3)
  let s := ringWarm s
  let z := State.reset
  let m := flushDirty s.mem
  let st := s.fld PWR_STATE fldPWR_STATE_STATE
  let kept := s.regs.filter fun e => warmKept e.1
  let t : State := { z with
    regs := kept,
    mem := { z.mem with
      stk := m.stk, pte := m.pte, exacc := m.exacc, sapNew := m.sapNew, sapOld := m.sapOld, retained := m.retained,
      accVers := m.accVers, arr := m.arr, zeroLo := m.zeroLo, epoch := m.epoch, pins := m.pins,
      poison := mapRange m.poison 0 stackTop, wback := m.wback, arrBad := m.arrBad, pinBad := m.pinBad },
    ring := { z.ring with
      highest := s.ring.highest, newer := keptSlot s.ring.newer, older := keptSlot s.ring.older, log := s.ring.log,
      evicted := s.ring.evicted, recovering := 1 },
    flt := { s.flt with lfsr := z.flt.lfsr, held := [] },
    nv := s.nv, freeCtr := s.freeCtr, entropy := s.entropy,
    wdn := { z.wdn with kept := s.wdn.kept, mgmtOut := s.wdn.mgmtOut },
    modu := { s.modu with smbOut := [] },
    pwr := { z.pwr with heatIn := s.pwr.heatIn, trip := s.pwr.trip } }
  let t := t.setFld RING_STATUS fldRING_STATUS_NEW_STATE (newerState s)
  let t := t.setFld RING_STATUS fldRING_STATUS_OLD_STATE (olderState s)
  let t := (upFrom 0 12).foldl (fun t k =>
    t.setFld (STK_CFG k) fldSTK_CFG_DIEFAIL (s.fld (STK_CFG k) fldSTK_CFG_DIEFAIL)) t
  let t := (upFrom 0 8).foldl (fun t n => t.setFld (L2_CFG n) fldL2_CFG_PINNED (pinnedWays s n)) t
  let t := t.setFld PWR_WAKE_LAST fldPWR_WAKE_LAST_SOURCE 2
  let t := t.setFld PWR_WAKE_LAST fldPWR_WAKE_LAST_FROM st
  let t := t.setFld PWR_WAKE_LAST fldPWR_WAKE_LAST_STAMP (refTime s % 2 ^ 48)
  let t := count t RING_DISCARDS lost
  resetCores (t.setBit FOR_THERM fldFOR_THERM_HEAT s.pwr.heatIn)

/-! ### The boot flash (R391, R392) -/

/-- The bytes of a chip; an erased byte reads 0xFF. -/
def flashBytes (s : State) (i : Fin 2) (o n : Nat) : List Byte := readBytes (fun _ => 0xFF) (s.modu.flash.get i) o n

/-- Bytes of a chip as a boot step reads them: none where the read fails or leaves the chip. -/
def flashRead (s : State) (b : BootIn) (i : Fin 2) (step o n : Nat) : Option (List Byte) :=
  if b.readErr.contains (i.val, step) ∨ s.modu.flashSize.get i < o + n then none else some (flashBytes s i o n)

/-- The directory of a chip, where SFDP and the directory can be read. -/
def directory (s : State) (b : BootIn) (i : Fin 2) : Option (List Byte) :=
  if (if i = 0 then b.sfdpA else b.sfdpB) then flashRead s b i 1 0 64 else none

/-- Whether a directory has the right MAGIC and CRC (R397). -/
def dirOk (d : List Byte) : Bool := at' d 0 4 == 0x52494448 && at' d 32 4 == crc32 (d.take 32)

/-- The image generation of a directory. -/
def dirGen (d : List Byte) : Nat := at' d 4 4

/-- The candidate images in the order of R397. -/
def candidates (s : State) (b : BootIn) : List (Fin 2 × List Byte) :=
  let ok := fun i => (directory s b i).filter dirOk
  match ok 0, ok 1 with
  | some a, some c => if dirGen a < dirGen c then [(1, c), (0, a)] else [(0, a), (1, c)]
  | some a, none => [(0, a)]
  | none, some c => [(1, c)]
  | none, none => []

/-- A boot step begins: STEP shows it and the console sends a line (R394, R447). -/
def bootStep (s : State) (n : Nat) : State :=
  let s := s.setFld WDN_BOOT fldWDN_BOOT_STEP n
  { s with flt := { s.flt with uart := s.flt.uart + 1 } }

/-- A boot step fails. -/
def bootFail (s : State) (step code : Nat) : State :=
  (s.setFld WDN_BOOT fldWDN_BOOT_FAILSTEP step).setFld WDN_BOOT fldWDN_BOOT_FCODE code

/-- The failing field of a canopy, as the CAN registers name it (R402). -/
def canFault (s : State) (e : CanErr) : State :=
  let s := s.setFld CAN_STATUS fldCAN_STATUS_SECTION e.sec
  let s := s.setFld CAN_FAULT fldCAN_FAULT_DETAIL e.detail
  s.setFld CAN_FAULT fldCAN_FAULT_OFFSET e.off

/-- The Warden firmware of an image, if it passes step 2: its SVN and its signed bytes. -/
def step2 (s : State) (b : BootIn) (i : Fin 2) (d : List Byte) : Except Nat (Nat × List Byte) :=
  match flashRead s b i 2 (at' d 8 4) (at' d 12 4) with
  | none => .error 20
  | some w =>
    let l := at' w 8 4
    let svn := at' w 4 4
    if w.length ≤ 0x80000 ∧ at' w 0 4 = 0x57465748 ∧ 1 ≤ svn ∧ svn ≤ 64 ∧ 32 ≤ l ∧ l + 776 ≤ w.length ∧
        trailerOk s false (w.take l) (cut w l 776) ∧ s.nv.floor ≤ svn then .ok (svn, w.take l)
    else .error 21

/-- The boot canopy of an image, if it passes step 3, and its signed bytes. -/
def step3 (s : State) (b : BootIn) (i : Fin 2) (d : List Byte) : Except CanErr (Canopy × List Byte) :=
  match flashRead s b i 3 (at' d 16 4) (at' d 20 4) with
  | none => .error ⟨20, 0, 0, 0⟩
  | some w =>
    match verifyCanopy s w 0 with
    | .ok c => .ok (c, w.take c.len)
    | .error e => .error e

/-- Both measurement registers that an image extends return to 0 (R397). -/
def clearMeas (s : State) : State := setMeas (setMeas s 0 []) 1 []

/-- Step 3 of an image: the canopy, and M1 extended. -/
def tryStep3 (s : State) (b : BootIn) (i : Fin 2) (d : List Byte) : State × Option Canopy :=
  let s := bootStep s 3
  match step3 s b i d with
  | .ok (c, obj) => (extend s 1 obj, some c)
  | .error e => (clearMeas (canFault (bootFail s 3 e.code) e), none)

/-- The images tried in turn, steps 2 and 3 (R397). `first` says that no image has failed yet. -/
def tryImages (b : BootIn) : State → Bool → List (Fin 2 × List Byte) → State × Option (Fin 2 × List Byte × Canopy)
  | s, _, [] => (s, none)
  | s, first, (i, d) :: l =>
    let s := bootStep s 2
    match step2 s b i d with
    | .error code => tryImages b (clearMeas (bootFail s 2 code)) false l
    | .ok (svn, obj) =>
      let s := extend s 0 obj
      match tryStep3 s b i d with
      | (s, none) => tryImages b s false l
      | (s, some c) =>
        let s := s.setFld WDN_SVN fldWDN_SVN_SVN svn
        let s := s.setFld WDN_BOOT fldWDN_BOOT_IMAGE i.val
        (s.setBit WDN_BOOT fldWDN_BOOT_FALLBACK (!first), some (i, d, c))

/-- Recovery mode (R398): the management port is the Warden's alone, at a MAC address of its own. -/
def recovery (s : State) : State :=
  let s := s.setBit WDN_BOOT fldWDN_BOOT_RECOVERY true
  s.modWdn fun w => { w with mac := 0x020000000000 + Config.dieid.toNat % 2 ^ 40, mgmtMode := false, linkUp := false }

/-! ### Coppice (R14, R16, R386, R387) -/

/-- Whether an element is retired. -/
def isRetired (s : State) (kind phys sub : Nat) : Bool := s.nv.retired.contains (kind, phys, sub)

/-- The serviceable permitted elements of a quadrant, ascending: kind 0 cores, 2 banks, 4 ports, `n` to a quadrant. -/
def serviceable (s : State) (kind n perm q : Nat) : List Nat :=
  (upFrom (n * q) n).filter fun p => bitOf perm p && !isRetired s kind p 0

/-- The ways of a slice that serve, ascending. -/
def goodWays (s : State) (n : Nat) : List Nat := (upFrom 0 17).filter fun w => !isRetired s 1 n w

/-- The retired columns of an array of a physical core. -/
def badColumns (s : State) (p a : Nat) : Nat := (upFrom 0 65).countP fun x => isRetired s 10 p (a * 65 + x)

/-- The first quadrant and element kind that fall short (R16): the detail as CAN_FAULT gives it, and the serviceable elements. Where
several do, cores come before banks and banks before ports, and of one kind the lowest quadrant (DESIGN CHOICE, assumption 89). -/
def shortOf (s : State) (cores ports banks : Nat) : Option (Nat × Nat) :=
  let look := fun (kind code n need perm : Nat) =>
    (upFrom 0 4).findSome? fun q =>
      let k := (serviceable s kind n perm q).length
      if k < need then some (q + 4 * code, k) else none
  ((look 0 0 13 12 cores).or (look 2 1 17 16 banks)).or (look 4 2 9 8 ports)

/-- The first slice whose ways cannot meet PINNED. -/
def pinShort (s : State) (p : Nat) : Option (Nat × Nat) :=
  (upFrom 0 8).findSome? fun n => if (goodWays s n).length < p then some (n / 2 + 12, (goodWays s n).length) else none

/-- Logical numbers of cores, and what their arrays have (R14, R116, R387). -/
def numberCores (s : State) (perm : Nat) : State :=
  allCores.foldl (fun s (c : CoreId) =>
    let q := c.val / 12
    let p := (serviceable s 0 13 perm q).getD (c.val % 12) 0
    let s := s.setFld (CORE_ID c) fldCORE_ID_PHYS p
    let s := s.setFld (CORE_ID c) fldCORE_ID_QUAD q
    let s := s.setFld (CORE_ID c) fldCORE_ID_LOGICAL c
    let bits := fun (f : Nat → Bool) => ((upFrom 0 4).map fun a => if f a then 2 ^ a else 0).foldl (· + ·) 0
    let s := s.setFld (TILE_CFG c) fldTILE_CFG_SPARE (bits fun a => badColumns s p a == 1)
    let s := s.setFld (TILE_CFG c) fldTILE_CFG_OUT (bits fun a => decide (2 ≤ badColumns s p a))
    setActive s c) s

/-- Logical numbers of banks. -/
def numberBanks (s : State) (perm : Nat) : State :=
  let s := s.modMem fun m => { m with bankOut := [] }
  (upFrom 0 64).foldl (fun s n =>
    s.setFld (BANK_GRP_CFG (n / 4)) ⟨7 * (n % 4) + 6, 7 * (n % 4)⟩ ((serviceable s 2 17 perm (n / 16)).getD (n % 16) 0)) s

/-- The ports in use. -/
def choosePorts (s : State) (perm : Nat) : State :=
  (upFrom 0 36).foldl (fun s p =>
    s.setBit (RIDE_PORT_STATUS p) fldRIDE_PORT_STATUS_ACTIVE (((serviceable s 4 9 perm (p / 9)).take 8).contains p)) s

/-- Logical ways; where fewer than 16 serve, the lowest logical ways are out of service. -/
def mapWays (s : State) : State :=
  (List.finRange 8).foldl (fun s (n : Fin 8) =>
    let g := (goodWays s n).take 16
    let out := 16 - g.length
    let s := s.setFld (L2_CFG n) fldL2_CFG_OUT (2 ^ out - 1)
    let s := s.setBit (L2_CFG n) fldL2_CFG_SPARE (g.contains 16)
    s.modWdn fun w => { w with ways := w.ways.set n (List.replicate out 17 ++ g) }) s

/-- Spare TSVs of each stack. A stack with more than its 64 retired shows 64, and the canopy load goes on (DESIGN CHOICE, assumption 90). -/
def mapTsvs (s : State) : State :=
  (upFrom 0 12).foldl (fun s st =>
    s.setFld (STK_CFG st) fldSTK_CFG_TSVSP (min 64 ((upFrom 0 2112).countP fun t => isRetired s 11 st t))) s

/-- AGE_SPARES: the spares in use. -/
def countSpares (s : State) : State :=
  let quad := fun (f : Nat → Bool) => ((upFrom 0 4).map fun q => if f q then 2 ^ q else 0).foldl (· + ·) 0
  let phys := allCores.map (physOf s)
  let s := s.setFld AGE_SPARES fldAGE_SPARES_CORES (quad fun q => phys.contains (13 * q + 12))
  let s := s.setFld AGE_SPARES fldAGE_SPARES_BANKS (quad fun q => (upFrom 0 64).any fun n => physBank s n == 17 * q + 16)
  let s := s.setFld AGE_SPARES fldAGE_SPARES_PORTS (quad fun q => s.test (RIDE_PORT_STATUS (9 * q + 8)) fldRIDE_PORT_STATUS_ACTIVE)
  let s := s.setFld AGE_SPARES fldAGE_SPARES_WAYS
    (((upFrom 0 8).map fun n => if s.test (L2_CFG n) fldL2_CFG_SPARE then 2 ^ n else 0).foldl (· + ·) 0)
  let s := s.setFld AGE_SPARES fldAGE_SPARES_COLS
    ((allCores.map fun (c : CoreId) => ones 4 (s.fld (TILE_CFG c) fldTILE_CFG_SPARE)).foldl (· + ·) 0)
  s.setFld AGE_SPARES fldAGE_SPARES_TSVS
    (((upFrom 0 12).map fun st => s.fld (STK_CFG st) fldSTK_CFG_TSVSP).foldl (· + ·) 0)

/-- What the tests of step 4 find retires: cores, L2 ways and TSVs (R386). -/
def bootTests (s : State) (b : BootIn) : State :=
  let s := b.coreFail.foldl (fun s p => retire s 0 p 0) s
  let s := b.wayFail.foldl (fun s w =>
    logFault (retire s 1 w.1 w.2) { mkRec 11 3 1 w.1 with flags := 4, sub := w.2 }) s
  b.tsvFail.foldl (fun s t => retire s 11 t.1 t.2) s

/-- The stacks' repair tables and failed dies reloaded from the Warden's record (R277, R279). -/
def loadRepairs (s : State) : State :=
  (upFrom 0 12).foldl (fun s st =>
    let s := showRepairs s st
    match s.nv.retired.find? fun r => r.1 == 3 && r.2.1 == st with
    | some r => s.setFld (STK_CFG st) fldSTK_CFG_DIEFAIL r.2.2
    | none => s) s

/-! ### The registers a boot canopy sets (Table 15.3) -/

/-- The ENERGY section. -/
def applyEnergy (s : State) (b : List Byte) : State :=
  let s := (upFrom 0 10).foldl (fun s e => s.setFld (FOR_CLASS e) fldFOR_CLASS_POWER (at' b (2 * e) 2)) s
  let s := s.setFld FOR_BUDGET fldFOR_BUDGET_LIMIT (at' b 20 2)
  let s := s.setFld FOR_BUDGET fldFOR_BUDGET_WATTS (min (at' b 24 2) (at' b 20 2))
  let s := s.setFld FOR_CFG fldFOR_CFG_UNCORE (at' b 22 2)
  let s := s.setFld FOR_CREDIT_CFG fldFOR_CREDIT_CFG_CAP (at' b 26 4)
  let s := s.setFld FOR_CREDIT_CFG fldFOR_CREDIT_CFG_RESERVE (at' b 30 4)
  let s := s.setFld FOR_CFG fldFOR_CFG_HORIZON (at' b 34 2)
  let s := s.setFld FOR_CFG fldFOR_CFG_STARVE (at' b 36 2)
  let s := (List.finRange 4).foldl (fun s k =>
    let o := 40 + 8 * k.val
    let s := s.setBit (FOR_ACT k) fldFOR_ACT_DEFER (k.val != 0)
    let s := s.setFld (FOR_ACT k) fldFOR_ACT_MAXDEFER (at' b (o + 1) 1)
    let s := s.setFld (FOR_ACT k) fldFOR_ACT_PERIOD (at' b (o + 4) 4)
    let s := s.setBit (FOR_ACT k) fldFOR_ACT_EN (at' b o 1 == 1)
    setAct s k { actOf s k with nominal := refTime s, due := refTime s }) s
  s.setFld AGE_CFG fldAGE_CFG_VMAX (at' b 72 2)

/-- The sections that only a boot canopy holds, STRUCTURE apart. -/
def applyBootSecs (s : State) (c : Canopy) : State :=
  let body := fun t => ((c.sec t).map Section.body).getD []
  let s := s.modWdn fun w => { w with lanes := (upFrom 0 36).map fun p => at' (body 2) (2 * p) 2,
                                      mac := beNat (cut (body 4) 8 6), mgmtMode := at' (body 4) 14 1 == 1 }
  let s := s.modPwr fun p => { p with clkGroup := Vector.ofFn fun (c : CoreId) => at' (body 3) c.val 1,
                                      restGroup := Vector.ofFn fun (c : CoreId) => at' (body 3) (48 + c.val) 1 }
  let s := s.setFld RIDE_DEVICE fldRIDE_DEVICE_NUMBER (at' (body 4) 0 4)
  let s := (upFrom 0 12).foldl (fun s st => s.setFld (STK_CFG st) fldSTK_CFG_ILV (at' (body 5) 0 1)) s
  let s := s.setFld RING_POOL fldRING_POOL_TOTAL (at' (body 5) 4 4)
  let s := applyEnergy s (body 6)
  let s := s.setBit CAN_POLICY fldCAN_POLICY_WINDTHROW (bitOf (at' (body 7) 0 1) 0)
  let s := s.setBit CAN_POLICY fldCAN_POLICY_LAUNCH_SIG (bitOf (at' (body 7) 0 1) 1)
  let s := s.setFld CAN_POLICY fldCAN_POLICY_DRAIN_MS (at' (body 7) 2 2)
  s.setReg CAN_BOOT_SERIAL (BitVec.ofNat 64 c.serial)

/-- The WT registers at their reset values (R422). -/
def wtReset (s : State) : State :=
  { s with regs := s.regs.filter fun e => !inBlock WT_CTRL e.1, flt := { s.flt with lfsr := FltSt.reset.lfsr, held := [] } }

/-- The rails as a boot finds them: at the 0.800 V of the board's power-up sequence (R436). -/
def railsUp (s : State) : State :=
  (upFrom 0 5).foldl (fun s k =>
    (s.setFld (PWR_RAIL k) fldPWR_RAIL_NOW 800).setFld (PWR_RAIL k) fldPWR_RAIL_TARGET 800) s

/-- Every domain of every state at Full (R367): the domains of PWR_STATE.DOMON up, every logical core Full. Forester comes up with
HEAT as HEAT_IN_N stands (R354), and scrubbing starts anew in every stack (R280). -/
def domainsUp (s : State) : State :=
  let s := s.setFld PWR_STATE fldPWR_STATE_DOMON (2 ^ 40 - 1)
  let s := s.setBit FOR_THERM fldFOR_THERM_HEAT s.pwr.heatIn
  let s := s.modFor fun f => { f with scrubAt := Vector.replicate 12 (refTime s) }
  allCores.foldl (fun s (c : CoreId) =>
    (s.setFld (PWR_CORE c) fldPWR_CORE_STATE 0).setBit (PWR_CORE c) fldPWR_CORE_REST false) s

/-- A canopy load (R395), or the detail and count of its failure. -/
def canopyLoad (s : State) (old : Before) (c : Canopy) : Except (Nat × Nat) State :=
  let x := ((c.sec 1).map Section.body).getD []
  let pin := at' (((c.sec 0x11).map Section.body).getD []) 1 1
  match (shortOf s (at' x 0 8) (at' x 8 8) (at' x 16 16)).or (pinShort s pin) with
  | some e => .error e
  | none =>
    let s := domainsUp s
    let s := numberCores s (at' x 0 8)
    let s := numberBanks s (at' x 16 16)
    let s := choosePorts s (at' x 8 8)
    let s := mapTsvs (mapWays s)
    let s := wtReset (applyBootSecs (loadRepairs s) c)
    let s := s.modWdn fun w => { w with applied := true, energy := ((c.sec 6).map Section.body).getD [], coresOut := [] }
    let was := fun (c : CoreId) => mapGet (fun _ => 0) old.shares (physOf s c)
    let s := if (c.sec 0x11).isSome then s else (List.finRange 8).foldl (fun s n => setPinned s n 0) s
    let s := if (c.sec 0x10).isSome then s else allCores.foldl (fun s (c : CoreId) => setShare s c (was c) 0) s
    .ok (railsUp (countSpares (applyLaunchSecs s was c)))

/-- The device's state, Table 14.5. -/
def devState (s : State) : Nat := s.fld PWR_STATE fldPWR_STATE_STATE

/-- The device's state set. -/
def setDevState (s : State) (n : Nat) : State := s.setFld PWR_STATE fldPWR_STATE_STATE n

/-! ### Steps 4 to 6 -/

/-- Step 4's failure (R16): its code, detail and record. -/
def structFail (s : State) (detail n : Nat) : State :=
  let s := canFault (bootFail s 4 9) ⟨9, 1, 0, detail⟩
  logFault s { mkRec 17 4 8 (ownDevice s) with sub := detail, arg := n }

/-- Stacked memory and rings as after PORESET_N (R283, R284, R370, R396): numbers already given out are kept; the decision log goes
unless the device leaves Off. -/
def clearStacks (s : State) (logToo : Bool) : State :=
  let s := s.modMem fun m =>
    { m with stk := [], dirty := [], pte := [], pteCmd := [], exacc := [], sapNew := Sap.empty, sapOld := Sap.empty,
             retained := Sap.empty, accVers := [], poison := mapDropRange m.poison 0 stackTop, wback := [], l2Bad := [] }
  let s : State := { s with regs := s.regs.filter fun e =>
    !([RING_VISIBLE, RING_PREV, RING_GSTEP, RING_NEWER, RING_OLDER, RING_STATUS] : List Nat).contains e.1 }
  { s with ring := { RingSt.reset with
      recovering := s.ring.recovering, highest := s.ring.highest, log := if logToo then [] else s.ring.log, evicted := if logToo then [] else s.ring.evicted } }

/-- The destructive march over every bank, its repairs and its failures (R269, R270). -/
def bootMarch (s : State) (b : BootIn) : State :=
  let s := s.modMem fun m => { m with bank := [], poison := mapDropRange m.poison bankBase windowBase, soft := [] }
  let s := b.fail.foldl bankFail (b.rep.foldl bankRepair s)
  let s := s.setBit BANK_MARCH_STATUS fldBANK_MARCH_STATUS_DONE true
  (s.setBit BANK_MODE fldBANK_MODE_SINGLE false).setBit BANK_MODE fldBANK_MODE_NOW false

/-- Whether every granule of a load range is PLAIN stacked memory outside the pool (R394). -/
def plainRange (s : State) (a n : Nat) : Bool :=
  decide (a + n ≤ stackTop) &&
    (upFrom (granule a) ((a % 0x10000 + n + 0xFFFF) / 0x10000)).all fun g => !inPool s g && pteOf s g % 4 == 0

/-- Step 6: the Ranger firmware loaded and measured, vector 0 of every core written, the cores released; or its failure. -/
def loadRanger (s : State) (b : BootIn) (i : Fin 2) (d : List Byte) : State :=
  let s := bootStep s 6
  match flashRead s b i 6 (at' d 24 4) (at' d 28 4) with
  | none => bootFail s 6 20
  | some w =>
    let l := at' w 4 4
    let a := at' w 8 8
    if at' w 0 4 = 0x57465248 ∧ l + 32 ≤ w.length ∧ l + 32 ≤ 0x4000000 ∧ a % 0x10000 = 0 ∧ plainRange s a l then
      let s := extend s 2 (w.take (l + 32))
      let s := writeOrWait s 77 a (cut w 32 l)
      allCores.foldl (fun s (c : CoreId) =>
        let stub := (upFrom 0 32).map fun k => Config.bootStub (at' w 16 8) c.val k
        releaseCore (s.modMem fun m => { m with arr := overlay m.arr (arrKey s c 0) stub }) c) s
    else bootFail s 6 22

/-- Whether a port is out of service until the next canopy load: FAILED or REFUSED (R21, Table 12.2). -/
def portOut (s : State) (p : Nat) : Bool :=
  s.fld (RIDE_PORT_STATUS p) fldRIDE_PORT_STATUS_STATE == 5 || s.fld (RIDE_PORT_STATUS p) fldRIDE_PORT_STATUS_STATE == 6

/-- A port that is not out of service is taken down. -/
def takeDown (s : State) (p : Nat) : State :=
  if portOut s p then s else s.setFld (RIDE_PORT_STATUS p) fldRIDE_PORT_STATUS_STATE 0

/-- Step 7 begins: every active port that is in service trains, and no packet leaves for 4 ms (R313, R336). -/
def startTraining (s : State) : State :=
  let s : State := { s with ride := { s.ride with quiet := true } }
  (upFrom 0 36).foldl (fun s p =>
    if portOut s p then s
    else if s.test (RIDE_PORT_STATUS p) fldRIDE_PORT_STATUS_ACTIVE then s.setFld (RIDE_PORT_STATUS p) fldRIDE_PORT_STATUS_STATE 1
    else s.setFld (RIDE_PORT_STATUS p) fldRIDE_PORT_STATUS_STATE 0) s

/-- Whether every active port has trained and joined, or has failed or been refused. -/
def portsSettled (s : State) : Bool :=
  (upFrom 0 36).all fun p => s.fld (RIDE_PORT_STATUS p) fldRIDE_PORT_STATUS_STATE != 1 &&
    s.fld (RIDE_PORT_STATUS p) fldRIDE_PORT_STATUS_STATE != 2

/-- Step 8: service begins. -/
def startService (s : State) : State :=
  let s := bootStep s 8
  s.setFld WDN_BOOT fldWDN_BOOT_READY_MS (min (refTime s / 100000) (2 ^ 32 - 1))

/-- A boot at step 7 reaches step 8 once its ports have settled. -/
def bootCheck (s : State) : State :=
  if s.fld WDN_BOOT fldWDN_BOOT_STEP = 7 ∧ s.fld PWR_STATE fldPWR_STATE_STATE = 0 ∧ portsSettled s then startService s else s

/-- The time that a boot takes. -/
def passTime (s : State) (n : Nat) : State := s.setReg (CORE_REFTIME 0) (s.reg (CORE_REFTIME 0) + BitVec.ofNat 64 n)

/-- The margin plan of a power-up, with its readings; an ageing record that cannot be read leaves the planner no history (R382, R384). -/
def planUp (s : State) (b : BootIn) : State :=
  let s := if b.ageErr then { s with nv := { s.nv with planned := false, delta := [], deltaSram := 0 } } else s
  planRun (storeMon s b.mon)

/-- Steps 4 to 7 from a chosen image (R394 to R396). -/
def bootOn (s : State) (b : BootIn) (old : Before) (i : Fin 2) (d : List Byte) (c : Canopy) : State :=
  let s := bootTests (bootStep s 4) b
  match canopyLoad s old c with
  | .error (detail, n) => passTime (structFail s detail n) b.elapsed
  | .ok s =>
    let now := (s.fld (STK_CFG 0) fldSTK_CFG_ILV, poolTotal s, s.fld RIDE_DEVICE fldRIDE_DEVICE_NUMBER)
    let reshaped := old.warm && s.wdn.kept.isSome && s.wdn.kept != some now
    let s := s.modWdn fun w => { w with kept := some now }
    let s := planUp (s.modWdn fun w => { w with vmode := b.vmode }) b
    let s := bootStep s 5
    let s := if old.warm ∧ reshaped = false then s else clearStacks s (devState s != 5)
    let s := s.setBit WDN_BOOT fldWDN_BOOT_RESHAPED reshaped
    let s := loadRanger (bootMarch s b) b i d
    let s := passTime s b.elapsed
    bootCheck (applyCaps (startTraining (bootStep s 7)))

/-- The boot sequence (R394, R397). -/
def boot (s : State) (b : BootIn) (old : Before) : State :=
  let s := bootStep s 1
  let s := match s.pwr.trip with
    | some (q, t) =>
      if s.test PWR_STATE fldPWR_STATE_TRIPPED ∧ old.warm = false then
        (logFault s { mkRec 19 4 8 (ownDevice s) with sub := q, addr := t }).modPwr fun p => { p with trip := none }
      else s
    | none => s
  let gen := fun i => ((directory s b i).map dirGen).getD 0
  let s := s.modWdn fun w => { w with genA := gen 0, genB := gen 1 }
  let s := s.setFld WDN_SVN fldWDN_SVN_FLOOR s.nv.floor
  let s := s.setBit WDN_SVN fldWDN_SVN_OWNER (s.nv.okey.any (· != 0))
  let cs := candidates s b
  if cs.isEmpty then
    recovery (bootFail s 1 (if (directory s b 0).isNone ∧ (directory s b 1).isNone then 20 else 21))
  else
    match tryImages b s true cs with
    | (s, none) => recovery s
    | (s, some (i, d, c)) => bootOn s b old i d c

/-- PORESET: PORESET_N is released and the device boots. -/
def execPoreset (b : BootIn) (s : State) : Outcome State Fault Refusal :=
  let t := poreset s
  let t : State := { t with modu := { t.modu with smbAddr := 0x48 + b.straps % 4 } }
  next s (boot (writeRates t) b { warm := false, shares := [] })

/-- WARMRST_N's effect, from the pin or from the mailbox: none while PORESET_N is asserted (R437), nor after a thermal trip, which
PORESET_N alone leaves (R372). -/
def warmRst (s : State) (b : BootIn) : State :=
  if s.modu.poresetLow ∨ s.pwr.thermtrip then s
  else boot (warmReset s) b { warm := true, shares := sharesNow s }

/-- WARMRST. -/
def execWarmrst (b : BootIn) (s : State) : Outcome State Fault Refusal := next s (warmRst s b)

/-- PORESET_N_ASSERT: the device is held in reset (R437). -/
def execPoresetNAssert (s : State) : Outcome State Fault Refusal :=
  let t := poreset s
  next s { t with modu := { t.modu with poresetLow := true }, pwr := { t.pwr with thermtrip := s.pwr.thermtrip } }

/-- VDD_AON_REMOVAL: what the Warden domain held is lost, and the device stays in reset with no wake since (Table 14.6); the Warden's
store and the flash keep. -/
def execVddAonRemoval (s : State) : Outcome State Fault Refusal :=
  let z := State.reset
  let t : State := { z with
    nv := s.nv, freeCtr := s.freeCtr, entropy := s.entropy, mem := { z.mem with epoch := s.mem.epoch + 1 },
    modu := { z.modu with poresetLow := true, flash := s.modu.flash, flashSize := s.modu.flashSize } }
  next s (resetCores ((t.setReg AGE_HOURS (s.reg AGE_HOURS)).setFld PWR_WAKE_LAST fldPWR_WAKE_LAST_SOURCE 0))

/-! ### Device states (R367 to R371) -/

/-- The registers that stand through Rest: the Warden's domain, the ring and Windthrow blocks, each core's block (reset apart), the
structure in effect (Table 14.5) and BANK_MODE (Table 17.3, P). -/
def restKept (a : Nat) : Bool :=
  inBlock CAN_STATUS a || inBlock WDN_BOOT a || inBlock PWR_STATE a || inBlock AGE_CFG a || inBlock RING_CTRL a ||
    inBlock WT_CTRL a || inBlock FLT_HEAD a || (decide (CORE_ID 0 ≤ a) && decide (a < CORE_ID 48)) ||
    (upFrom 0 16).any (fun g => a == BANK_GRP_CFG g || a == BANK_REPAIR g) || a == BANK_MODE || a == RIDE_DEVICE ||
    (decide (BANK_REGION 0 0 ≤ a) && decide (a < BANK_REGION 79 0)) ||
    (upFrom 0 8).any (fun n => a == L2_CFG n) || (upFrom 0 12).any (fun n => a == STK_CFG n || a == STK_REPAIR n) ||
    (upFrom 0 36).any (fun p => a == RIDE_PORT_STATUS p)

/-- Every domain but the Warden's is down: the L2 is written back, and a core keeps only its array, a bank its contents, a stack
its contents (Table 14.2). What a canopy set stands; every other register of a domain takes its reset value (Table 14.3). -/
def powerDownRest (s : State) : State :=
  let s := allCores.foldl (fun s (c : CoreId) => s.setFld (PWR_CORE c) fldPWR_CORE_STATE 3) s
  let s := s.setFld PWR_STATE fldPWR_STATE_DOMON 0
  let s := s.modMem fun m => { flushDirty m with
    slices := Vector.replicate 8 Slice.empty, pins := [], pinBad := [], l2Bad := [], pteCmd := [], openRows := [], sorter := [], turns := [],
    streak := [], dieErr := [], rowErr := [], colErr := [] }
  let s : State := { s with
    regs := s.regs.filter fun e => restKept e.1,
    xfer := Vector.replicate 16 XEng.reset, ride := RideSt.reset, forr := ForSt.reset }
  let s := (upFrom 0 12).foldl (fun s st =>
    s.setFld (STK_CFG st) fldSTK_CFG_DIETHR (fldSTK_CFG_DIETHR.get (regReset (STK_CFG st)))) s
  (upFrom 0 36).foldl (fun s p =>
    let s := s.setFld (RIDE_PORT_STATUS p) fldRIDE_PORT_STATUS_LANES 0
    takeDown (s.setFld (RIDE_PORT_STATUS p) fldRIDE_PORT_STATUS_SPARE 7) p) (s.setBit RIDE_DEVICE fldRIDE_DEVICE_JOINED false)

/-- The registers that stand through Off: the Warden's domain, and RING_NEXT (R370). -/
def offKept (a : Nat) : Bool :=
  inBlock CAN_STATUS a || inBlock WDN_BOOT a || inBlock PWR_STATE a || inBlock AGE_CFG a || inBlock FLT_HEAD a ||
    a == CORE_REFTIME 0 || a == RING_NEXT

/-- Every domain but the Warden's has lost what it held (R370, R454). -/
def powerDownOff (s : State) : State :=
  let z := State.reset
  let s := allCores.foldl (fun s (c : CoreId) => s.setFld (PWR_CORE c) fldPWR_CORE_STATE 4) s
  let s := s.setFld PWR_STATE fldPWR_STATE_DOMON 0
  { s with
    regs := s.regs.filter fun e => offKept e.1, ll := [], cores := z.cores,
    mem := { z.mem with epoch := s.mem.epoch + 1 },
    ring := { z.ring with highest := s.ring.highest, log := s.ring.log, evicted := s.ring.evicted },
    xfer := z.xfer, ride := z.ride, forr := z.forr }

/-- Whether a thermal trip stands: TRIPPED, which PORESET_N alone leaves (R372). -/
def tripped (s : State) : Bool := s.pwr.thermtrip

/-- Whether every channel has drained (R19, R367 step 2): no engine, fill, request, packet or waiting write has anything to deliver. -/
def channelsDrained (s : State) : Bool :=
  (s.xfer.toList.all fun x => x.queue.isEmpty && x.active.isEmpty) && (s.mem.slices.toList.all fun sl => sl.fills.isEmpty) &&
    s.flt.held.isEmpty && s.mem.poolWait.isEmpty && (s.cores.toList.all fun k => k.mbuf.isEmpty) && s.ride.reqs.isEmpty && s.ride.waiting.isEmpty &&
    s.ride.outbox.isEmpty && s.ride.loop.isEmpty && s.ride.inbox.isEmpty && s.ride.held.isEmpty && s.ride.ports.toList.all fun q => q.txq.isEmpty

/-- DOMAIN_POWER_DOWN_DONE: once the channels have drained, ENTER_REST becomes REST, and in OFF the contents are gone. -/
def execDomainPowerDownDone (s : State) : Outcome State Fault Refusal :=
  if tripped s ∨ channelsDrained s = false then next s s
  else if devState s = 1 then next s (setDevState (powerDownRest s) 2)
  else if devState s = 4 then next s (powerDownOff s)
  else next s s

/-- Whether a device wake source is enabled and present (R371, R446). -/
def wakeEnabled (s : State) (n : Nat) : Bool :=
  decide (3 ≤ n) && decide (n ≤ 7) && bitOf (s.fld PWR_WAKE_EN fldPWR_WAKE_EN_EN) (n - 3) &&
    (n != 6 || decide (s.reg PWR_WAKE_TIMER ≤ s.reg (CORE_REFTIME 0))) &&
    (n != 7 || decide (s.fld PWR_WAKE_EN fldPWR_WAKE_EN_GPIO < 12))

/-- PWR_WAKE_LAST of a device wake. -/
def wakeNote (s : State) (source : Nat) : State :=
  let s := s.setFld PWR_WAKE_LAST fldPWR_WAKE_LAST_FROM (devState s)
  let s := s.setFld PWR_WAKE_LAST fldPWR_WAKE_LAST_SOURCE source
  s.setFld PWR_WAKE_LAST fldPWR_WAKE_LAST_STAMP (refTime s % 2 ^ 48)

/-- Leaving Off: boot steps 3 to 7, the image last booted first (Table 14.5). -/
def bootFromOff (s : State) (b : BootIn) : State :=
  let old : Before := { warm := false, shares := [] }
  let cs := candidates s b
  let i : Fin 2 := Fin.ofNat 2 (s.fld WDN_BOOT fldWDN_BOOT_IMAGE)
  match cs.find? fun e => e.1 == i with
  | none =>
    match tryImages b s false cs with
    | (s, none) => recovery s
    | (s, some (i, d, c)) => bootOn s b old i d c
  | some (_, d) =>
    match tryStep3 s b i d with
    | (s, some c) => bootOn s b old i d c
    | (s, none) =>
      match tryImages b s false (cs.filter fun e => e.1 != i) with
      | (s, none) => recovery s
      | (s, some (i, d, c)) => bootOn s b old i d c

/-- Every core that is in service is released at vector 0 (Table 14.5, R21). -/
def releaseAll (s : State) : State :=
  allCores.foldl (fun s (c : CoreId) => if s.wdn.coresOut.contains c.val then s else releaseCore s c) s

/-- DEVICE_WAKE: an enabled source in ENTER_REST, REST or OFF; none after a thermal trip. The wake from Rest re-applies the structure
that stood, the boot canopy's ENERGY section among it, and draws new seal keys as a power-up does (DESIGN CHOICE, assumption 92). -/
def execDeviceWake (source : Fin 16) (b : BootIn) (s : State) : Outcome State Fault Refusal :=
  if s.modu.poresetLow then next s s else
  if wakeEnabled s source = false ∨ tripped s then next s s
  else if devState s = 1 then
    next s (setDevState (releaseAll (startTraining (wakeNote s source))) 0)
  else if devState s = 2 then
    let t := applyEnergy (domainsUp (wakeNote s source)) s.wdn.energy
    let t := resetCores (allCores.foldl coreReset t)
    let t := applyCaps (planUp t b)
    next s (setDevState (startTraining (passTime t b.elapsed)) 3)
  else if devState s = 4 then
    next s (bootFromOff (resetCores (setDevState (wakeNote (powerDownOff s) source) 5)) b)
  else next s s

/-- WAKE_COMPLETE: the fabric is joined, and the device returns to RUN. -/
def execWakeComplete (s : State) : Outcome State Fault Refusal :=
  if portsSettled s = false ∨ tripped s then next s s
  else if devState s = 3 then next s (setDevState (releaseAll s) 0)
  else if devState s = 5 ∧ s.fld WDN_BOOT fldWDN_BOOT_STEP = 7 then next s (startService (setDevState s 0))
  else next s s

/-- A request for Rest or Off taken: every core stops with reason 3, its merging buffer drains (R367), and the ports are taken
down. -/
def enterDown (s : State) (n : Nat) : State :=
  let s := allCores.foldl drainMerge (stopAll s)
  setDevState ((upFrom 0 36).foldl takeDown s) n

end Sys2Proof.Machine
end

