-- ==== Sys2Proof/Machine/Warden.lean ====
section
/-! DEFINITION. The Warden in service: the mailbox and its commands, launches, the service queue, the management port and the fault
log's own commands (R398, R403 to R409, R417). -/
namespace Sys2Proof.Machine
open Host

/-! ### The service queue (R409) -/

/-- An event bit of the endpoint set, with RIDE_EVENT raised on the routed cores (Table 12.14). -/
def rideEvent (s : State) (bit : Nat) : State :=
  let s := s.setReg RIDE_EVENT (s.reg RIDE_EVENT ||| BitVec.ofNat 64 (2 ^ bit))
  raiseMask s (s.fld RIDE_EVENT_ROUTE fldRIDE_EVENT_ROUTE_CORES) 23

/-- Entries not yet consumed. -/
def svcHeld (s : State) : Nat :=
  (s.fld WDN_SVCQ_HEAD fldWDN_SVCQ_HEAD_COUNT + 2 ^ 32 - s.fld WDN_SVCQ_TAIL fldWDN_SVCQ_TAIL_COUNT) % 2 ^ 32

/-- LOG2N. -/
def svcLog (s : State) : Nat := s.fld WDN_SVCQ_BASE fldWDN_SVCQ_BASE_LOG2N

/-- Whether the service queue is full: always with LOG2N = 0. -/
def svcFull (s : State) : Bool := svcLog s == 0 || decide (2 ^ svcLog s ≤ svcHeld s)

/-- The address of the entry written next. -/
def svcSlot (s : State) : Nat :=
  s.fld WDN_SVCQ_BASE fldWDN_SVCQ_BASE_BASE * 64 + s.fld WDN_SVCQ_HEAD fldWDN_SVCQ_HEAD_COUNT % 2 ^ svcLog s * 128

/-- An entry: the payload, its source and the time of its arrival. -/
def svcEntry (s : State) (payload : List Byte) (src : Nat) : List Byte :=
  (payload ++ List.replicate 64 0).take 64 ++ bytesOfNat 4 src ++ bytesOfNat 4 0 ++ bytesOfNat 8 (refTime s) ++
    List.replicate 48 0

/-- Whether the bank of the next entry is under destructive test, so that its write waits (R269). -/
def svcWaits (s : State) : Bool := !svcFull s && bankWaits s (svcSlot s) 128

/-- An entry is placed in a queue that is not full: written, counted, and SERVICE raised. `m` is the master that writes it. -/
def svcEnq (s : State) (m : Nat) (payload : List Byte) (src : Nat) : State :=
  let s := writeOrWait s m (svcSlot s) (svcEntry s payload src)
  let s := s.setFld WDN_SVCQ_HEAD fldWDN_SVCQ_HEAD_COUNT (s.fld WDN_SVCQ_HEAD fldWDN_SVCQ_HEAD_COUNT + 1)
  rideEvent s 2

/-- A write of WDN_SVCQ_BASE. -/
def svcqBaseOp (s : State) (v : Word) : State :=
  if 13 ≤ fldWDN_SVCQ_BASE_LOG2N.get v then s
  else
    let s := s.setFld WDN_SVCQ_BASE fldWDN_SVCQ_BASE_BASE (fldWDN_SVCQ_BASE_BASE.get v)
    let s := s.setFld WDN_SVCQ_BASE fldWDN_SVCQ_BASE_LOG2N (fldWDN_SVCQ_BASE_LOG2N.get v)
    (s.setFld WDN_SVCQ_HEAD fldWDN_SVCQ_HEAD_COUNT 0).setFld WDN_SVCQ_TAIL fldWDN_SVCQ_TAIL_COUNT 0

/-- A write of WDN_SVCQ_TAIL: one beyond HEAD is ignored (Table 15.16). -/
def svcqTailOp (s : State) (v : Word) : State :=
  let t := fldWDN_SVCQ_TAIL_COUNT.get v
  let adv := (t + 2 ^ 32 - s.fld WDN_SVCQ_TAIL fldWDN_SVCQ_TAIL_COUNT) % 2 ^ 32
  if svcHeld s < adv then s else s.setFld WDN_SVCQ_TAIL fldWDN_SVCQ_TAIL_COUNT t

/-- SVCQ_BASE_WRITE. -/
def execSvcqBaseWrite (v : Word) (s : State) : Outcome State Fault Refusal := if s.modu.poresetLow then next s s else next s (svcqBaseOp s v)

/-! ### Fault records (R417, R419) -/

/-- A record's 64 bytes (Table 16.3). -/
def recBytes (r : FaultRec) : List Byte :=
  bytesOfNat 8 r.seq ++ bytesOfNat 8 r.time ++ bytesOfNat 2 r.cls ++ bytesOfNat 1 r.sev ++ bytesOfNat 1 r.kind ++
    bytesOfNat 1 r.flags ++ bytesOfNat 1 r.cause ++ bytesOfNat 2 0 ++ bytesOfNat 4 r.unit ++ bytesOfNat 4 r.phys ++
    bytesOfNat 4 r.sub ++ bytesOfNat 4 r.culprit ++ bytesOfNat 8 r.addr ++ bytesOfNat 8 r.ring ++ bytesOfNat 8 r.arg

/-- The record of a SEQ, 64 zero bytes where the log does not hold it. -/
def recOf (s : State) (seq : Nat) : List Byte :=
  match s.flt.log.find? fun r => r.seq == seq with
  | some r => recBytes r
  | none => List.replicate 64 0

/-- A record of an L2 way that fails in use: the way is out of service and retired (R250, R386). -/
def wayOut (s : State) (n : Fin 8) (way : Nat) : State :=
  let phys := (s.wdn.ways.get n).getD way 17
  let s := s.setFld (L2_CFG n) fldL2_CFG_OUT (s.fld (L2_CFG n) fldL2_CFG_OUT ||| 2 ^ way)
  let s := if phys < 17 then retire s 1 n phys else s
  clearWays s n way (way + 1)

/-- The count of code words that a record of bank memory or of a stack adds to (Tables 10.6 and 10.18). -/
def recCount (s : State) (r : FaultRec) : State :=
  let ue := r.cls == 2 || r.cls == 4
  if r.cls ≤ 2 ∧ r.kind = 2 ∧ r.unit < 64 then eccCount s ⟨3, r.unit, 2, r.phys, 8, false, 0⟩ ue
  else if (r.cls = 3 ∨ r.cls = 4) ∧ r.kind = 3 ∧ r.unit < 12 then eccCount s ⟨4, r.unit, 3, r.phys, 32, false, 0⟩ ue
  else s

/-- A record of an uncorrectable error or a residue mismatch in a logical core is a MACHINE_CHECK attributed to it, which no instruction
has found: the core takes it at its next boundary (Table 2.4, R47; DESIGN CHOICE, assumption 111). -/
def blameCore (s : State) (r : FaultRec) : State :=
  if r.kind = 0 ∧ r.unit < 48 ∧ 1 ≤ r.sev ∧ (r.cls = 2 ∨ r.cls = 7) ∧ s.fld (PWR_CORE r.unit) fldPWR_CORE_STATE < 3 then
    s.modCore (coreOf r.unit) fun k => { k with mcDue := k.mcDue ++ [(if r.cls = 2 then some r.addr else none, s.flt.nextSeq - 1)] }
  else s

/-- A detector's record reaches the Warden. A failing way leaves service with its record (Table 16.4). -/
def takeRecord (s : State) (r : FaultRec) : State :=
  let s := blameCore (logFault (recCount s r) r) r
  if r.cls = 11 ∧ bitOf r.flags 0 = false ∧ r.sub < 16 then wayOut s (Fin.ofNat 8 r.unit) r.sub else s

/-- A number entered once in a list. -/
def enterOnce (l : List Nat) (n : Nat) : List Nat := if l.contains n then l else l ++ [n]

/-- The word or sector at a local address no longer decodes where its last written value lies. -/
def upsetWord (s : State) (a : Nat) : State :=
  match regionOf s a with
  | some (.array c o) => s.modMem fun m => { m with arrBad := enterOnce m.arrBad (arrKey s c o / 8) }
  | some (.pin n o) => s.modMem fun m => { m with pinBad := enterOnce m.pinBad (pinKey s n o / 8) }
  | some (.bank _) => s.modMem fun m => { m with poison := mapInsert m.poison (alignDown a 8) 8 }
  | some .stack =>
    if kindAt s a ≠ 2 ∧ (l2Find s (lineOf a)).any fun e => !e.marker then s.modMem fun m => { m with l2Bad := enterOnce m.l2Bad (a / 8) }
    else s.modMem fun m => { m with poison := mapInsert m.poison (alignDown a 32) 32 }
  | _ => s

/-- A sector of a slot's sapwood no longer decodes. -/
def upsetSap (s : State) (sl : Slot) (a : Nat) : State :=
  let x := sapOf s sl
  if x.gran.contains (granule a) then setSap s sl { x with bad := enterOnce x.bad (a / 32) } else s

/-- An error arises in the hardware (R414; DESIGN CHOICE, assumption 100): nothing records it until it is found. -/
def takeUpset (s : State) : Upset → State
  | .reg c w => s.modCore c fun k => { k with bad := if k.bad.contains w then k.bad else k.bad ++ [w] }
  | .residue c lane array unit => s.modCore c fun k => { k with badRes := k.badRes ++ [(lane, array, unit)] }
  | .word a => upsetWord s a
  | .l1 c a =>
    if (s.core c).l1.any fun e => e.line == lineOf a then s.modCore c fun k => { k with l1Bad := enterOnce k.l1Bad (a / 8) } else s
  | .sap older a => upsetSap s (if older then .older else .newer) a
  | .version sub a =>
    let hit := fun (v : AccVer) => if v.sub = sub ∧ v.gran = granule a then { v with bad := enterOnce v.bad (a / 32) } else v
    s.modMem fun m => { m with accVers := m.accVers.map hit }
  | .soft a =>
    match regionOf s a with
    | some (.bank _) => s.modMem fun m => { m with soft := enterOnce m.soft (a / 8) }
    | _ => s

/-- FAULT_RECORD: a detector's record, or an upset that a detector is yet to find. -/
def execFaultRecord (e : FaultIn) (s : State) : Outcome State Fault Refusal :=
  if s.modu.poresetLow then next s s else
  match e with
  | .record r => next s (takeRecord s r)
  | .upset u => next s (takeUpset s u)

/-! ### Mailbox requests (R405, R406) -/

/-- A request as the Warden reads it. -/
structure Req where
  src : MboxReq
  block : List Byte
  cmd : Nat
  core : Nat
  bufAddr : Nat
  bufLen : Nat
  args : List Byte
  deriving DecidableEq, Repr

/-- Whether bytes lie in bank memory or PLAIN stacked memory. -/
def bufferOk (s : State) (a n : Nat) : Bool :=
  match spanRegion s a n with
  | some (.bank _) => true
  | some .stack => (upFrom (granule a) (granule (a + n - 1) + 1 - granule a)).all fun g => kindAt s (g * 0x10000) == 0
  | _ => false

/-- A request of its 64 bytes. -/
def reqOf (src : MboxReq) (b : List Byte) : Req :=
  { src := src, block := b, cmd := at' b 0 2, core := at' b 8 2, bufAddr := at' b 16 8, bufLen := at' b 24 4, args := b.drop 32 }

/-- The request at the head of the queue. A block that cannot be read, or whose read fails (R257, R278), is none. -/
def readReq (s : State) (m : MboxReq) : Option Req :=
  match m with
  | .block a =>
    match (memRead s 77 0 a 64).2 with
    | .ok b => if bufferOk s a 64 then some (reqOf m b) else none
    | _ => none
  | .frame f => some (reqOf m ((f.block ++ List.replicate 64 0).take 64))
  | .canreq c a => some { src := m, block := [], cmd := 4, core := c, bufAddr := a, bufLen := 0, args := [] }

/-- What the read of a request's block leaves. -/
def readDone (s : State) (m : MboxReq) : State :=
  match m with
  | .block a => if bufferOk s a 64 then (memRead s 77 0 a 64).1 else s
  | _ => s

/-- Whether the read of a request's block waits (R225, R269, R275). -/
def blockWaits (s : State) (m : MboxReq) : Bool :=
  match m with
  | .block a => bufferOk s a 64 && readWaits s a 64
  | _ => false

/-- Whether a command waits: for the bank of the service queue's next entry, which is written before HEAD moves (R409); or for the bank of
its block or buffer, since each write of its answer is performed before the next; or for the read of its data from the buffer. -/
def reqWaits (s : State) (r : Req) : Bool :=
  (r.cmd == 0x11 && svcWaits s) ||
  match r.src with
  | .block a => bankWaits s a 64 || (r.bufLen != 0 && (bankWaits s r.bufAddr r.bufLen ||
      ((r.cmd == 0xB || r.cmd == 0xE || r.cmd == 0x11) && bufferOk s r.bufAddr r.bufLen && readWaits s r.bufAddr r.bufLen)))
  | _ => false

/-- The input bytes of a request's buffer and what their read leaves: none where they cannot be read, or the read fails. -/
def reqInput (s : State) (r : Req) : State × Option (List Byte) :=
  match r.src with
  | .frame f => (s, some (f.data.take 1408))
  | _ =>
    if bufferOk s r.bufAddr r.bufLen then
      match memRead s 77 0 r.bufAddr r.bufLen with
      | (t, .ok b) => (t, some b)
      | (t, _) => (t, none)
    else (s, none)

/-- The Warden writes memory as master 77. -/
def wdnWrite (s : State) (a : Nat) (b : List Byte) : State := writeOrWait s 77 a b

/-- The head request leaves the queue, served (Table 15.14). -/
def popReq (s : State) : State :=
  let s := s.modWdn fun w => { w with mbox := w.mbox.drop 1 }
  countSat s WDN_MBOX_STATUS fldWDN_MBOX_STATUS_SERVED 1

/-- A request is finished: at most BUF_LEN bytes of output, then OUT_LEN, then STATUS, then MAILBOX on REPLY_CORE. A frame is
answered by a frame to its source. A CANREQ has no block; its failure raises MAILBOX on its core (R403). -/
def finishReq (s : State) (r : Req) (status : Nat) (out : List Byte) : State :=
  let s := popReq s
  match r.src with
  | .canreq c _ => if status = 0 then s else raiseInt s (coreOf c) 19
  | .block a =>
    let s := if out.isEmpty ∨ r.bufLen = 0 then s else wdnWrite s r.bufAddr (out.take r.bufLen)
    let s := wdnWrite s (a + 28) (bytesOfNat 4 out.length)
    let s := wdnWrite s (a + 3) (bytesOfNat 1 status)
    if r.core < 48 then raiseInt s (coreOf r.core) 19 else s
  | .frame f =>
    let b := r.block.take 3 ++ bytesOfNat 1 status ++ cut r.block 4 24 ++ bytesOfNat 4 out.length ++ r.block.drop 32
    let s := s.modWdn fun w =>
      { w with mgmtOut := w.mgmtOut ++ [{ f with block := b, data := out.take (min r.bufLen 1408) }] }
    if r.core < 48 then raiseInt s (coreOf r.core) 19 else s

/-- Whether the output of a request can be placed in its buffer. -/
def outputOk (s : State) (r : Req) : Bool :=
  match r.src with
  | .block _ => r.bufLen == 0 || bufferOk s r.bufAddr r.bufLen
  | _ => true

/-- A request finished with output, or with BAD_ARG where its buffer cannot take it. -/
def finishOut (s : State) (r : Req) (out : List Byte) : State :=
  if outputOk s r then finishReq s r 0 out else finishReq s r 2 []

/-- Whether a command code is one of Table 15.6. -/
def knownCmd (n : Nat) : Bool := decide (1 ≤ n) && decide (n ≤ 0x12)

/-- Whether recovery mode serves a request: INFO, FLASH_READ, FLASH_WRITE and RESET, over the management port (R398). -/
def recoveryCmd (r : Req) : Bool :=
  (match r.src with | .frame _ => true | _ => false) && (r.cmd == 1 || r.cmd == 9 || r.cmd == 0xA || r.cmd == 0xB)

/-- Whether the application of a structure has failed: the boot stands at step 4, and the device is reached through the management
port alone (R16). -/
def structFailed (s : State) : Bool :=
  s.fld WDN_BOOT fldWDN_BOOT_STEP == 4 && s.fld WDN_BOOT fldWDN_BOOT_FAILSTEP == 4

/-- Whether the Warden serves mailbox requests at all: at step 8, in recovery mode, or after step 4 has failed. -/
def mboxServes (s : State) : Bool :=
  s.fld WDN_BOOT fldWDN_BOOT_STEP == 8 || s.test WDN_BOOT fldWDN_BOOT_RECOVERY || structFailed s

/-- Requests at the head that are answered without being served: a code that is no command, a block that cannot be read. Fuel bounds
them. -/
def skipBad : Nat → State → State
  | 0, s => s
  | n + 1, s =>
    match s.wdn.mbox with
    | [] => s
    | m :: _ =>
      match readReq s m with
      | none => if blockWaits s m then s else skipBad n (popReq (readDone s m))
      | some r =>
        if knownCmd r.cmd && (!s.test WDN_BOOT fldWDN_BOOT_RECOVERY || recoveryCmd r) then s
        else skipBad n (finishReq (readDone s m) r 1 [])

/-- A command served: the request at the head, where its code is the command's, by the function given; no effect otherwise, and none where
the request stays at the head because the command waits for memory. -/
def serve (cmd : Nat) (f : State → Req → State) (s : State) : State :=
  if mboxServes s then
    let s := skipBad s.wdn.mbox.length s
    match s.wdn.mbox with
    | [] => s
    | m :: _ =>
      match readReq s m with
      | some r =>
        if r.cmd = cmd ∧ reqWaits s r = false then
          let t := f (readDone s m) r
          if t.wdn.mbox.length = s.wdn.mbox.length then s else t
        else s
      | none => s
  else s

/-- A store of WDN_MBOX_POST. A post beyond the sixteenth waits in the same order. -/
def mboxPost (s : State) (v : Word) : State :=
  s.modWdn fun w => { w with mbox := w.mbox ++ [.block (fldWDN_MBOX_POST_REQ.get v * 64)] }

/-- MAILBOX_POST. -/
def execMailboxPost (v : Word) (s : State) : Outcome State Fault Refusal := if s.modu.poresetLow then next s s else next s (mboxPost s v)

/-- MGMT_FRAME: a frame of EtherType 0x88B5 posts its request; every other is ignored. The link is up. -/
def execMgmtFrame (f : MgmtFrame) (s : State) : Outcome State Fault Refusal :=
  if s.modu.poresetLow then next s s else
  let t := s.modWdn fun w => { w with linkUp := true }
  if f.etype = 0x88B5 then next s (t.modWdn fun w => { w with mbox := w.mbox ++ [.frame f] }) else next s t

/-- MGMT_PORT_MODE_ALTERNATE (R398). -/
def execMgmtPortModeAlternate (s : State) : Outcome State Fault Refusal :=
  if s.modu.poresetLow then next s s else
  if s.test WDN_BOOT fldWDN_BOOT_RECOVERY ∧ s.wdn.linkUp = false then
    next s (s.modWdn fun w => { w with mgmtMode := !w.mgmtMode })
  else next s s

/-! ### Launches (R402 to R404) -/

/-- How the verification of a launch ends: accepted with its image and member list, failed, or waiting for memory. -/
inductive LaunchCheck where
  | ok (image : List Byte) (members : Option (List Nat))
  | bad (e : CanErr)
  | wait
  deriving DecidableEq, Repr

/-- A register with its pending launch-latched value, if one is pending (Table 0.5). -/
def pendingReg (s : State) (a : Nat) : Word := (mapFind s.ll a).getD (s.reg a)

/-- The image of a launch: at an address, or in a frame's data. -/
def readImage (s : State) (r : Req) : State × RdRes :=
  match r.src with
  | .frame f =>
    let n := imageBytes (f.data ++ List.replicate 64 0)
    (s, if f.data.length < 64 ∨ f.data.length < n then .addr 0 else .ok (f.data.take n))
  | _ =>
    match memRead s 77 0 r.bufAddr 64 with
    | (s, .ok h) => memRead s 77 0 r.bufAddr (max 64 (imageBytes h))
    | e => e

/-- A binary32 that is positive and finite. -/
def posFinite (w : Nat) : Bool := decide (0 < w) && decide (w < 0x7F800000)

/-- Whether a shard header fails R155. Nonzero reserved bits [15:12] of CFG count as a reserved code (DESIGN CHOICE, assumption 107). -/
def headerBad (h : List Byte) : Bool :=
  let cfg := at' h 16 4
  let step := cfg / 4 % 4
  decide (2 ≤ cfg % 4) || step == 3 || cfg / 0x1000 % 16 != 0 || (step == 2 && cfg / 0x10000 == 0) ||
    (step == 2 && !posFinite (at' h 136 4)) || (step == 1 && !posFinite (at' h 124 4))

/-- The check of a job's shards, in ascending order: the headers of those this device owns (R155). -/
def jobCheck (dir off : Nat) : Nat → Nat → State → State × LaunchCheck
  | 0, _, s => (s, .ok [] none)
  | n + 1, i, s =>
    match memRead s 77 0 (dir + 64 * i) 64 with
    | (s, .wait) => (s, .wait)
    | (s, .ok e) =>
      if isSelf s (at' e 4 4) then
        match memRead s 77 0 (at' e 56 8) 256 with
        | (s, .wait) => (s, .wait)
        | (s, .ok h) => if headerBad h then (s, .bad ⟨10, 0x14, off, at' e 0 4⟩) else jobCheck dir off n (i + 1) s
        | (s, _) => (s, .bad ⟨13, 0x14, off, 0⟩)
      else jobCheck dir off n (i + 1) s
    | (s, _) => (s, .bad ⟨13, 0x14, off, 0⟩)

/-- The member list that a launch reads where the pending leader names this device (R220). -/
def membersCheck (s : State) : State × LaunchCheck :=
  let lead := fldRING_GROUP_LEADER.get (pendingReg s RING_GROUP)
  let n := fldRING_GROUP_NM1.get (pendingReg s RING_GROUP) + 1
  if isSelf s lead ∧ ([RING_GROUP, RING_HOLDERS, RING_MEMBERS].any fun a => (mapFind s.ll a).isSome) then
    match memRead s 77 0 (fldRING_MEMBERS_ADDR.get (pendingReg s RING_MEMBERS)) (4 * n) with
    | (s, .wait) => (s, .wait)
    | (s, .ok b) => (s, .ok [] (some ((upFrom 0 n).map fun i => at' b (4 * i) 4)))
    | (s, _) => (s, .bad ⟨14, 0, 0, 0⟩)
  else (s, .ok [] none)

/-- The verification of a launch canopy, in the order of Table 15.4. -/
def launchCheck (s : State) (r : Req) : State × LaunchCheck :=
  match readImage s r with
  | (s, .wait) => (s, .wait)
  | (s, .ok b) =>
    match verifyCanopy s b 1 with
    | .error e => (s, .bad e)
    | .ok c =>
      let pin := (c.sec 0x11).map fun x => at' x.body 1 1
      let short := (List.finRange 8).find? fun n => pin.any fun p => !pinsMet s n p
      match short with
      | some n => (s, .bad ⟨9, 0x11, ((c.sec 0x11).map Section.off).getD 0 + 1, n.val / 2 + 12⟩)
      | none =>
        let job := match c.sec 0x14 with
          | some x => jobCheck (at' x.body 0 8) x.off (at' x.body 8 4) 0 s
          | none => (s, .ok [] none)
        match job with
        | (s, .ok ..) =>
          if s.wdn.launch.isSome then (s, .bad ⟨12, 0, 0, 0⟩)
          else
            match membersCheck s with
            | (s, .ok _ m) => (s, .ok b m)
            | e => e
        | e => e
  | (s, _) => (s, .bad ⟨13, 0, 0, 0⟩)

/-- A launch fails: its code and place (Tables 15.7 and 15.10). -/
def launchFail (s : State) (e : CanErr) : State :=
  (canFault (s.setFld CAN_STATUS fldCAN_STATUS_LCODE e.code) e).setBit CAN_STATUS fldCAN_STATUS_LFAIL true

/-- LAUNCH: the canopy is verified and PENDING set, or the launch fails with its code. -/
def launchServe (s : State) (r : Req) : State :=
  match launchCheck s r with
  | (_, .wait) => s
  | (s, .bad e) => finishReq (launchFail s e) r (if e.code = 4 then 4 else 3) []
  | (s, .ok b m) =>
    let core := if r.core < 48 then some r.core else none
    let s := s.modWdn fun w => { w with launch := some { image := b, since := refTime s, core := core, members := m } }
    finishReq (s.setBit CAN_STATUS fldCAN_STATUS_PENDING true) r 0 []

/-- LAUNCH. -/
def execWdnLaunch (s : State) : Outcome State Fault Refusal := next s (serve 4 launchServe s)

/-- Whether a core counts as drained (R403). -/
def coreDrained (s : State) (c : CoreId) : Bool :=
  let k := s.core c
  !busy s c && (isStopped s c || k.wait == .wfi) && k.vecQ.isEmpty && k.tileQ.isEmpty && missInUse s c == 0 && k.mbuf.isEmpty

/-- Whether the device is drained (R403). -/
def drained (s : State) : Bool :=
  (allCores.all fun (c : CoreId) => coreDrained s c) && s.xfer.toList.all fun x => x.queue.isEmpty && x.active.isEmpty

/-- The group registers. -/
def groupRegs : List Nat := [RING_GROUP, RING_HOLDERS, RING_MEMBERS]

/-- The pending value of one register takes effect. -/
def applyPending (s : State) (e : Nat × Word) : State :=
  let core := coreOf ((e.1 - CORE_ID 0) / 0x10000)
  if e.1 = CORE_L1CFG core then
    setShare s core (s.fld e.1 fldCORE_L1CFG_NOW) (fldCORE_L1CFG_SHARE.get e.2)
  else if e.1 = CORE_ISSUE core then
    let a := fldCORE_ISSUE_A20.get e.2
    (s.setFld e.1 fldCORE_ISSUE_A20 a).setFld e.1 fldCORE_ISSUE_NOW a
  else s.setReg e.1 e.2

/-- Every pending launch-latched value takes effect, the group rules included (R10, R231). -/
def applyLL (s : State) (members : Option (List Nat)) : State :=
  let changed := groupRegs.any fun a => pendingReg s a != s.reg a
  let s := if changed then groupChange s else s
  let s := s.ll.foldl applyPending s
  let s : State := { s with ll := [] }
  match members with
  | some l => s.modRing fun r => { r with members := l }
  | none => if changed then s.modRing fun r => { r with members := [] } else s

/-- The launch is applied, once the device is drained (R404): every fetch buffer and stream entry is emptied (R256, R452), and every
enabled core in service is released. -/
def launchApply (s : State) (l : Launch) : State :=
  let s := stopAll s
  let s := applyLL s l.members
  let old := fun (c : CoreId) => s.fld (CORE_L1CFG c) fldCORE_L1CFG_NOW
  let secs := match checkFormat l.image 1 with
    | .ok secs => secs
    | .error _ => []
  let len := at' l.image 8 4
  let c : Canopy := { serial := at' l.image 16 8, secs := secs, len := len }
  let s := applyLaunchSecs s old c
  let s := extend s 3 (l.image.take len)
  let s := s.setReg CAN_LAUNCH_SERIAL (BitVec.ofNat 64 c.serial)
  let s := s.setFld CAN_STATUS fldCAN_STATUS_LCODE 1
  let s := countSat s CAN_STATUS fldCAN_STATUS_LAUNCHES 1
  let s := (s.setBit CAN_STATUS fldCAN_STATUS_PENDING false).setBit CAN_STATUS fldCAN_STATUS_LFAIL false
  let s := s.modWdn fun w => { w with launch := none }
  let s : State := { s with cores := s.cores.map fun k => { k with fetch := [], pf := [] } }
  decision (allCores.foldl (fun s (c : CoreId) =>
    if s.test (FOR_CORE c) fldFOR_CORE_EN ∧ coreDomain s c < 3 ∧ s.wdn.coresOut.contains c.val = false then releaseCore s c else s) s)

/-- LAUNCH_DRAINED. -/
def execLaunchDrained (s : State) : Outcome State Fault Refusal :=
  match s.wdn.launch with
  | some l => if drained s then next s (launchApply s l) else next s s
  | none => next s s

/-- DRAIN_TIMEOUT: nothing is applied, and dispatch resumes (R403). -/
def execDrainTimeout (s : State) : Outcome State Fault Refusal :=
  match s.wdn.launch with
  | some l =>
    let t := launchFail (s.modWdn fun w => { w with launch := none }) ⟨11, 0, 0, 0⟩
    let t := t.setBit CAN_STATUS fldCAN_STATUS_PENDING false
    let t := match l.core with
      | some c => raiseInt t (coreOf c) 19
      | none => t
    next s (decision t)
  | none => next s s

/-! ### The other commands of Table 15.6 -/

/-- `n` bytes of an output whose layout the spec does not give (assumption 19). -/
def looseOut (cmd n : Nat) (vals : List Nat) : List Byte := (upFrom 0 n).map (Config.mboxByte cmd vals)

/-- INFO. -/
def execWdnInfo (s : State) : Outcome State Fault Refusal :=
  next s (serve 1 (fun s r => finishOut s r (looseOut 1 64 [Config.dieid.toNat, s.fld WDN_SVN fldWDN_SVN_SVN,
    s.nv.floor, (s.reg WDN_BOOT).toNat, s.wdn.genA, s.wdn.genB])) s)

/-- The signed bytes of a quote (R407). -/
def quoteBody (s : State) (nonce : List Byte) : List Byte :=
  bytesOfNat 4 0x45545148 ++ bytesOfNat 4 1 ++ bytesOfNat 8 Config.dieid.toNat ++ bytesOfNat 4 (ownDevice s) ++ bytesOfNat 4 0 ++
    bytesOfNat 8 (refTime s) ++ (nonce ++ List.replicate 32 0).take 32 ++ measBytes s 0 ++ measBytes s 1 ++ measBytes s 2 ++
    measBytes s 3 ++ bytesOfNat 8 (s.reg CAN_BOOT_SERIAL).toNat ++ bytesOfNat 8 (s.reg CAN_LAUNCH_SERIAL).toNat ++
    bytesOfNat 8 (s.fld AGE_HOURS fldAGE_HOURS_HOURS) ++ bytesOfNat 8 (s.reg AGE_SPARES).toNat ++
    bytesOfNat 4 (s.fld WDN_SVN fldWDN_SVN_SVN) ++ bytesOfNat 4 s.nv.floor ++ List.replicate 24 0

/-- QUOTE. -/
def execWdnQuote (s : State) : Outcome State Fault Refusal :=
  next s (serve 2 (fun s r =>
    let q := quoteBody s (r.args.take 32)
    finishOut s r (q ++ (upFrom 0 384).map (Config.deviceSign q))) s)

/-- CERT: the device certificate or the intermediate; a higher index is refused. -/
def execWdnCert (s : State) : Outcome State Fault Refusal :=
  next s (serve 3 (fun s r =>
    let i := at' r.args 0 1
    if 1 < i then finishReq s r 3 []
    else finishOut s r ((upFrom 0 (Config.certLen i)).map (Config.certByte i))) s)

/-- A core mask of ARGS bytes 0 to 7, and whether it names cores alone. -/
def coreMask (r : Req) : Nat × Bool := (at' r.args 0 8, decide (at' r.args 0 8 < 2 ^ 48))

/-- STOP: a stop request to each core named (R42). -/
def execWdnStop (s : State) : Outcome State Fault Refusal :=
  next s (serve 5 (fun s r =>
    let (m, ok) := coreMask r
    if ok then
      let s := allCores.foldl (fun s (c : CoreId) =>
        if bitOf m c.val ∧ isStopped s c = false then s.modCore c fun k => { k with stopReq := 3 } else s) s
      finishReq s r 0 []
    else finishReq s r 2 []) s)

/-- RELEASE: each core named is released at vector 0; refused where one of them is not stopped, or is out of service (R21). -/
def execWdnRelease (s : State) : Outcome State Fault Refusal :=
  next s (serve 6 (fun s r =>
    let (m, ok) := coreMask r
    let named := allCores.filter fun (c : CoreId) => bitOf m c.val
    if ok = false then finishReq s r 2 []
    else if named.all fun (c : CoreId) => isStopped s c && !s.wdn.coresOut.contains c.val then finishReq (named.foldl releaseCore s) r 0 []
    else finishReq s r 3 []) s)

/-- Whether a request for Rest or Off is refused: a ring is neither FREE nor COMMITTED, or a launch is pending (R369, Table 15.5), or
a thermal trip stands, which PORESET_N alone leaves (R372). -/
def downRefused (s : State) : Bool :=
  tripped s ||
  !((newerState s == 0 || newerState s == 5) && (olderState s == 0 || olderState s == 5)) || s.wdn.launch.isSome

/-- REST. -/
def execWdnRest (s : State) : Outcome State Fault Refusal :=
  next s (serve 7 (fun s r =>
    if downRefused s ∨ devState s ≠ 0 then finishReq s r 3 [] else enterDown (finishReq s r 0 []) 1) s)

/-- OFF. -/
def execWdnOff (s : State) : Outcome State Fault Refusal :=
  next s (serve 8 (fun s r =>
    if downRefused s ∨ (devState s ≠ 0 ∧ devState s ≠ 2) then finishReq s r 3 [] else enterDown (finishReq s r 0 []) 4) s)

/-- RESET: acts as WARMRST_N once it is answered. -/
def execWdnReset (b : BootIn) (s : State) : Outcome State Fault Refusal :=
  next s (serve 9 (fun s r => warmRst (finishReq s r 0 []) b) s)

/-- FLASH_READ: chip select, offset and length; refused beyond the device. -/
def execWdnFlashRead (s : State) : Outcome State Fault Refusal :=
  next s (serve 0xA (fun s r =>
    let chip := Config.mboxArg 0xA 0 r.args
    let off := Config.mboxArg 0xA 1 r.args
    let len := Config.mboxArg 0xA 2 r.args
    if 2 ≤ chip then finishReq s r 2 []
    else if s.modu.flashSize.get (Fin.ofNat 2 chip) < off + len then finishReq s r 3 []
    else finishOut s r (flashBytes s (Fin.ofNat 2 chip) off len)) s)

/-- Whether a chip is the one booted from. -/
def bootedChip (s : State) (chip : Nat) : Bool :=
  !s.test WDN_BOOT fldWDN_BOOT_RECOVERY && s.fld WDN_BOOT fldWDN_BOOT_IMAGE == chip

/-- FLASH_WRITE: refused for the chip booted from, unless FORCE. -/
def execWdnFlashWrite (s : State) : Outcome State Fault Refusal :=
  next s (serve 0xB (fun s r =>
    let chip := Config.mboxArg 0xB 0 r.args
    let off := Config.mboxArg 0xB 1 r.args
    match reqInput s r with
    | (s, none) => finishReq s r 2 []
    | (s, some d) =>
      if 2 ≤ chip ∨ s.modu.flashSize.get (Fin.ofNat 2 chip) < off + d.length then finishReq s r 2 []
      else if bootedChip s chip ∧ bitOf (at' r.args 0 1) 0 = false then finishReq s r 3 []
      else
        let i := Fin.ofNat 2 chip
        let s : State := { s with modu := { s.modu with
          flash := s.modu.flash.set i (writeBytes (fun _ => 0xFF) (s.modu.flash.get i) off d) } }
        finishReq s r 0 []) s)

/-- What the ageing record is made of, as numbers. -/
def ageVals (s : State) : List Nat :=
  [s.nv.hours, s.nv.lastPlan, s.nv.deltaSram] ++ s.nv.delta.flatMap (fun e => [e.1, e.2]) ++
    s.nv.retired.flatMap (fun e => [e.1, e.2.1, e.2.2])

/-- AGE_READ: the bytes of the ageing record from an offset. -/
def execWdnAgeRead (s : State) : Outcome State Fault Refusal :=
  next s (serve 0xC (fun s r =>
    let v := ageVals s
    finishOut s r ((looseOut 0xC (Config.mboxLen 0xC v) v).drop (Config.mboxArg 0xC 0 r.args))) s)

/-- LIMITS. -/
def execWdnLimits (s : State) : Outcome State Fault Refusal :=
  next s (serve 0xD (fun s r =>
    let v := [plim, vmaxf, s.nv.floor]
    finishOut s r (looseOut 0xD (Config.mboxLen 0xD v) v)) s)

/-- ENROLL: OKEY is the SHA-256 of the owner's modulus, set once. -/
def execWdnEnroll (s : State) : Outcome State Fault Refusal :=
  next s (serve 0xE (fun s r =>
    if s.nv.okey.any (· != 0) then finishReq s r 3 []
    else
      match reqInput s r with
      | (s, some d) =>
        if d.length < 384 then finishReq s r 2 []
        else
          let s : State := { s with nv := { s.nv with okey := sha256 (d.take 384) } }
          finishReq (s.setBit WDN_SVN fldWDN_SVN_OWNER true) r 0 []
      | (s, none) => finishReq s r 2 []) s)

/-- FLOOR_RAISE: refused unless the running SVN is above the floor. -/
def execWdnFloorRaise (s : State) : Outcome State Fault Refusal :=
  next s (serve 0xF (fun s r =>
    let v := s.fld WDN_SVN fldWDN_SVN_SVN
    if v ≤ s.nv.floor then finishReq s r 3 []
    else
      let s : State := { s with nv := { s.nv with floor := v } }
      finishReq (s.setFld WDN_SVN fldWDN_SVN_FLOOR v) r 0 []) s)

/-- FAULT_READ: the records from a SEQ onward, as many as BUF_LEN holds (R417). -/
def execWdnFaultRead (s : State) : Outcome State Fault Refusal :=
  next s (serve 0x10 (fun s r =>
    let i := Config.mboxArg 0x10 0 r.args
    finishOut s r (((s.flt.log.filter fun e => decide (i ≤ e.seq)).take (r.bufLen / 64)).flatMap recBytes)) s)

/-- SERVICE: an entry of the service queue from the management port. -/
def execWdnMboxService (s : State) : Outcome State Fault Refusal :=
  next s (serve 0x11 (fun s r =>
    match reqInput s r with
    | (s, some d) =>
      if d.length < 64 then finishReq s r 2 []
      else if svcFull s then finishReq s r 6 []
      else finishReq (svcEnq s 77 (d.take 64) 0x40000) r 0 []
    | (s, none) => finishReq s r 2 []) s)

/-- TELEMETRY: the last telemetry record. -/
def execWdnTelemetry (s : State) : Outcome State Fault Refusal :=
  next s (serve 0x12 (fun s r =>
    let v := s.wdn.telemTime :: (s.wdn.telem.flatMap fun e => [e.1, e.2.toNat]) ++ (s.wdn.vmode.flatMap fun e => [e.1, e.2]) ++
      s.wdn.pm.flatMap fun p => p.addr :: match p.vals with
        | some (a, b, c, d) => [1, a, b, c, d]
        | none => [0]
    finishOut s r (looseOut 0x12 (Config.mboxLen 0x12 v) v)) s)

end Sys2Proof.Machine
end

