-- ==== Sys2Proof/Machine/Module.lean ====
section
/-! DEFINITION. Windthrow's registers, the board controller's bus, the regulators' poll, the GPIO pins and the TAP (R422, R423, R441,
R445, R446). -/
namespace Sys2Proof.Machine
open Host

/-! ### Windthrow (R422, R423, R425) -/

/-- A write of WT_SEED: every point's LFSR is loaded; a seed of 0 is stored as 1. -/
def wtSeedOp (s : State) (v : Word) : State :=
  if s.test CAN_POLICY fldCAN_POLICY_WINDTHROW then
    let n := fldWT_SEED_SEED.get v
    (List.finRange 6).foldl wtReload (s.setFld WT_SEED fldWT_SEED_SEED (if n = 0 then 1 else n))
  else s

/-- WT_SEED_WRITE. -/
def execWtSeedWrite (v : Word) (s : State) : Outcome State Fault Refusal := if s.modu.poresetLow then next s s else next s (wtSeedOp s v)

/-- A write of a point's register; ON = 1 loads its LFSR. -/
def wtPointOp (s : State) (k : Fin 6) (v : Word) : State :=
  if s.test CAN_POLICY fldCAN_POLICY_WINDTHROW then
    let a := WT_POINT k
    let s := s.setFld a fldWT_POINT_ON (fldWT_POINT_ON.get v)
    let s := s.setFld a fldWT_POINT_COUNT (fldWT_POINT_COUNT.get v)
    let s := s.setFld a fldWT_POINT_PARAM (fldWT_POINT_PARAM.get v)
    let s := s.setFld a fldWT_POINT_RATE (fldWT_POINT_RATE.get v)
    let s := s.setFld a fldWT_POINT_TARGET (fldWT_POINT_TARGET.get v)
    if fldWT_POINT_ON.test v then wtReload s k else s
  else s

/-- WT_POINT_WRITE. -/
def execWtPointWrite (k : Fin 6) (v : Word) (s : State) : Outcome State Fault Refusal := if s.modu.poresetLow then next s s else next s (wtPointOp s k v)

/-- A packet that has been judged leaves by the next port in rotation that takes it, or waits in the outbox. -/
def sendJudged (s : State) (p : Packet) : State :=
  match (portRotation s).find? fun k => portTakes s k p with
  | some k => sendPacket s k p
  | none => { s with ride := { s.ride with outbox := s.ride.outbox ++ [p] } }

/-- WT_XPORT_HOLD_RELEASE: a held packet leaves the endpoint. -/
def execWtXportHoldRelease (i : Nat) (s : State) : Outcome State Fault Refusal :=
  if s.still then next s s else
  match s.flt.held[i]? with
  | some (p, _) => next s (sendJudged { s with flt := { s.flt with held := s.flt.held.eraseIdx i } } p)
  | none => next s s

/-! ### SMB0 (R441) -/

/-- One step of the PEC: CRC-8 with polynomial x^8 + x^2 + x + 1 (SMBus, assumption 20); `n` bits to go. -/
def pecBits : Nat → Nat → Nat
  | 0, c => c
  | n + 1, c => pecBits n (if 128 ≤ c then (c * 2) % 256 ^^^ 7 else c * 2)

/-- The PEC of bytes. -/
def pec (bs : List Byte) : Byte := BitVec.ofNat 8 (bs.foldl (fun c b => pecBits 8 (c ^^^ b.toNat)) 0)

/-- A read transaction's bytes as they return, its PEC over the whole transaction last. -/
def smbReply (s : State) (cmd : Nat) (data : List Byte) : State :=
  if s.modu.poresetLow then s
  else
    let a := s.modu.smbAddr
    let all := [BitVec.ofNat 8 (2 * a), BitVec.ofNat 8 cmd, BitVec.ofNat 8 (2 * a + 1)] ++ data
    { s with modu := { s.modu with smbOut := data ++ [pec all] } }

/-- Whether the fault log holds a record of SEV 3 or more. -/
def severe (s : State) : Bool := s.flt.log.any fun r => decide (3 ≤ r.sev)

/-- SMB_STATUS. -/
def execSmbStatus (s : State) : Outcome State Fault Refusal :=
  let n := (if s.test PWR_STATE fldPWR_STATE_TRIPPED then 1 else 0) + (if s.fld WDN_BOOT fldWDN_BOOT_STEP = 8 then 2 else 0) +
    (if s.test WDN_BOOT fldWDN_BOOT_RECOVERY then 4 else 0) + (if severe s then 8 else 0)
  next s (smbReply s 0 (bytesOfNat 1 n))

/-- SMB_JUNCTION_TEMP: the highest of the sensors' last readings; a free value where none has been read. -/
def execSmbJunctionTemp (s : State) : Outcome State Fault Refusal :=
  match s.modu.sensors with
  | [] =>
    let (n, t) := s.free
    next s (smbReply t 1 (bytesOfNat 2 n))
  | _ => next s (smbReply s 1 (bytesOfNat 2 (s.modu.sensors.foldl (fun m e => max m e.2) 0)))

/-- The estimated module power in 1/16 W. -/
def modulePower (s : State) : Nat :=
  16 * s.fld FOR_CFG fldFOR_CFG_UNCORE + ((List.range 4).map (draw s)).foldl (· + ·) 0

/-- SMB_MODULE_POWER. -/
def execSmbModulePower (s : State) : Outcome State Fault Refusal := next s (smbReply s 2 (bytesOfNat 2 (showIn (modulePower s) 16)))

/-- SMB_WDN_BOOT: a block of eight bytes. -/
def execSmbWdnBoot (s : State) : Outcome State Fault Refusal :=
  next s (smbReply s 3 (bytesOfNat 1 8 ++ bytesOfNat 8 (s.reg WDN_BOOT).toNat))

/-- SMB_DIEID: a block of eight bytes. -/
def execSmbDieid (s : State) : Outcome State Fault Refusal :=
  next s (smbReply s 4 (bytesOfNat 1 8 ++ bytesOfNat 8 Config.dieid.toNat))

/-- PMBUS_POLL: the regulators of Table 18.8 enter the telemetry record, those that do not answer as absent. -/
def execPmbusPoll (r : List PmRead) (s : State) : Outcome State Fault Refusal :=
  if s.modu.poresetLow then next s s else
  let seen := (upFrom 0x40 10).map fun a => (r.find? fun p => p.addr == a).getD { addr := a, vals := none }
  next s (s.modWdn fun w => { w with pm := seen })

/-! ### GPIO (R446) -/

/-- GPIO_EDGE: pins 0 to 11 raise vector 25 on logical core 0. -/
def execGpioEdge (pin : Fin 16) (s : State) : Outcome State Fault Refusal :=
  if pin.val < 12 then next s (raiseInt s 0 25) else next s s

/-- GPIO15 to GPIO12 as the Warden drives them from step 8: none before. The open ring is the one that is RUNNING or SEAL_WAIT (DEDUCED,
assumption 116). -/
def gpioOut (s : State) : Option (Bool × Bool × Bool × Bool) :=
  if s.fld WDN_BOOT fldWDN_BOOT_STEP = 8 ∨ s.test WDN_BOOT fldWDN_BOOT_RECOVERY then
    some (s.fld WDN_BOOT fldWDN_BOOT_STEP == 8, severe s, runningRing s != 0, s.test WDN_BOOT fldWDN_BOOT_RECOVERY)
  else none

/-! ### The TAP (R445) -/

/-- An instruction enters the TAP, with the data register it selects: none for the boundary register. -/
def tapLoad (s : State) (i : TapIr) (dr : Option Nat) : State := { s with modu := { s.modu with tap := i, tapDr := dr } }

/-- An instruction that drives pins acts only while PORESET_N is asserted; loaded at any other time it is BYPASS. -/
def tapDrive (s : State) (i : TapIr) (dr : Option Nat) : State :=
  if s.modu.poresetLow then tapLoad s i dr else tapLoad s .bypass (some 0)

/-- BYPASS. -/
def execTapBypass (s : State) : Outcome State Fault Refusal := next s (tapLoad s .bypass (some 0))
/-- IDCODE. -/
def execTapIdcode (s : State) : Outcome State Fault Refusal := next s (tapLoad s .idcode (some 0x1A048A4F))
/-- SAMPLE/PRELOAD. -/
def execTapSamplePreload (s : State) : Outcome State Fault Refusal := next s (tapLoad s .samplePreload none)
/-- EXTEST. -/
def execTapExtest (s : State) : Outcome State Fault Refusal := next s (tapDrive s .extest none)
/-- CLAMP. -/
def execTapClamp (s : State) : Outcome State Fault Refusal := next s (tapDrive s .clamp (some 0))
/-- HIGHZ. -/
def execTapHighz (s : State) : Outcome State Fault Refusal := next s (tapDrive s .highz (some 0))
/-- EXTEST_PULSE. -/
def execTapExtestPulse (s : State) : Outcome State Fault Refusal := next s (tapDrive s .extestPulse none)
/-- EXTEST_TRAIN. -/
def execTapExtestTrain (s : State) : Outcome State Fault Refusal := next s (tapDrive s .extestTrain none)

end Sys2Proof.Machine
end

