-- ==== Sys2Proof/Machine/Blaze.lean ====
section
/-! DEFINITION. The receive state of streams (R318) and the blazes (R331, R332). -/
namespace Sys2Proof.Machine
open Host

/-! ### Streams at the destination (R318) -/

/-- Whether a PSN lies below another, modulo 2^32. -/
def psnBelow (a b : Nat) : Bool :=
  let d := (b + 2 ^ 32 - a % 2 ^ 32) % 2 ^ 32
  d != 0 && decide (d ≤ 2 ^ 31)

/-- The receive state of the stream a packet belongs to. -/
def rxFind (s : State) (src cls : Nat) : Option RxStream := s.ride.rx.find? fun r => r.src == src && r.cls == cls

/-- The endpoint changed. -/
def State.modRide (s : State) (f : RideSt → RideSt) : State := { s with ride := f s.ride }

/-- A stream's receive state replaced. -/
def rxPut (s : State) (r : RxStream) : State :=
  s.modRide fun k => { k with rx := k.rx.map fun q => if q.src = r.src ∧ q.cls = r.cls then r else q }

/-- Whether a PSN of a stream has been performed. -/
def RxStream.performed (r : RxStream) (psn : Nat) : Bool := psnBelow psn r.mark || r.done.contains psn

/-- The watermark moved over PSNs already performed; fuel bounds the moves. -/
def RxStream.advance : Nat → RxStream → RxStream
  | 0, r => r
  | n + 1, r =>
    if r.done.contains r.mark then
      RxStream.advance n { r with mark := (r.mark + 1) % 2 ^ 32, done := r.done.erase r.mark }
    else r

/-- A PSN counts as performed. -/
def RxStream.mark' (r : RxStream) (psn : Nat) : RxStream :=
  if r.performed psn then r
  else
    let r := { r with done := psn :: r.done }
    r.advance r.done.length

/-- A request's PSN counts as performed in its stream. -/
def rxDone (s : State) (p : Packet) : State :=
  match rxFind s p.src p.cls with
  | some r => rxPut s (r.mark' p.psn)
  | none => s

/-- Whether a request need not wait for its stream: it carries SEQ = 0, or every lower PSN has been performed. -/
def seqOk (s : State) (p : Packet) : Bool :=
  !p.seq ||
    match rxFind s p.src p.cls with
    | some r => !psnBelow r.mark p.psn
    | none => true

/-- A held request leaves the hold buffer. -/
def unhold (s : State) (p : Packet) : State :=
  s.modRide fun k => { k with held := k.held.filter fun q => !(q.src == p.src && q.cls == p.cls && q.psn == p.psn) }

/-- A request is answered, and its PSN counts as performed. -/
def answer (s : State) (p : Packet) (status : Nat) (data : List Byte) : State :=
  sendResp (rxDone (unhold s p) p) (respTo s p status (padUnits data))

/-! ### Blazes -/

/-- The value of a blaze. -/
def blzValue (s : State) (b : Nat) : Nat := s.fld (BLZ_VALUE b) fldBLZ_VALUE_VALUE

/-- First address of a blaze. -/
def blzAddr (b : Nat) : Nat := 0xF0100000000 + 64 * b

/-- Every WAIT that a value meets is released: local ones are to write 0, remote ones are answered (R326, R332, R334). -/
def releaseWaits (s : State) (b v : Nat) : State :=
  let s : State := { s with cores := s.cores.map fun k =>
    match k.wait with
    | .bwait rd bl t r none none => if bl = b ∧ t ≤ v then { k with wait := .bwait rd bl t r none (some 0) } else k
    | _ => k }
  (s.ride.held.filter fun p => p.op == 7 && p.addr == blzAddr b).foldl (fun s p =>
    if seqOk s p ∧ natOfBytes (p.data.take 4) ≤ v then answer s p 0 (bytesOfNat 4 v) else s) s

/-- A store replaces the value of a blaze (R331). -/
def blzStore (s : State) (b : Nat) (v : Word) : State :=
  let n := v.toNat % 2 ^ 32
  releaseWaits (s.setFld (BLZ_VALUE b) fldBLZ_VALUE_VALUE n) b n

/-- An add raises the value; above 0xFFFF_FFFF it saturates, sets BLZ_OVF and raises BLAZE_FAULT on the owner (R331). -/
def blzAdd (s : State) (b n : Nat) : State :=
  let v := blzValue s b + n % 2 ^ 32
  if 2 ^ 32 ≤ v then
    let s := s.setFld (BLZ_VALUE b) fldBLZ_VALUE_VALUE (2 ^ 32 - 1)
    let s := s.setBit (BLZ_STATUS b) fldBLZ_STATUS_BLZ_OVF true
    let s := raiseInt s (coreOf (s.fld (BLZ_CFG b) fldBLZ_CFG_OWNER)) 18
    releaseWaits s b (2 ^ 32 - 1)
  else releaseWaits (s.setFld (BLZ_VALUE b) fldBLZ_VALUE_VALUE v) b v

/-- The local cores waiting on a blaze (Table 12.29). -/
def blzWaiters (s : State) (b : Nat) : Nat :=
  s.cores.toList.countP fun k => match k.wait with
    | .bwait _ bl _ _ none none => bl == b
    | _ => false

end Sys2Proof.Machine
end

