-- ==== Sys2Proof/Machine/Port.lean ====
section
/-! DEFINITION. The link layer of the ports, training and joining, and failover up to path failure (R309 to R313, R317, R319, R320,
R336). -/
namespace Sys2Proof.Machine
open Host

/-! ### Completion of a request at its source (R321) -/

/-- An outstanding request found by its number. -/
def reqFind (s : State) (id : Nat) : Option RideReq := s.ride.reqs.find? fun r => r.id == id

/-- An outstanding request replaced. -/
def reqPut (s : State) (r : RideReq) : State :=
  s.modRide fun k => { k with reqs := k.reqs.map fun q => if q.id = r.id then r else q }

/-- A request leaves the table of outstanding requests. -/
def reqDrop (s : State) (id : Nat) : State := s.modRide fun k => { k with reqs := k.reqs.filter fun q => q.id != id }

/-- A failed operation dooms the ring it is tagged with (R215). -/
def failDoom (s : State) (r : RideReq) (status : Nat) : State :=
  if status = 0 ∨ r.pkt.stamp ∨ r.pkt.tag = 0 then s
  else doomRing s r.pkt.tag (if status = 13 then 8 else 9) r.pkt.dst

/-- A remote operation of a core has failed (R330): counted, and recorded where no failure stands in CORE_RSTAT. -/
def coreFail (s : State) (c : CoreId) (status dev gaddr : Nat) : State :=
  let s := count s (CORE_RFAILS c) 1
  if s.test (CORE_RSTAT c) fldCORE_RSTAT_ERR then s
  else
    let s := s.setFld (CORE_RSTAT c) fldCORE_RSTAT_CODE status
    let s := s.setFld (CORE_RSTAT c) fldCORE_RSTAT_DEVICE dev
    (s.setBit (CORE_RSTAT c) fldCORE_RSTAT_ERR true).setReg (CORE_RFADDR c) (BitVec.ofNat 64 gaddr)

/-- A request completes with a status. A core's and an engine's wait for the row that finishes them; the ring logic's end here. -/
def rideEnd (s : State) (r : RideReq) (status : Nat) (data : List Byte) : State :=
  let s := if r.issuer = .abandoned then s else failDoom s r status
  let s := s.modRide fun k => { k with tx := k.tx.map fun t =>
    if t.dst = r.pkt.dst ∧ t.cls = r.pkt.cls then { t with since := refTime s } else t }
  match r.issuer with
  | .mirror _ ring =>
    mirrorDone (reqDrop s r.id) ring
  | .vote => reqDrop s r.id
  | .claim ring lead atH2 => claimAnswer (reqDrop s r.id) ring lead atH2 status data
  | .announce ring member kind =>
    let s := reqDrop s r.id
    if status = 13 ∧ kind = 0 then leadFlipped s ring member else s
  | .abandoned => reqDrop s r.id
  | .coreWait c =>
    let s := reqDrop s r.id
    let s := if status = 0 then s else coreFail s (coreOf c) status r.pkt.dst r.gaddr
    s.modCore (coreOf c) fun k =>
      match k.wait with
      | .bwait rd bl t q (some id) none =>
        if id = r.id then { k with wait := .bwait rd bl t q none (some (if status = 0 then 0 else 2)) } else k
      | _ => k
  | _ => reqPut s { r with answer := some (status, data), busy := false, dup := false }

/-- A request completes, and what waits for an entry of the table may be issued (R317). -/
def rideComplete (s : State) (r : RideReq) (status : Nat) (data : List Byte) : State := feedWaiting (rideEnd s r status data)

/-- Path failure to a destination (R320): its requests complete, the registers and the event say so, rings are doomed under R216, and
its streams count as idle. -/
def pathFail (s : State) (dst : Nat) : State :=
  let s := ringPathFail s dst
  let s := s.setFld RIDE_PATHFAIL fldRIDE_PATHFAIL_DEVICE dst
  let s := rideEvent (count s RIDE_PATHFAIL_COUNT 1) 1
  let s := s.modRide fun k => { k with tx := k.tx.map (fun t => if t.dst = dst then { t with idle := true } else t),
                                       outbox := k.outbox.filter fun p => p.resp || p.dst != dst }
  (s.ride.reqs.filter fun r => r.pkt.dst == dst && r.answer.isNone).foldl (fun s r => rideComplete s r 13 []) s

/-! ### Sending again -/

/-- Whether a request is the one a packet carries. -/
def RideReq.carries (r : RideReq) (k : Packet) : Bool := r.pkt.dst == k.dst && r.pkt.cls == k.cls && r.pkt.psn == k.psn

/-- A packet leaves, or waits for a port; a request remembers the ports that have carried it, and one completed meanwhile is not sent. -/
def sendTracked (s : State) (k : Packet) : State :=
  if k.resp then (sendOn s k []).1
  else
    match s.ride.reqs.find? fun r => r.carries k && r.answer.isNone with
    | none => s
    | some r =>
      let (t, port) := sendOn s k (if r.anyPort then [] else r.tried)
      reqPut t { r with tried := triedNow s r.tried port, anyPort := r.anyPort && port.isNone }

/-- Whether a request that waits to be sent has failed on every active port (R319). -/
def unreachable (s : State) (r : RideReq) : Bool :=
  let failed := portsNotUp s ++ if r.anyPort then [] else r.tried
  r.answer.isNone && !s.ride.quiet && s.ride.outbox.any r.carries && (List.finRange 36).all fun p => !portActive s p || failed.contains p.val

/-- The destinations of requests that have failed on every active port are reported (R319, R320). -/
def pathCheck (s : State) : State :=
  if s.ride.outbox.isEmpty then s
  else ((s.ride.reqs.filter (unreachable s)).map fun r => r.pkt.dst).eraseDups.foldl pathFail s

/-- The packets that wait for a port leave as ports take them. -/
def drainOutbox (s : State) : State :=
  pathCheck (s.ride.outbox.foldl sendTracked (s.modRide fun k => { k with outbox := [] }))

/-- The active ports that are UP and have not carried a request. -/
def untried (s : State) (r : RideReq) : List (Fin 36) :=
  (List.finRange 36).filter fun p => portActive s p && portState s p == 3 && !r.tried.contains p.val

/-- A request that has failed on a port is sent again with RETX = 1, or its destination cannot be reached (R319, R320). -/
def failoverReq (s : State) (r : RideReq) : State :=
  if (untried s r).isEmpty then pathFail s r.pkt.dst
  else
    let s := count s RIDE_FAILOVER 1
    let r := { r with pkt := { r.pkt with retx := true }, sends := r.sends + 1 }
    sendTracked (reqPut s r) r.pkt

/-- A packet handed back by a failed port is sent on another (R312). -/
def handBack (s : State) (k : Packet) : State :=
  if k.resp then (sendOn s k []).1
  else
    match s.ride.reqs.find? fun r => r.carries k && r.answer.isNone with
    | some r => failoverReq s r
    | none => s

/-- FAILOVER: a request without a response 50 µs after its last transmission. -/
def execFailover (id : Nat) (s : State) : Outcome State Fault Refusal :=
  if s.still then next s s else
  match reqFind s id with
  | some r =>
    if r.answer.isNone ∧ r.dup = false ∧ r.busy = false ∧ r.pkt.dst ≠ ownDevice s then next s (failoverReq s r) else next s s
  | none => next s s

/-! ### Ports (Table 12.2) -/

/-- A port's link layer changed. -/
def State.modPort (s : State) (p : Fin 36) (f : Port → Port) : State := s.modRide fun k => k.modPort p f

/-- The state of a port set. -/
def setPortState (s : State) (p : Fin 36) (n : Nat) : State := s.setFld (RIDE_PORT_STATUS p) fldRIDE_PORT_STATUS_STATE n

/-- An UP port leaves service to train: the packets with a unit unacknowledged or still to be sent are handed back, and its link starts
anew (assumption 21). What has arrived over it stays in the receive buffer. -/
def portDown (s : State) (p : Fin 36) : State :=
  if portState s p = 3 then
    let q := s.ride.ports.get p
    let back := (q.unacked.flatMap TxFlit.pkts ++ q.txq.map Prod.fst).eraseDups
    let s := s.modPort p fun q => { Port.reset with fails := q.fails }
    let s := s.modRide fun k => { k with inbox := k.inbox.map fun e => if e.1 = p.val then (36, e.2) else e }
    let s := rideEvent (setPortState s p 1) 3
    pathCheck (back.foldl handBack s)
  else s

/-- One flit sent again; Windthrow point 0 judges it as any flit that leaves. -/
def replayFlit (p : Fin 36) (s : State) : State := linkEvent (count s (RIDE_PORT_REPLAY p) 1) p

/-- The unacknowledged flits of an UP port are sent again; a flit replayed 64 times fails the port (R312). -/
def replay (s : State) (p : Fin 36) : State :=
  if portState s p = 3 then
    let s := s.modPort p fun q => { q with unacked := q.unacked.map fun f => { f with replays := f.replays + 1 } }
    let s := (s.ride.ports.get p).unacked.foldl (fun s _ => replayFlit p s) s
    if (s.ride.ports.get p).unacked.any fun f => decide (64 ≤ f.replays) then portDown s p else s
  else s

/-- Flits up to an acknowledged number are released. -/
def ackFlits (s : State) (p : Fin 36) (ack : Nat) : State :=
  s.modPort p fun q => { q with unacked := q.unacked.filter fun f => psnBelow ack f.fseq }

/-- A flit is discarded, as every later one is until the replay arrives; one replay request is owed for them (R312). -/
def flitDiscard (s : State) (p : Fin 36) : State := s.modPort p fun q => { q with asked := if q.asked = 0 then 1 else q.asked }

/-- A flit's symbols corrected on each lane are counted (R313, Table 12.21). -/
def flitFixed (s : State) (p : Fin 36) (fixed : List Nat) : State :=
  (count s (RIDE_PORT_FEC p) fixed.sum).modPort p fun q => { q with fec := List.zipWith (· + ·) q.fec fixed }

/-- A flit is accepted: what it acknowledges is released, the credit it returns is taken, and its packets enter the receive buffer (R310 to
R312). The packets are answered. -/
def flitAccept (s : State) (p : Fin 36) (l : List Byte) : State × List Packet :=
  let s := ackFlits s p (numAt l 4 4)
  let (part, ks) := if numAt l 8 1 = 0 then cutUnits (flitUnits l) (s.ride.ports.get p).part [] else ((s.ride.ports.get p).part, [])
  let s := s.modPort p fun q => { q with
    rxNext := (q.rxNext + 1) % 2 ^ 32, asked := 0, part := part, credit0 := q.credit0 + numAt l 10 2,
    credit1 := q.credit1 + numAt l 12 2, credit2 := q.credit2 + numAt l 14 2 }
  let s := s.modRide fun k => { k with inbox := k.inbox ++ ks.map fun x => (p.val, x) }
  (drainOutbox (if numAt l 8 1 = 2 then replay s p else s), ks)

/-- REPLAY_REQUEST. -/
def execReplayRequest (port : Fin 36) (ack : Nat) (s : State) : Outcome State Fault Refusal :=
  if s.still then next s s else
  if portState s port = 3 then next s (replay (ackFlits s port ack) port) else next s s

/-- REPLAY_TIMEOUT. -/
def execReplayTimeout (port : Fin 36) (s : State) : Outcome State Fault Refusal :=
  if s.still then next s s else
  if (s.ride.ports.get port).unacked.isEmpty then next s s else next s (replay s port)

/-- PORT_FAILURE: a flit is 50 µs old, or a data lane has lost its signal. -/
def execPortFailure (port : Fin 36) (s : State) : Outcome State Fault Refusal := if s.still then next s s else next s (portDown s port)

/-- FEC_THRESHOLD: where the symbols corrected on one lane in the running millisecond exceed FECTHR the port retrains; `ended` says that the
millisecond is over, and the next one counts from 0 (R313). -/
def execFecThreshold (port : Fin 36) (ended : Bool) (s : State) : Outcome State Fault Refusal :=
  if s.still then next s s else
  if portState s port ≠ 3 then next s s
  else if (s.ride.ports.get port).fec.any fun n => decide (s.fld (RIDE_PORT_CTRL port) fldRIDE_PORT_CTRL_FECTHR < n) then
    next s (portDown s port)
  else if ended then next s (s.modPort port fun q => { q with fec := [0, 0, 0, 0] })
  else next s s

/-- A write of RIDE_PORT_CTRL. -/
def portCtrlWrite (s : State) (p : Fin 36) (v : Word) : State :=
  let n := fldRIDE_PORT_CTRL_FECTHR.get v
  let s := if n = 0 then s else s.setFld (RIDE_PORT_CTRL p) fldRIDE_PORT_CTRL_FECTHR n
  if fldRIDE_PORT_CTRL_RETRAIN.test v then portDown s p else s

/-- RETRAIN. -/
def execRetrain (port : Fin 36) (s : State) : Outcome State Fault Refusal := if s.still then next s s else next s (portDown s port)

/-- The third failed attempt in a row: the port is FAILED, recorded, and retired at the next canopy load unless Windthrow works on its
flits (R313, R386, R424). -/
def portFailed (s : State) (p : Fin 36) : State :=
  let tgt := s.fld (WT_POINT 0) fldWT_POINT_TARGET % 64
  let wt := wtOn s && s.test (WT_POINT 0) fldWT_POINT_ON && (tgt == 63 || tgt == p.val)
  let s := setPortState s p 5
  let s := logFault s { mkRec 12 3 4 p.val with
    flags := if wt then 1 else 4, sub := s.fld (RIDE_PORT_STATUS p) fldRIDE_PORT_STATUS_LANES, arg := 3 }
  if wt then s else retire s 4 p.val 0

/-- Whether a lane qualifies: its symbol errors, among the symbols it was sent, are fewer than 2.4 × 10^-4 of them (R313). -/
def LaneErr.qualifies (e : LaneErr) : Bool := decide (e.errs * 100000 < 24 * e.syms)

/-- The physical lanes that qualify. -/
def goodLanes (lanes : List LaneErr) : List Nat := (upFrom 0 5).filter fun i => (lanes[i]?.map LaneErr.qualifies).getD false

/-- The spare lane that training leaves: the one that did not qualify, or of five that did the one with the most errors, the highest of
those that have as many (DESIGN CHOICE, assumption 110). -/
def spareLane (lanes : List LaneErr) : Nat :=
  let l := goodLanes lanes
  let n := fun (i : Nat) => (lanes[i]?.map LaneErr.errs).getD 0
  if l.length = 5 then l.foldl (fun m i => if n m ≤ n i then i else m) 0
  else ((upFrom 0 5).find? fun i => !l.contains i).getD 4

/-- TRAINING_COMPLETE: an attempt ends. `lanes` gives what each physical lane has counted in stage 2; `ok` says that the partner
is a switch port and that the attempt took no more than 20 ms. On success the port sends its JOIN record (R313, R336). -/
def execTrainingComplete (port : Fin 36) (errs syms : List Nat) (ok : Bool) (s : State) : Outcome State Fault Refusal :=
  if s.still then next s s else
  let lanes := List.zipWith LaneErr.mk errs syms
  if portState s port ≠ 1 then next s s
  else
    let good := goodLanes lanes
    let s1 := s.setFld (RIDE_PORT_STATUS port) fldRIDE_PORT_STATUS_LANES ((good.map (2 ^ ·)).sum)
    if ok ∧ 4 ≤ good.length then
      let old := s.fld (RIDE_PORT_STATUS port) fldRIDE_PORT_STATUS_SPARE
      let new := spareLane lanes
      let s1 := setPortState (s1.setFld (RIDE_PORT_STATUS port) fldRIDE_PORT_STATUS_SPARE new) port 2
      let s1 := s1.modPort port fun q => { q with fails := 0, lanes := (upFrom 0 5).filter (· != new) }
      let s1 := sendFlit s1 port 3 [] [] (some (ownDevice s, port.val))
      next s (if new = old then s1
        else logFault (rideEvent s1 5) { mkRec 13 0 4 port.val with sub := new, arg := old })
    else
      let n := (s.ride.ports.get port).fails + 1
      if n < 3 then next s (count (s1.modPort port fun q => { q with fails := n }) (RIDE_PORT_RETRAIN port) 1)
      else next s (bootCheck (portFailed (s1.modPort port fun q => { q with fails := 0 }) port))

/-- JOIN_ACCEPT (R336). -/
def execJoinAccept (port : Fin 36) (s : State) : Outcome State Fault Refusal :=
  if s.still then next s s else
  if portState s port ≠ 2 then next s s
  else
    let s1 := rideEvent (setPortState s port 3) 4
    let s1 := if s1.test RIDE_DEVICE fldRIDE_DEVICE_JOINED then s1
      else rideEvent (s1.setBit RIDE_DEVICE fldRIDE_DEVICE_JOINED true) 0
    next s (bootCheck (feedWaiting (drainOutbox s1)))

/-- JOIN_REFUSE (R336). -/
def execJoinRefuse (port : Fin 36) (s : State) : Outcome State Fault Refusal :=
  if s.still then next s s else
  if portState s port ≠ 2 then next s s else next s (bootCheck (rideEvent (setPortState s port 6) 6))

/-- RESET_QUIET_END: the endpoint may send transport packets again (R336). -/
def execResetQuietEnd (s : State) : Outcome State Fault Refusal :=
  if s.still then next s s else
  next s (drainOutbox (s.modRide fun k => { k with quiet := false }))

end Sys2Proof.Machine
end

