-- ==== Sys2Proof/Machine/XferBase.lean ====
section
/-! DEFINITION. Posting descriptors to a transfer engine and aborting them (R292, R294, R301). -/
namespace Sys2Proof.Machine
open Host

/-- An engine changed. -/
def State.modEng (s : State) (e : Fin 16) (f : XEng → XEng) : State := { s with xfer := s.xfer.set e (f (s.xfer.get e)) }

/-- A post is accepted: the engine samples the running ring and the posting core's sub-ring (R294). -/
def postAccept (s : State) (e : Fin 16) (m : Nat) (v : Word) : State :=
  let p : XPost := {
    addr := fldXFER_POST_DESC.get v * 64, core := if m < 48 then some m else none, tag := runningRing s,
    sub := if m < 48 then coreSub s (coreOf m) else 0, aborted := false }
  s.modEng e fun x => { x with queue := x.queue ++ [p] }

/-- Whether an engine's queue is full (R292). -/
def postFull (s : State) (e : Fin 16) : Bool := decide (64 ≤ (s.xfer.get e).queue.length)

/-- Whether a store to an address waits for an engine's full queue, as a core does that posts there (R292, R302). -/
def postWaits (s : State) (a : Nat) : Bool := (List.finRange 16).any fun e => a == XFER_POST e && postFull s e

/-- A store of XFER_POST by a master: accepted, or where the queue is full waiting its turn. -/
def xferPostOp (s : State) (m : Nat) (e : Fin 16) (v : Word) : State :=
  if postFull s e then s.modEng e fun x => { x with posts := x.posts ++ [(m, v)] } else postAccept s e m v

/-- An entry of an engine's queue has become free: the first post that waits is accepted. -/
def postNext (s : State) (e : Fin 16) : State :=
  match (s.xfer.get e).posts with
  | [] => s
  | (m, v) :: l => if postFull s e then s else postAccept (s.modEng e fun x => { x with posts := l }) e m v

/-- XFER_CTRL.ABORT: every queued and active descriptor is aborted; a post that still waits is not. -/
def abortEngine (s : State) (e : Fin 16) : State :=
  s.modEng e fun x =>
    { x with queue := x.queue.map (fun q => { q with aborted := true }),
             active := x.active.map fun d => { d with aborted := true } }

/-- ABORT. -/
def execXferAbort (e : Fin 16) (s : State) : Outcome State Fault Refusal := if s.still then next s s else next s (abortEngine s e)

end Sys2Proof.Machine
end

