-- ==== Sys2Proof/Machine/Regs.lean ====
section
/-! DEFINITION. Reads and writes of the register regions: control registers (R4 to R10 and each block's register map), blazes (R331) and
exact accumulators (R284, Table 10.2). -/
namespace Sys2Proof.Machine
open Host

/-! ### Which element of an array of registers -/

/-- The core whose block holds an address. -/
def blockCore (a : Nat) : CoreId := coreOf ((a - CORE_ID 0) / 0x10000)

/-- The element of a row of registers at an address. -/
def rowIndex (r : RegRow) (a : Nat) : Nat :=
  match r.dims with
  | (_, st) :: _ => (a - r.base) / st
  | [] => 0

/-! ### Timer (R51) -/

/-- TIMER of a core follows the comparison of CORE_REFTIME with CORE_TIMER_CMP, one cycle after either changes. -/
def timerUpdate (s : State) (c : CoreId) : State :=
  let w := s.reg (CORE_IPEND c)
  let due := decide ((s.reg (CORE_TIMER_CMP c)).toNat ≤ refTime s)
  let bit : Word := BitVec.ofNat 64 (2 ^ 16)
  let s := if (s.core c).pendTimer then s.modCore c fun k => { k with pendTimer := false } else s
  wfiCheck (s.setReg (CORE_IPEND c) (if due then w ||| bit else w &&& ~~~ bit)) c

/-- TIMER: the comparison as it stands is taken over by a core whose domain is up. -/
def execTimer (c : CoreId) (s : State) : Outcome State Fault Refusal :=
  if s.still ∨ 3 ≤ s.fld (PWR_CORE c) fldPWR_CORE_STATE then next s s else next s (timerUpdate s c)

/-! ### Reads -/

/-- What remains of a core's quiet window. -/
def qwRemain (s : State) (c : CoreId) : Nat :=
  match (s.core c).qwEnd with
  | some e => e.toNat - (s.reg (CORE_CYCLE c)).toNat
  | none => 0

/-- Tags of an engine in use: the requests it has issued (R295). -/
def tagsOf (x : XEng) : Nat := (x.active.map fun d => d.issued.length).foldl (· + ·) 0

/-- XFER_STATUS as it stands (Table 11.8). -/
def xferStatus (s : State) (e : Fin 16) : Word :=
  let x := s.xfer.get e
  word [(fldXFER_STATUS_IDLE, flag (x.queue.isEmpty && x.active.isEmpty)), (fldXFER_STATUS_TAGHWM, x.hwm),
    (fldXFER_STATUS_TAGS, tagsOf x), (fldXFER_STATUS_ACTIVE, x.active.length), (fldXFER_STATUS_QUEUED, x.queue.length)]

/-- The active ports in a state that a predicate accepts. -/
def portsIn (s : State) (p : Nat → Bool) : Nat := (List.finRange 36).countP fun i => portActive s i && p (portState s i)

/-- The timeout T in µs (R228). -/
def ringTimeout (s : State) : Nat :=
  max (s.fld RING_TIMEOUT fldRING_TIMEOUT_VALUE) (400 * (List.finRange 36).countP fun i => portActive s i)

/-- STK_PTE_QUERY with the entry of its granule as it stands (R281). -/
def pteQuery (s : State) (st a : Nat) : Word :=
  let g := granuleIn s st (s.fld a fldSTK_PTE_QUERY_GRANULE)
  let e := pteOf s g
  let held := s.mem.sapNew.gran.contains g || s.mem.sapOld.gran.contains g || s.mem.retained.gran.contains g ||
    s.mem.accVers.any fun v => v.gran == g
  word [(fldSTK_PTE_QUERY_GRANULE, s.fld a fldSTK_PTE_QUERY_GRANULE), (fldSTK_PTE_QUERY_MIRROR, e / 4 % 2),
    (fldSTK_PTE_QUERY_VER, flag held), (fldSTK_PTE_QUERY_KIND, e % 4)]

/-- Whether an AVSBus master has a transaction in progress. -/
def avsBusy (s : State) (m : Fin 2) : Bool := !(s.pwr.avs.get m).queue.isEmpty || (s.pwr.avs.get m).prev.isSome

/-- The SEQ of the oldest or newest record held, 0 if the log is empty (Table 16.7). -/
def fltEnd (s : State) (newest : Bool) : Word :=
  BitVec.ofNat 64 (((if newest then s.flt.log.getLast? else s.flt.log.head?).map fun r => r.seq).getD 0)

/-- WT_STATUS: the points that inject. -/
def wtStatus (s : State) : Word :=
  BitVec.ofNat 64 (((List.finRange 6).filter fun (k : Fin 6) =>
    s.test WT_CTRL fldWT_CTRL_EN && s.test (WT_POINT k) fldWT_POINT_ON).foldl (fun (m : Nat) (k : Fin 6) => m + 2 ^ k.val) 0)

/-- Whether an address lies in the Windthrow block. -/
def inWt (a : Nat) : Bool := decide (WT_CTRL ≤ a) && decide (a < WT_CTRL + 0x10000)

/-- A core register's value where it differs from what is stored. -/
def coreView (s : State) (a : Nat) : Option Word :=
  let c := blockCore a
  let w := s.reg a
  if a = CORE_STATUS c then some (fldCORE_STATUS_QW.set (flag (qwOpen s c)) w)
  else if a = CORE_REFTIME c then some (s.reg (CORE_REFTIME 0))
  else if a = CORE_QWIN c then some (fldCORE_QWIN_OPEN.set (flag (qwOpen s c)) (fldCORE_QWIN_REMAIN.set (qwRemain s c) w))
  else if a = NUM_MODE c then some ((s.core c).pendMode.getD w)
  else if a = VEC_STATUS c then some (fldVEC_STATUS_UNRET.set (flag (!(s.core c).vecQ.isEmpty)) w)
  else if VEC_RNG_STATE c 0 ≤ a ∧ a < VEC_RNG_STATE c 32 then
    (rngShown (s.core c)).map fun ls => ls.getD ((a - VEC_RNG_STATE c 0) / 8) 0
  else if a = CORE_L1CFG c then some (fldCORE_L1CFG_SHARE.set (fldCORE_L1CFG_SHARE.get (pendingReg s a)) w)
  else if a = CORE_ISSUE c then
    some (fldCORE_ISSUE_A20.set (fldCORE_ISSUE_A20.get (pendingReg s a)) (fldCORE_ISSUE_MISS.set (missInUse s c) w))
  else if a = CORE_ROUT c then some (word [(fldCORE_ROUT_COUNT, remoteOut s c)])
  else none

/-- A register's value where it differs from what is stored, outside the cores' blocks. -/
def deviceView (s : State) (r : RegRow) (a : Nat) : Option Word :=
  let i := rowIndex r a
  let w := s.reg a
  if a = RING_POOL then some (fldRING_POOL_FREE.set (poolFree s) w)
  else if a = RING_TIMEOUT then some (fldRING_TIMEOUT_EFFECTIVE.set (if s.wdn.applied then ringTimeout s else 0) w)
  else if r.base = BANK_REPAIR 0 then some (bankRepairView s i)
  else if a = BANK_MARCH_STATUS then some (marchView s w)
  else if r.base = STK_PTE_QUERY 0 then some (pteQuery s i a)
  else if r.base = XFER_STATUS 0 then some (xferStatus s (Fin.ofNat 16 i))
  else if a = RIDE_STATUS then
    some (word [(fldRIDE_STATUS_FAILED, portsIn s fun n => n == 5 || n == 6),
      (fldRIDE_STATUS_TRAINING, portsIn s fun n => n == 1 || n == 2), (fldRIDE_STATUS_UP, portsIn s fun n => n == 3)])
  else if a = RIDE_OUTSTANDING then
    some (word [(fldRIDE_OUTSTANDING_HWM, s.ride.outHwm), (fldRIDE_OUTSTANDING_NOW, outstanding s)])
  else if a = RIDE_STREAMS then
    some (word [(fldRIDE_STREAMS_HWM, s.ride.rxHwm), (fldRIDE_STREAMS_NOW, s.ride.rx.length)])
  else if a = FOR_STATUS then some (forStatus s)
  else if r.base = FOR_Q 0 then some (forQ s i)
  else if r.base = FOR_QT 0 then some (forQT s i)
  else if a = PWR_AVS_STATUS then
    some (fldPWR_AVS_STATUS_BUSY1.set (flag (avsBusy s 1)) (fldPWR_AVS_STATUS_BUSY0.set (flag (avsBusy s 0)) w))
  else if r.base = PWR_CORE 0 then some (fldPWR_CORE_STATE.set (coreDomain s i) w)
  else if a = AGE_SPARES then
    some (fldAGE_SPARES_LANES.set ((List.finRange 36).countP fun p =>
      decide (s.fld (RIDE_PORT_STATUS p) fldRIDE_PORT_STATUS_SPARE < 4)) w)
  else if a = WDN_MBOX_STATUS then
    some (fldWDN_MBOX_STATUS_IDLE.set (flag s.wdn.mbox.isEmpty) (fldWDN_MBOX_STATUS_QUEUED.set (min s.wdn.mbox.length 16) w))
  else if a = WDN_DIEID then some Config.dieid
  else if a = FLT_HEAD then some (fltEnd s true)
  else if a = FLT_OLDEST then some (fltEnd s false)
  else if r.base = FLT_REC 0 then
    some (BitVec.ofNat 64 (natOfBytes ((((recOf s (s.reg FLT_SEL).toNat)).drop (8 * i)).take 8)))
  else if a = WT_STATUS then some (wtStatus s)
  else if a = WT_CTRL then some (fldWT_CTRL_ALLOWED.set (flag (s.test CAN_POLICY fldCAN_POLICY_WINDTHROW)) w)
  else none

/-- A register's bits as a read returns them: a field that is write-only reads 0 (Table 0.5). -/
def readable (r : RegRow) (w : Word) : Word := r.flds.foldl (fun w f => if f.acc = .wo then f.fld.set 0 w else w) w

/-- A register's value as a read finds it. -/
def regView (s : State) (r : RegRow) (a : Nat) : Word :=
  if inWt a ∧ s.test CAN_POLICY fldCAN_POLICY_WINDTHROW = false then r.resetWord
  else (if CORE_ID 0 ≤ a ∧ a < CORE_ID 48 then coreView s a else deviceView s r a).getD (pendingReg s a)

/-- A read of a control register; what it clears is cleared (RC). -/
def ctrlRegRead (s : State) (a : Nat) : Word × State :=
  match regRowAt a with
  | none => (0, s)
  | some r =>
    let w := readable r (regView s r a)
    let s := if r.base = XFER_STATUS 0 then s.modEng (Fin.ofNat 16 (rowIndex r a)) fun x => { x with hwm := 0 }
      else if a = RIDE_OUTSTANDING then s.modRide fun k => { k with outHwm := 0 }
      else if a = RIDE_STREAMS then s.modRide fun k => { k with rxHwm := 0 }
      else s
    (w, s)

/-! ### Writes -/

/-- What a write leaves of a register's stored value by the access codes of its fields (Table 0.5). -/
def accWrite (r : RegRow) (old v : Word) : Word :=
  r.flds.foldl (fun w f =>
    match f.acc with
    | .rw => f.fld.set (f.fld.get v) w
    | .w1c => w &&& ~~~ (v &&& f.fld.mask)
    | .w1s => w ||| (v &&& f.fld.mask)
    | _ => w) old

/-- The pending value of a register after a write of its launch-latched fields. -/
def llWrite (s : State) (r : RegRow) (a : Nat) (v : Word) : State :=
  if r.flds.any fun f => f.acc == .ll then
    let w := r.flds.foldl (fun w f => if f.acc = .ll then f.fld.set (f.fld.get v) w else w) (pendingReg s a)
    { s with ll := mapInsert s.ll a w }
  else s

/-- A write by the access codes alone. -/
def plainWrite (s : State) (r : RegRow) (a : Nat) (v : Word) : State := llWrite (s.setReg a (accWrite r (s.reg a) v)) r a v

/-- A written value with a field replaced by what the register holds, where the write leaves that field unchanged. -/
def keepFld (s : State) (a : Nat) (f : Fld) (keep : Bool) (v : Word) : Word := if keep then f.set (f.get (pendingReg s a)) v else v

/-- A write to a counter whose INC field advances it (R178). -/
def incWrite (s : State) (r : RegRow) (a : Nat) (inc : Fld) (v : Word) : State :=
  let s := plainWrite s r a v
  if inc.test v then count s a 1 else s

/-- A write of UPD_FALLBACK: SET stands above FLAG (Table 6.11). -/
def fallbackWrite (s : State) (a : Nat) (v : Word) : State :=
  let w := s.reg a
  let on := fldUPD_FALLBACK_SET.test v || (fldUPD_FALLBACK_FLAG.test w && !fldUPD_FALLBACK_FLAG.test v)
  s.setReg a (fldUPD_FALLBACK_FLAG.set (flag on) (fldUPD_FALLBACK_SHARD.set (fldUPD_FALLBACK_SHARD.get v) w))

/-- A write of a register of a core's block by a master; none where the access codes alone say what it does. -/
def coreRegWrite (s : State) (m : Nat) (r : RegRow) (a : Nat) (v : Word) : Option State :=
  let c := blockCore a
  if a = CORE_IPEND c then some (wfiCheck (plainWrite s r a (v &&& ~~~ BitVec.ofNat 64 (2 ^ 16))) c)
  else if a = CORE_IEN c then some (wfiCheck (plainWrite s r a v) c)
  else if a = CORE_SWI c then
    some (wfiCheck (s.setReg (CORE_IPEND c) (s.reg (CORE_IPEND c) ||| (v &&& fldCORE_SWI_SWI.mask))) c)
  else if a = CORE_TIMER_CMP c then some ((plainWrite s r a v).modCore c fun k => { k with pendTimer := true })
  else if a = NUM_MODE c then
    if m = c.val then some (plainWrite s r a v)
    else some (s.modCore c fun k => { k with pendMode := some (accWrite r (s.reg a) v) })
  else if a = VEC_VL c then some (s.modCore c fun k => { k with pendVL := some (accWrite r (s.reg a) v) })
  else if a = VEC_VPROG c then some (s.modCore c fun k => { k with pendVprog := some (accWrite r (s.reg a) v) })
  else if a = VEC_RNG c then some (s.modCore c fun k => { k with pendRngMode := some (fldVEC_RNG_MODE.test v) })
  else if r.base = VEC_RNG_STATE 0 0 then
    some (s.modCore c fun k => { k with pendRng := mapInsert k.pendRng ((a - VEC_RNG_STATE c 0) / 8) v })
  else if a = UPD_FALLBACK c then some (fallbackWrite s a v)
  else if a = UPD_FALLBACK_COUNT c then some (incWrite s r a fldUPD_FALLBACK_COUNT_INC v)
  else if a = UPD_DONE_COUNT c then some (incWrite s r a fldUPD_DONE_COUNT_INC v)
  else if a = CORE_L1CFG c then
    let v := if fldCORE_L1CFG_DEFHINT.get v = 3 then fldCORE_L1CFG_DEFHINT.set (s.fld a fldCORE_L1CFG_DEFHINT) v else v
    some (plainWrite s r a (keepFld s a fldCORE_L1CFG_SHARE (decide (5 ≤ fldCORE_L1CFG_SHARE.get v)) v))
  else if a = CORE_PF c then
    let d := fldCORE_PF_DIST.get v
    let s := plainWrite s r a (keepFld s a fldCORE_PF_DIST (d == 0 || decide (64 < d)) v)
    some (if fldCORE_PF_EN.test v then s else s.modCore c fun k => { k with pf := [] })
  else if a = CORE_DEADFALL c then some (deadfallOp s v)
  else none

/-- A write of Forester's and the power controller's registers. -/
def energyWrite (s : State) (r : RegRow) (a : Nat) (v : Word) : Option State :=
  let i := rowIndex r a
  let keep0 := fun f => keepFld s a f (f.get v == 0)
  if a = FOR_POST then some (postOp s v)
  else if a = FOR_BUDGET then
    let l := s.fld FOR_BUDGET fldFOR_BUDGET_LIMIT
    some (plainWrite s r a (fldFOR_BUDGET_WATTS.set (min (fldFOR_BUDGET_WATTS.get v) l) v))
  else if a = FOR_CFG then some (plainWrite s r a (keep0 fldFOR_CFG_HORIZON v))
  else if a = FOR_THERM then
    let f := fldFOR_THERM_FMAX.get v
    let v := keepFld s a fldFOR_THERM_FMAX (decide (f < 6) || decide (24 < f)) v
    let s := plainWrite s r a (fldFOR_THERM_TLIM.set (min (fldFOR_THERM_TLIM.get v) 0x690) v)
    some (if s.test FOR_THERM fldFOR_THERM_HEAT then applyCaps s else s)
  else if a = FOR_CANCEL then some (cancelOp s v)
  else if r.base = FOR_ACT 0 then some (forActWrite s (Fin.ofNat 4 i) v)
  else if r.base = FOR_CORE 0 then
    let s := plainWrite s r a v
    some (if fldFOR_CORE_DONE.test v then taskDone s (coreOf i) else s)
  else if a = PWR_AVS_CFG then
    let v := keep0 fldPWR_AVS_CFG_TIMEOUT v
    some (plainWrite s r a (fldPWR_AVS_CFG_CLKDIV.set (max (fldPWR_AVS_CFG_CLKDIV.get v) 7) v))
  else if a = PWR_AVS_STATUS then
    let cleared := fldPWR_AVS_STATUS_LOCK.get v
    let s := plainWrite s r a v
    some ((upFrom 0 5).foldl (fun s k => if bitOf cleared k then setRail s k { railOf s k with fails := 0, caps := [] } else s) s)
  else if r.base = PWR_CORE 0 then
    some (if fldPWR_CORE_REST.test v then restOn s (coreOf i) else restOff s (coreOf i))
  else if a = AGE_CFG then some (plainWrite s r a (keep0 fldAGE_CFG_PERIOD v))
  else if a = AGE_CTRL then some (ageCtrlWrite s v)
  else none

/-- A write of the other registers that do more than store. -/
def deviceWrite (s : State) (m : Nat) (r : RegRow) (a : Nat) (v : Word) : Option State :=
  let i := rowIndex r a
  let keep0 := fun f => keepFld s a f (f.get v == 0)
  if a = RING_CTRL then some (ringCtrlWrite s v)
  else if a = RING_NEXT then some (ringNextOp s v)
  else if a = RING_GSTEP then some (ringGstepOp s v)
  else if a = RING_TRIP then some (plainWrite s r a (keepFld s a fldRING_TRIP_SUB_NV (fldRING_TRIP_SUB_NV.get v == 3) v))
  else if a = RING_SUBCTRL then some (subCtrlWrite s v)
  else if a = BANK_MARCH_CTRL then some (marchCtrlWrite s v)
  else if r.base = STK_CFG 0 then some (plainWrite s r a (keep0 fldSTK_CFG_DIETHR v))
  else if r.base = STK_PTE_SET 0 then some (pteSetWrite s i v)
  else if r.base = STK_SCRUB 0 then some (plainWrite s r a (keep0 fldSTK_SCRUB_HOURS v))
  else if r.base = XFER_POST 0 then some (xferPostOp s m (Fin.ofNat 16 i) v)
  else if r.base = XFER_CTRL 0 then
    let s := plainWrite s r a v
    some (if fldXFER_CTRL_ABORT.test v then abortEngine s (Fin.ofNat 16 i) else s)
  else if r.base = RIDE_PORT_CTRL 0 then some (portCtrlWrite s (Fin.ofNat 36 i) v)
  else if a = WDN_MBOX_POST then some (mboxPost s v)
  else if a = WDN_SVCQ_BASE then some (svcqBaseOp s v)
  else if a = WDN_SVCQ_TAIL then some (svcqTailOp s v)
  else if a = FLT_ROUTE then
    some (plainWrite s r a (keepFld s a fldFLT_ROUTE_CORE (decide (48 ≤ fldFLT_ROUTE_CORE.get v)) v))
  else if a = WT_SEED then some (wtSeedOp s v)
  else if r.base = WT_POINT 0 then some (wtPointOp s (Fin.ofNat 6 i) v)
  else energyWrite s r a v

/-- A write of a control register by a master. -/
def ctrlRegWrite (s : State) (m a : Nat) (v : Word) : State :=
  match regRowAt a with
  | none => s
  | some r =>
    if inWt a ∧ s.test CAN_POLICY fldCAN_POLICY_WINDTHROW = false then s
    else if CORE_ID 0 ≤ a ∧ a < CORE_ID 48 then
      keepWrite ((coreRegWrite s m r a v).getD (plainWrite s r a v)) (blockCore a) a fun w => accWrite r w v
    else (deviceWrite s m r a v).getD (plainWrite s r a v)

/-! ### Blazes and exact accumulators -/

/-- A read of a blaze's 64 bytes (R331). -/
def blazeRead (s : State) (a : Nat) : Word :=
  let b := (a - blazeBase) / 64
  let o := a % 64
  if o = 0 then s.reg (BLZ_VALUE b)
  else if o = 0x10 then s.reg (BLZ_CFG b)
  else if o = 0x18 then fldBLZ_STATUS_WAITERS.set (blzWaiters s b) (s.reg (BLZ_STATUS b))
  else 0

/-- A write of a blaze's 64 bytes. -/
def blazeWrite (s : State) (a : Nat) (v : Word) : State :=
  let b := (a - blazeBase) / 64
  let o := a % 64
  if o = 0 then blzStore s b v
  else if o = 8 then blzAdd s b (fldBLZ_ADD_AMOUNT.get v)
  else if o = 0x10 then
    if 48 ≤ fldBLZ_CFG_OWNER.get v then s else s.setFld (BLZ_CFG b) fldBLZ_CFG_OWNER (fldBLZ_CFG_OWNER.get v)
  else if o = 0x18 then
    if fldBLZ_STATUS_BLZ_OVF.test v then s.setBit (BLZ_STATUS b) fldBLZ_STATUS_BLZ_OVF false else s
  else s

/-- The number of the accumulator at an address. -/
def accIndex (a : Nat) : Nat := (a - exaccBase) / 0x100000 * 4096 + (a - exaccBase) % 0x100000 / 128

/-- A read of an accumulator's 128 bytes (Table 10.2). -/
def exaccRead (s : State) (a : Nat) : Word :=
  let x := accGet s (accIndex a)
  let o := a % 128
  if o = 0 then BitVec.ofNat 64 (x.readout f32)
  else if o = 8 then BitVec.ofNat 64 (x.readout f64)
  else if o = 0x18 then BitVec.ofNat 64 x.st
  else if 0x30 ≤ o then BitVec.ofNat 64 (wrapInt 640 x.val >>> (8 * (o - 0x30)))
  else 0

/-- A write of an accumulator's 128 bytes. -/
def exaccWrite (s : State) (a : Nat) (v : Word) : State :=
  let k := accIndex a
  let o := a % 128
  if o = 0x10 then accClearOp s k v
  else if o = 0x20 then accAddOp s k v
  else if o = 0x28 then accAddSqOp s k v
  else s

/-! ### The three regions together (R3, R4) -/

/-- A master's read of 64 bits of a register region at an aligned address; none where R3 gives an address error. -/
def regionRead (s : State) (a : Nat) : Option (Word × State) :=
  match regionOf s a with
  | some .ctrl => some (ctrlRegRead s a)
  | some .blaze => some (blazeRead s a, s)
  | some .exacc => some (exaccRead s a, s)
  | _ => none

/-- A master's write of 64 bits of a register region at an aligned address. -/
def regionWrite (s : State) (m a : Nat) (v : Word) : Option State :=
  match regionOf s a with
  | some .ctrl => some (ctrlRegWrite s m a v)
  | some .blaze => some (blazeWrite s a v)
  | some .exacc => some (exaccWrite s a v)
  | _ => none

/-- A write of a register by a master, after its earlier stores where the master is a core (R185): an access that is not naturally
aligned to 64 bits, or that no block holds, has no effect (R3, R4); a core's post to a full engine queue waits (R292). -/
def registerWriteOp (s : State) (m a : Nat) (v : Word) : State :=
  if a % 8 ≠ 0 ∨ (m < 48 ∧ postWaits s a) then s else byMaster s m fun s => (regionWrite s m (unalias m a) v).getD s

/-- REGISTER_WRITE. -/
def execRegisterWrite (m a : Nat) (v : Word) (s : State) : Outcome State Fault Refusal := if s.modu.poresetLow then next s s else next s (registerWriteOp s m a v)

/-- DEADFALL: the hint waits for the core's earlier stores to perform (R252). -/
def execDeadfall (c : CoreId) (v : Word) (s : State) : Outcome State Fault Refusal := if s.still then next s s else next s (byMaster s c.val fun s => deadfallOp s v)

/-- XFER_POST: a core's earlier stores are performed first (Table 7.2); a core waits for a full queue. -/
def execXferPost (m : Nat) (e : Fin 16) (v : Word) (s : State) : Outcome State Fault Refusal :=
  if s.still then next s s else
  next s (if m < 48 ∧ postFull s e then s else byMaster s m fun s => xferPostOp s m e v)

/-- CORE_SWI_WRITE: a store of a core's CORE_SWI. -/
def execCoreSwiWrite (c : CoreId) (v : Word) (s : State) : Outcome State Fault Refusal := if s.still then next s s else next s (ctrlRegWrite s 64 (CORE_SWI c) v)

/-- UPD_FALLBACK_SET: a store of a core's UPD_FALLBACK. -/
def execUpdFallbackSet (c : CoreId) (v : Word) (s : State) : Outcome State Fault Refusal := if s.still then next s s else next s (fallbackWrite s (UPD_FALLBACK c) v)

/-- UPD_COUNT_INC: a write of 1 to INC alone of a core's UPD_FALLBACK_COUNT (`k` = 0) or UPD_DONE_COUNT (1). -/
def execUpdCountInc (c : CoreId) (k : Fin 2) (s : State) : Outcome State Fault Refusal :=
  if s.still then next s s else
  next s (ctrlRegWrite s 64 (if k = 0 then UPD_FALLBACK_COUNT c else UPD_DONE_COUNT c)
    (fldUPD_FALLBACK_COUNT_INC.set 1 0))

/-- BLZ_VALUE_WRITE. -/
def execBlzValueWrite (b : Fin 16384) (v : Word) (s : State) : Outcome State Fault Refusal := if s.still then next s s else next s (blzStore s b v)
/-- BLZ_ADD_WRITE. -/
def execBlzAddWrite (b : Fin 16384) (v : Word) (s : State) : Outcome State Fault Refusal :=
  if s.still then next s s else
  next s (blzAdd s b (fldBLZ_ADD_AMOUNT.get v))

end Sys2Proof.Machine
end

