-- ==== Sys2Proof/Machine/Issue.lean ====
section
/-! DEFINITION. Taking an exception, returning from one, and what every instruction of a core has in common (R28 to R47, R103, R104,
R122, R125, R131 to R133, R144, R452). -/
namespace Sys2Proof.Machine
open Host

/-! ### What waits for an instruction boundary (R55, R122, R131, R144) -/

/-- The generators take what waits for them: ring-open seeding, the mode, software writes (R144). -/
def rngApply (s : State) (c : CoreId) : State :=
  let k := s.core c
  if k.vecQ.isEmpty = false ∨ k.tileQ.isEmpty = false then s
  else
    let s := match k.pendSeed with
      | some r => seedRing s c r
      | none => s
    let s := match k.pendRngMode with
      | some b => s.setBit (VEC_RNG c) fldVEC_RNG_MODE b
      | none => s
    let s := k.pendRng.foldl (fun s e => s.setReg (VEC_RNG_STATE c e.1) e.2) s
    s.modCore c fun q => { q with pendSeed := none, pendRngMode := none, pendRng := [] }

/-- Held writes of VEC_VL and VEC_VPROG take effect where no vector or update instruction is unretired. -/
def vlApply (s : State) (c : CoreId) : State :=
  let k := s.core c
  if k.vecQ.isEmpty = false then s
  else
    let s := match k.pendVL with
      | some w => s.setReg (VEC_VL c) w
      | none => s
    let s := match k.pendVprog with
      | some w => s.setReg (VEC_VPROG c) w
      | none => s
    s.modCore c fun q => { q with pendVL := none, pendVprog := none }

/-- TIMER follows a CORE_TIMER_CMP written in the cycle before (R51). -/
def timerApply (s : State) (c : CoreId) : State := if (s.core c).pendTimer then timerUpdate s c else s

/-- A write of NUM_MODE by another master takes effect. -/
def modeApply (s : State) (c : CoreId) : State :=
  match (s.core c).pendMode with
  | some w => (s.setReg (NUM_MODE c) w).modCore c fun q => { q with pendMode := none }
  | none => s

/-- Whether anything of a core waits for a boundary. -/
def boundaryIdle (k : CoreSt) : Bool :=
  !k.pendTimer && k.pendMode.isNone && k.pendVL.isNone && k.pendVprog.isNone && k.pendSeed.isNone && k.pendRngMode.isNone && k.pendRng.isEmpty

/-- Everything that waits for this boundary takes effect. -/
def boundaryApply (s : State) (c : CoreId) : State :=
  if boundaryIdle (s.core c) then s else rngApply (vlApply (modeApply (timerApply s c) c) c) c

/-! ### Exceptions -/

/-- An exception to be taken: its vector, fault address, instruction word, saved PC, and the SEQ of a MACHINE_CHECK's record. -/
structure Trap where
  vector : Nat
  faddr : Nat
  word : Nat
  pc : Word
  seq : Option Nat
  deriving DecidableEq, Repr

/-- CORE_CAUSE of an exception (Table 2.10). -/
def causeWord (s : State) (c : CoreId) (t : Trap) : Word :=
  word [(fldCORE_CAUSE_INSTR, if 3 ≤ t.vector ∧ t.vector ≤ 15 ∧ t.vector ≠ 5 then t.word else 0),
    (fldCORE_CAUSE_FROM_LEVEL, s.fld (CORE_STATUS c) fldCORE_STATUS_LEVEL), (fldCORE_CAUSE_VECTOR, t.vector)]

/-- CORE_STATUS as a read shows it. -/
def statusWord (s : State) (c : CoreId) : Word := fldCORE_STATUS_QW.set (flag (qwOpen s c)) (s.reg (CORE_STATUS c))

/-- Bytes 8 to 255 of a frame (Table 2.5). -/
def frameBody (s : State) (c : CoreId) (t : Trap) : List Byte :=
  let k := s.core c
  let w := fun (v : Word) => bytesOfNat 8 v.toNat
  w t.pc ++ w (statusWord s c) ++ w (causeWord s c t) ++ bytesOfNat 8 t.faddr ++ w (s.reg (VEC_VPROG c)) ++ w (s.reg (VEC_VL c)) ++
    w (s.reg (CORE_FSTAT c)) ++ w (s.reg (CORE_CYCLE c)) ++ List.replicate 56 0 ++
    (upFrom 1 15).flatMap (fun i => w (k.getX (BitVec.ofNat 5 i))) ++ List.replicate 8 0

/-- The seal of a frame's bytes 8 to 255 under a core's key (R34). -/
def sealBytes (s : State) (c : CoreId) (body : List Byte) : List Byte :=
  bytesOfNat 8 (Config.seal (s.core c).sealKey body).toNat

/-- The hint of a core's scalar accesses and tile moves (R241). -/
def defHint (s : State) (c : CoreId) : Nat := s.fld (CORE_L1CFG c) fldCORE_L1CFG_DEFHINT

/-- Stores of a core in pieces that lie within one line. -/
def storeSpan (s : State) (c : CoreId) (hint a : Nat) (bs : List Byte) : State :=
  ((cutBytes 64 bs.length bs).zipIdx).foldl (fun s e => coreStore s c hint (a + 64 * e.2) e.1) s

/-- The state in which an exception's handler starts, wherever its frame is: Ranger level, IE and STEP clear, VPROG 0 (R36, R132). -/
def enterHandler (s : State) (c : CoreId) (v : Nat) : State :=
  let s := s.setFld (CORE_STATUS c) fldCORE_STATUS_LEVEL 1
  let s := s.setBit (CORE_STATUS c) fldCORE_STATUS_IE false
  let s := s.setBit (CORE_STATUS c) fldCORE_STATUS_STEP false
  let s := s.setReg (VEC_VPROG c) 0
  let s := count s (CORE_EXC_COUNT c) 1
  s.modCore c fun k => { k with wait := .running, stepDue := none, pc := BitVec.ofNat 64 (coreLocal c (v * 32)) }

/-- The instruction that an exception is taken at: the oldest unretired vector or tile instruction, or else the one given (R104, R133). -/
def entryPc (k : CoreSt) (pc : Word) : Word := ((k.vecQ.head?.map VecOp.pc).or (k.tileQ.head?.map TileOp.pc)).getD pc

/-- What an exception is taken from: unretired vector and tile instructions are undone (R104, R133), a BWAIT is abandoned, and what waits
for the boundary takes effect where nothing was unretired at it (R122, R132). -/
def unwind (s : State) (c : CoreId) : State :=
  let k := s.core c
  let s := abandonWait (tileAbandon (restoreVec s c) c) c
  if k.vecQ.isEmpty && k.tileQ.isEmpty then boundaryApply s c else s

/-- Exception entry (R36). A push that fails stores none of its bytes (DESIGN CHOICE, assumption 91). -/
def enter (s : State) (c : CoreId) (t : Trap) : State :=
  let t := { t with pc := entryPc (s.core c) t.pc }
  let s := unwind s c
  let s := match t.seq with
    | some n => s.setFld (FLT_MCSEQ c) fldFLT_MCSEQ_SEQ n
    | none => s
  if s.test (CORE_STATUS c) fldCORE_STATUS_RSV then stopCore (s.modCore c fun k => { k with pc := t.pc }) c 2 t.vector 1
  else
    let rsp := (s.reg (CORE_RSP c)).toNat
    let a := (rsp + 2 ^ 64 - 256) % 2 ^ 64
    let body := frameBody s c t
    let cause := causeWord s c t
    let frame := sealBytes s c body ++ body
    if rsp % 64 ≠ 0 ∨ (spanRegion s a 256).isNone then
      let s := storeSpan s c (defHint s c) (coreLocal c 0x800) frame
      let s := s.setBit (CORE_STATUS c) fldCORE_STATUS_RSV true
      let s := s.setReg (CORE_CAUSE c) (fldCORE_CAUSE_VECTOR.set 2 cause)
      let s := s.setReg (CORE_FADDR c) (BitVec.ofNat 64 a)
      enterHandler s c 2
    else
      let s := storeSpan s c (defHint s c) a frame
      let s := s.setReg (CORE_RSP c) (BitVec.ofNat 64 a)
      let s := s.setReg (CORE_CAUSE c) cause
      let s := s.setReg (CORE_FADDR c) (BitVec.ofNat 64 t.faddr)
      enterHandler s c t.vector

/-- A MACHINE_CHECK that no instruction of the core has found, taken at the boundary it has reached (R47, Table 2.4). -/
def machineCheck (s : State) (c : CoreId) (m : Option Nat × Nat) : State :=
  let pc := entryPc (s.core c) (s.core c).pc
  enter (s.modCore c fun k => { k with mcDue := k.mcDue.drop 1 }) c
    { vector := 1, faddr := m.1.getD pc.toNat, word := 0, pc := pc, seq := some m.2 }

/-! ### What an instruction's meaning answers -/

/-- How an instruction ends: it completes at the next instruction, it completes at another address, it leaves the core waiting
or stopped, it raises an exception, or it cannot issue or complete yet and nothing has changed. -/
inductive IRes where
  | done (s : State)
  | jump (s : State) (pc : Word)
  | halt (s : State)
  | trap (s : State) (vector faddr : Nat) (seq : Option Nat) (pc : Word)
  | wait

/-- An exception of the instruction at the PC, its word to be filled in by the caller. -/
def trapAt (s : State) (c : CoreId) (vector faddr : Nat) : IRes := .trap s vector faddr none (s.core c).pc

/-- ILLEGAL (R28). -/
def illegal (s : State) (c : CoreId) : IRes := trapAt s c 4 0

/-- What an instruction needs before it can issue: tile instructions that it may not run ahead of, and vector state that must have
settled (R103, R126). -/
inductive Need where
  /-- Integer, branch and scalar floating instructions. -/
  | scalar
  /-- Scalar loads and stores. -/
  | memory
  /-- Instructions that begin only once every earlier one has retired. -/
  | retired
  /-- TMMA, TMMA4, TLD. -/
  | tile
  /-- Vector and update instructions. -/
  | vector
  deriving DecidableEq, Repr

/-- Whether a core can issue at all: its clock runs, it is neither stopped nor waiting. -/
def canRun (s : State) (c : CoreId) : Bool :=
  !isStopped s c && (s.core c).wait == .running && !inHold s c && decide (s.fld (PWR_CORE c) fldPWR_CORE_STATE < 3) &&
    !s.pwr.thermtrip && !s.modu.poresetLow

/-- Whether an unretired vector instruction lets nothing issue after it (R126). -/
def vecBlocks (k : CoreSt) : Bool := k.vecQ.any VecOp.block

/-- Whether an instruction may issue beside the unretired ones (R103, R126). A tile instruction waits for every vector instruction before
it, though it need not where it does not depend on one: overlap changes no result (R102; DESIGN CHOICE, assumption 93). -/
def mayIssue (s : State) (c : CoreId) (n : Need) : Bool :=
  let k := s.core c
  let room := !k.tileQ.any fun op => decide (16 ≤ op.after)
  let step := s.test (CORE_STATUS c) fldCORE_STATUS_STEP
  if k.tileQ.isEmpty then
    match n with
    | .vector => decide (k.vecQ.length < 8) && !vecBlocks k
    | .scalar => !vecBlocks k
    | .memory => !vecBlocks k
    | .retired => k.vecQ.isEmpty
    | .tile => k.vecQ.isEmpty
  else
    !step && room &&
      match n with
      | .scalar => true
      | .tile => k.vecQ.isEmpty
      | _ => false

/-- Whether the instruction at the PC can be fetched (R452). -/
def fetchable (s : State) (a : Nat) : Bool :=
  match regionOf s a with
  | some r => r.plain
  | none => false

/-! ### Issue -/

/-- An instruction has gone past the unretired tile instructions. -/
def passTiles (s : State) (c : CoreId) : State :=
  if (s.core c).tileQ.isEmpty then s
  else s.modCore c fun k => { k with tileQ := k.tileQ.map fun op => { op with after := op.after + 1 } }

/-- The PC of a core set. -/
def setPc (s : State) (c : CoreId) (pc : Word) : State := s.modCore c fun k => { k with pc := pc }

/-- An instruction has completed at a PC: STEP follows where it was set as the instruction began, once no tile instruction is
unretired (Table 2.4). -/
def complete (step : Bool) (w : IWord) (c : CoreId) (pc : Word) (s : State) : State :=
  let s := setPc s c pc
  if step ∧ (s.core c).tileQ.isEmpty then
    enter (retireAll s c) c { vector := 14, faddr := 0, word := w.toNat, pc := pc, seq := none }
  else s

/-- What an instruction's meaning has answered, carried out. `s` is the state at the boundary. An exception waits until the
instruction is the oldest unretired one (R43, R104). -/
def finish (s : State) (c : CoreId) (w : IWord) (r : IRes) : State :=
  let step := s.test (CORE_STATUS c) fldCORE_STATUS_STEP
  match r with
  | .done t => complete step w c ((s.core c).pc + 4) t
  | .jump t pc => complete step w c pc t
  | .halt t => if step ∧ (t.core c).wait ≠ .running then t.modCore c fun k => { k with stepDue := some w.toNat } else t
  | .trap t v a seq pc =>
    if (s.core c).tileQ.isEmpty && (s.core c).vecQ.isEmpty then enter t c { vector := v, faddr := a, word := w.toNat, pc := pc, seq := seq } else s
  | .wait => s

/-- The STEP of a WFI or BWAIT that began with STEP set and has ended, taken at the boundary after it. -/
def stepNow (s : State) (c : CoreId) (w : Nat) : State :=
  enter (retireAll s c) c { vector := 14, faddr := 0, word := w, pc := (s.core c).pc, seq := none }

/-- An instruction of a core: where it cannot issue nothing happens; what is due at the boundary is taken before it; an instruction that cannot be fetched, or that Task level may not
execute, raises its exception; otherwise it has its effect. An instruction that would have an entry of the merging buffer performed
before an earlier vector instruction has retired waits for that (R43). -/
def runInstr (c : CoreId) (w : IWord) (ranger : Bool) (n : Need) (body : State → IRes) (s : State) : Outcome State Fault Refusal :=
  if canRun s c ∧ mayIssue s c n then
    let t := boundaryApply s c
    let pc := (t.core c).pc
    match (t.core c).mcDue, (t.core c).stepDue with
    | m :: _, _ => next s (machineCheck t c m)
    | [], some n => next s (stepNow t c n)
    | [], none =>
      let r := finish t c w
        (if fetchable t pc.toNat = false then .trap t 5 pc.toNat none pc
         else if ranger ∧ t.fld (CORE_STATUS c) fldCORE_STATUS_LEVEL = 0 then illegal t c
         else body (passTiles t c))
      next s (if !(t.core c).vecQ.isEmpty && (r.core c).spilled then t else r)
  else next s s

end Sys2Proof.Machine
end

