-- ==== Sys2Proof/Machine/Scalar.lean ====
section
/-! DEFINITION. The integer instructions, loads, stores, branches and jumps (R22 to R24, R27, R28, R449, R450). -/
namespace Sys2Proof.Machine
open Host

/-! ### Operands -/

/-- A 16-bit immediate, sign-extended (R27). -/
def sext16 (i : BitVec 16) : Word := i.signExtend 64

/-- A branch target: the offset counts instruction words from the branch itself (R27). -/
def target (pc : Word) (off : Int) : Word := pc + BitVec.ofInt 64 (4 * off)

/-- An instruction whose whole effect is one integer register. -/
def writeX (c : CoreId) (rd : BitVec 5) (s : State) (v : Word) : IRes := .done (s.modCore c fun k => k.setX rd v)

/-! ### Register operations -/

/-- An integer operation of two registers. -/
def aluReg (c : CoreId) (fn : Nat) (o : OpR) (f : Word → Word → Word) (s : State) : Outcome State Fault Refusal :=
  runInstr c (encR 0x00 fn o) false .scalar (fun s => writeX c o.rd s (f ((s.core c).getX o.rs1) ((s.core c).getX o.rs2))) s

/-- An integer operation of a register and an immediate. -/
def aluImm (c : CoreId) (op : Nat) (o : OpI) (f : Word → Word → Word) (s : State) : Outcome State Fault Refusal :=
  runInstr c (encI op o) false .scalar (fun s => writeX c o.rd s (f ((s.core c).getX o.rs1) (sext16 o.imm))) s

/-- A shift by an immediate (R450). -/
def aluShift (c : CoreId) (k : Nat) (o : OpSh) (f : Word → Nat → Word) (s : State) : Outcome State Fault Refusal :=
  runInstr c (encSh k o) false .scalar (fun s =>
    if o.hi ≠ 0 then illegal s c else writeX c o.rd s (f ((s.core c).getX o.rs1) o.sh.toNat)) s

/-- A truth value as a register holds it. -/
def boolWord (b : Bool) : Word := if b then 1 else 0

/-- The shift amount in a register: bits [5:0]. -/
def shamt (w : Word) : Nat := w.toNat % 64

/-- The high 64 bits of the signed product. -/
def mulHigh (a b : Word) : Word := BitVec.ofInt 64 (a.toInt * b.toInt / 2 ^ 64)
/-- The high 64 bits of the unsigned product. -/
def mulHighU (a b : Word) : Word := BitVec.ofNat 64 (a.toNat * b.toNat / 2 ^ 64)

/-- Signed division, toward zero; by zero all ones (R23). -/
def divS (a b : Word) : Word := if b = 0 then BitVec.allOnes 64 else BitVec.ofInt 64 (Int.tdiv a.toInt b.toInt)
/-- Unsigned division; by zero all ones. -/
def divU (a b : Word) : Word := if b = 0 then BitVec.allOnes 64 else BitVec.ofNat 64 (a.toNat / b.toNat)
/-- Signed remainder, of the dividend's sign; by zero the dividend. -/
def remS (a b : Word) : Word := if b = 0 then a else BitVec.ofInt 64 (Int.tmod a.toInt b.toInt)
/-- Unsigned remainder; by zero the dividend. -/
def remU (a b : Word) : Word := if b = 0 then a else BitVec.ofNat 64 (a.toNat % b.toNat)

/-- ADD. -/
def execAdd (c : CoreId) (o : OpR) (s : State) : Outcome State Fault Refusal := aluReg c 0x00 o (fun a b => a + b) s
/-- SUB. -/
def execSub (c : CoreId) (o : OpR) (s : State) : Outcome State Fault Refusal := aluReg c 0x01 o (fun a b => a - b) s
/-- AND. -/
def execAnd (c : CoreId) (o : OpR) (s : State) : Outcome State Fault Refusal := aluReg c 0x02 o (fun a b => a &&& b) s
/-- OR. -/
def execOr (c : CoreId) (o : OpR) (s : State) : Outcome State Fault Refusal := aluReg c 0x03 o (fun a b => a ||| b) s
/-- XOR. -/
def execXor (c : CoreId) (o : OpR) (s : State) : Outcome State Fault Refusal := aluReg c 0x04 o (fun a b => a ^^^ b) s
/-- SLL. -/
def execSll (c : CoreId) (o : OpR) (s : State) : Outcome State Fault Refusal := aluReg c 0x05 o (fun a b => a <<< shamt b) s
/-- SRL. -/
def execSrl (c : CoreId) (o : OpR) (s : State) : Outcome State Fault Refusal := aluReg c 0x06 o (fun a b => a >>> shamt b) s
/-- SRA. -/
def execSra (c : CoreId) (o : OpR) (s : State) : Outcome State Fault Refusal := aluReg c 0x07 o (fun a b => a.sshiftRight (shamt b)) s
/-- SLT. -/
def execSlt (c : CoreId) (o : OpR) (s : State) : Outcome State Fault Refusal := aluReg c 0x08 o (fun a b => boolWord (a.slt b)) s
/-- SLTU. -/
def execSltu (c : CoreId) (o : OpR) (s : State) : Outcome State Fault Refusal := aluReg c 0x09 o (fun a b => boolWord (a.ult b)) s
/-- MUL. -/
def execMul (c : CoreId) (o : OpR) (s : State) : Outcome State Fault Refusal := aluReg c 0x0A o (fun a b => a * b) s
/-- MULH. -/
def execMulh (c : CoreId) (o : OpR) (s : State) : Outcome State Fault Refusal := aluReg c 0x0B o mulHigh s
/-- MULHU. -/
def execMulhu (c : CoreId) (o : OpR) (s : State) : Outcome State Fault Refusal := aluReg c 0x0C o mulHighU s
/-- DIV. -/
def execDiv (c : CoreId) (o : OpR) (s : State) : Outcome State Fault Refusal := aluReg c 0x0D o divS s
/-- DIVU. -/
def execDivu (c : CoreId) (o : OpR) (s : State) : Outcome State Fault Refusal := aluReg c 0x0E o divU s
/-- REM. -/
def execRem (c : CoreId) (o : OpR) (s : State) : Outcome State Fault Refusal := aluReg c 0x0F o remS s
/-- REMU. -/
def execRemu (c : CoreId) (o : OpR) (s : State) : Outcome State Fault Refusal := aluReg c 0x10 o remU s

/-- ADDI. -/
def execAddi (c : CoreId) (o : OpI) (s : State) : Outcome State Fault Refusal := aluImm c 0x01 o (fun a b => a + b) s
/-- ANDI. -/
def execAndi (c : CoreId) (o : OpI) (s : State) : Outcome State Fault Refusal := aluImm c 0x02 o (fun a b => a &&& b) s
/-- ORI. -/
def execOri (c : CoreId) (o : OpI) (s : State) : Outcome State Fault Refusal := aluImm c 0x03 o (fun a b => a ||| b) s
/-- XORI. -/
def execXori (c : CoreId) (o : OpI) (s : State) : Outcome State Fault Refusal := aluImm c 0x04 o (fun a b => a ^^^ b) s
/-- SLTI. -/
def execSlti (c : CoreId) (o : OpI) (s : State) : Outcome State Fault Refusal := aluImm c 0x05 o (fun a b => boolWord (a.slt b)) s
/-- SLLI. -/
def execSlli (c : CoreId) (o : OpSh) (s : State) : Outcome State Fault Refusal := aluShift c 0 o (fun a n => a <<< n) s
/-- SRLI. -/
def execSrli (c : CoreId) (o : OpSh) (s : State) : Outcome State Fault Refusal := aluShift c 1 o (fun a n => a >>> n) s
/-- SRAI. -/
def execSrai (c : CoreId) (o : OpSh) (s : State) : Outcome State Fault Refusal := aluShift c 2 o (fun a n => a.sshiftRight n) s
/-- LUI: the immediate in bits [31:16], sign-extended; rs1 is unused. -/
def execLui (c : CoreId) (o : OpI) (s : State) : Outcome State Fault Refusal :=
  runInstr c (encI 0x07 o) false .scalar (fun s =>
    if o.rs1 ≠ 0 then illegal s c else writeX c o.rd s (sext16 o.imm <<< 16)) s

/-! ### Loads and stores (R24, R184) -/

/-- What a scalar access of a core to an aligned address meets. -/
inductive MRes where
  | ok (s : State) (bs : List Byte)
  | stop (r : IRes)

/-- Whether a core's read of a register waits for an unretired vector instruction: one outside its own block may have an effect, which
could not be undone (R43, R133). -/
def regsWait (s : State) (c : CoreId) (a : Nat) : Bool :=
  !(s.core c).vecQ.isEmpty && !(decide (CORE_ID c ≤ a) && decide (a < CORE_ID c + 0x10000))

/-- A scalar load of `n` bytes (R3, R4, R24, R52, R185): from memory, or 64 bits of a register region after the core's stores. -/
def loadBytes (s : State) (c : CoreId) (a n : Nat) : MRes :=
  if a % n ≠ 0 then .stop (trapAt s c 9 a)
  else
    let b := unalias c.val a
    match regionOf s b with
    | none => .stop (trapAt s c 7 a)
    | some r =>
      if r.plain then
        match coreLoad s c (defHint s c) b n with
        | (t, .ok bs) => .ok t bs
        | (t, .addr e) => .stop (trapAt t c 7 e)
        | (t, .poison e seq) => .stop (.trap t 1 e (some seq) (s.core c).pc)
        | (_, .wait) => .stop .wait
      else if n ≠ 8 then .stop (trapAt s c 7 a)
      else if regsWait s c b then .stop .wait
      else if storesWait (drainMerge s c) c then .stop (.halt (drainMerge s c))
      else
        match regionRead (drainMerge s c) b with
        | some (w, t) => .ok t (bytesOfNat 8 w.toNat)
        | none => .stop (trapAt s c 7 a)

/-- A scalar store (R3, R4, R24, R184). -/
def storeBytes (s : State) (c : CoreId) (a : Nat) (bs : List Byte) : IRes :=
  let n := bs.length
  if a % n ≠ 0 then trapAt s c 9 a
  else
    let b := unalias c.val a
    match regionOf s b with
    | none => trapAt s c 8 a
    | some r =>
      if r.plain then .done (coreStore s c (defHint s c) b bs)
      else if n ≠ 8 then trapAt s c 8 a
      else if (s.core c).vecQ.isEmpty = false ∨ postWaits s b then .wait
      else if storesWait (drainMerge s c) c then .halt (drainMerge s c)
      else
        match regionWrite (drainMerge s c) c.val b (BitVec.ofNat 64 (natOfBytes bs)) with
        | some t => .done t
        | none => trapAt s c 8 a

/-- A load instruction into an integer register; `ext` widens the bytes read. -/
def loadX (c : CoreId) (op n : Nat) (o : OpI) (ext : Nat → Word) (s : State) : Outcome State Fault Refusal :=
  runInstr c (encI op o) false .memory (fun s =>
    match loadBytes s c ((s.core c).getX o.rs1 + sext16 o.imm).toNat n with
    | .ok t bs => writeX c o.rd t (ext (natOfBytes bs))
    | .stop r => r) s

/-- A store instruction from an integer register. -/
def storeX (c : CoreId) (op n : Nat) (o : OpS) (s : State) : Outcome State Fault Refusal :=
  runInstr c (encS op o) false .memory (fun s =>
    storeBytes s c ((s.core c).getX o.rs1 + sext16 o.imm).toNat (bytesOfNat n ((s.core c).getX o.rs2).toNat)) s

/-- The low `n` bits of a number, sign-extended. -/
def sextN (n v : Nat) : Word := BitVec.ofInt 64 (signedOf n v)

/-- LB. -/
def execLb (c : CoreId) (o : OpI) (s : State) : Outcome State Fault Refusal := loadX c 0x08 1 o (sextN 8) s
/-- LH. -/
def execLh (c : CoreId) (o : OpI) (s : State) : Outcome State Fault Refusal := loadX c 0x09 2 o (sextN 16) s
/-- LW. -/
def execLw (c : CoreId) (o : OpI) (s : State) : Outcome State Fault Refusal := loadX c 0x0A 4 o (sextN 32) s
/-- LD. -/
def execLd (c : CoreId) (o : OpI) (s : State) : Outcome State Fault Refusal := loadX c 0x0B 8 o (BitVec.ofNat 64) s
/-- LBU. -/
def execLbu (c : CoreId) (o : OpI) (s : State) : Outcome State Fault Refusal := loadX c 0x0C 1 o (BitVec.ofNat 64) s
/-- LHU. -/
def execLhu (c : CoreId) (o : OpI) (s : State) : Outcome State Fault Refusal := loadX c 0x0D 2 o (BitVec.ofNat 64) s
/-- LWU. -/
def execLwu (c : CoreId) (o : OpI) (s : State) : Outcome State Fault Refusal := loadX c 0x0E 4 o (BitVec.ofNat 64) s
/-- SB. -/
def execSb (c : CoreId) (o : OpS) (s : State) : Outcome State Fault Refusal := storeX c 0x10 1 o s
/-- SH. -/
def execSh (c : CoreId) (o : OpS) (s : State) : Outcome State Fault Refusal := storeX c 0x11 2 o s
/-- SW. -/
def execSw (c : CoreId) (o : OpS) (s : State) : Outcome State Fault Refusal := storeX c 0x12 4 o s
/-- SD. -/
def execSd (c : CoreId) (o : OpS) (s : State) : Outcome State Fault Refusal := storeX c 0x13 8 o s

/-! ### Branches and jumps -/

/-- A conditional branch. -/
def branch (c : CoreId) (op : Nat) (o : OpB) (p : Word → Word → Bool) (s : State) : Outcome State Fault Refusal :=
  runInstr c (encB op o) false .scalar (fun s =>
    if p ((s.core c).getX o.rs1) ((s.core c).getX o.rs2) then .jump s (target (s.core c).pc o.off.toInt) else .done s) s

/-- BEQ. -/
def execBeq (c : CoreId) (o : OpB) (s : State) : Outcome State Fault Refusal := branch c 0x14 o (fun a b => a == b) s
/-- BNE. -/
def execBne (c : CoreId) (o : OpB) (s : State) : Outcome State Fault Refusal := branch c 0x15 o (fun a b => a != b) s
/-- BLT. -/
def execBlt (c : CoreId) (o : OpB) (s : State) : Outcome State Fault Refusal := branch c 0x16 o (fun a b => a.slt b) s
/-- BGE. -/
def execBge (c : CoreId) (o : OpB) (s : State) : Outcome State Fault Refusal := branch c 0x17 o (fun a b => !a.slt b) s
/-- BLTU. -/
def execBltu (c : CoreId) (o : OpB) (s : State) : Outcome State Fault Refusal := branch c 0x18 o (fun a b => a.ult b) s
/-- BGEU. -/
def execBgeu (c : CoreId) (o : OpB) (s : State) : Outcome State Fault Refusal := branch c 0x19 o (fun a b => !a.ult b) s

/-- JAL. -/
def execJal (c : CoreId) (o : OpJ) (s : State) : Outcome State Fault Refusal :=
  runInstr c (encJ 0x1A o) false .scalar (fun s =>
    let pc := (s.core c).pc
    .jump (s.modCore c fun k => k.setX o.rd (pc + 4)) (target pc o.off.toInt)) s

/-- JALR: rs1 is read before rd is written; a misaligned target raises FETCH_ALIGN. -/
def execJalr (c : CoreId) (o : OpI) (s : State) : Outcome State Fault Refusal :=
  runInstr c (encI 0x1B o) false .scalar (fun s =>
    let pc := (s.core c).pc
    let t := (s.core c).getX o.rs1 + sext16 o.imm
    if t.toNat % 4 ≠ 0 then trapAt s c 6 t.toNat else .jump (s.modCore c fun k => k.setX o.rd (pc + 4)) t) s

end Sys2Proof.Machine
end

