-- ==== Sys2Proof/Machine/Atomic.lean ====
section
/-! DEFINITION. Fences and atomics (R185 to R187, R213, R214, R282). -/
namespace Sys2Proof.Machine
open Host

/-! ### Atomics at their point of performance (R187) -/

/-- A line is written back and invalidated in its home slice and the caches below it. -/
def l2Flush (s : State) (line : Nat) : State :=
  setSlice (writeBack (dropCopies s line) line) (homeSlice s line) fun sl =>
    { sl with lines := sl.lines.filter fun e => e.line != line }

/-- How an atomic ends: performed or refused, with the old value read; an access that cannot be performed; a wait before its read; or a
write that waits for a pool granule. -/
inductive AmoRes where
  | ok (old : Nat)
  | refused (old : Nat) (ringed : Bool)
  | addr (a : Nat)
  | poison (a seq : Nat)
  | wait
  | pool (old a : Nat) (bs : List Byte)

/-- One atomic of `n` bytes at an address as one indivisible access, behind the waiting writes to any of them (R275): `f` gives the new
value, none where nothing is written. `m` is the master that issues it, whose beat at a bank is counted as it reads, and not again for no
master, 79, as it writes; `slot` is the ring its write belongs to. -/
def atomicAt (s : State) (m sub : Nat) (slot : WSlot) (a n : Nat) (f : Nat → Option Nat) : State × AmoRes :=
  match spanRegion s a n with
  | none => (s, .addr a)
  | some r =>
    if readWaits s a n ∨ behindWait s a n then (s, .wait)
    else
    let s := if r = .stack ∧ kindAt s a = 0 ∧ inPool s (granule a) = false then l2Flush s (lineOf a) else s
    match memRead s m sub a n with
    | (_, .wait) => (s, .wait)
    | (s, .addr e) => (s, .addr e)
    | (s, .poison e seq) => (s, .poison e seq)
    | (s, .ok bs) =>
      let old := natOfBytes bs
      match f old with
      | none => (s, .ok old)
      | some v =>
        match memWrite s { m := 79, sub := sub, hint := 0, slot := slot } a (bytesOfNat n v) with
        | (s, .ok) => (s, .ok old)
        | (s, .refused _) => (s, .refused old true)
        | (s, .pool _) => (s, .refused old false)
        | (s, .addr e) => (s, .addr e)
        | (s, .wait e rest) => (s, .pool old e rest)

/-! ### Local atomics (Table 7.4) -/

/-- A core's atomic: aligned, in memory; with RL = 1 after every earlier store, else after its own earlier stores to the line. One whose
write waits for a pool granule leaves the core waiting until it is performed or refused (R214). -/
def amo (c : CoreId) (op : Nat) (o : OpAmo) (f : Nat → Nat → Nat → Nat → Option Nat) (s : State) : Outcome State Fault Refusal :=
  runInstr c (encAmo op o) false .retired (fun s =>
    let k := s.core c
    let a := (k.getX o.rs1).toNat
    let n := if o.d then 8 else 4
    if a % n ≠ 0 then trapAt s c 9 a
    else
      let s := if o.rl then drainMerge s c
        else match k.mbuf.findIdx? fun e => e.line == lineOf a with
          | some i => performAt s c i
          | none => s
      let w := 8 * n
      if o.rl ∧ storesWait s c then .halt s
      else match atomicAt s c (coreSub s c) (runSlot s) a n
          (fun old => f w old ((k.getX o.rs2).toNat % 2 ^ w) ((k.getX o.rd).toNat % 2 ^ w)) with
      | (t, .ok old) => writeX c o.rd t (sextN w old)
      | (t, .refused old ringed) => writeX c o.rd (if ringed then logRinged t c.val a n else t) (sextN w old)
      | (_, .addr _) => trapAt s c 8 a
      | (t, .poison e seq) => .trap t 1 e (some seq) k.pc
      | (t, .wait) => .halt t
      | (t, .pool old e rest) =>
        let v : Wr := { m := 64, sub := coreSub t c, hint := 0, slot := runSlot t }
        .halt ((addWait t v e rest (.atom c o.rd.toNat (sextN w old))).modCore c fun k => { k with wait := .atom })) s

/-- AMOADD. -/
def execAmoadd (c : CoreId) (o : OpAmo) (s : State) : Outcome State Fault Refusal :=
  amo c 0x0 o (fun w old x _ => some ((old + x) % 2 ^ w)) s
/-- AMOSWAP. -/
def execAmoswap (c : CoreId) (o : OpAmo) (s : State) : Outcome State Fault Refusal := amo c 0x1 o (fun _ _ x _ => some x) s
/-- AMOAND. -/
def execAmoand (c : CoreId) (o : OpAmo) (s : State) : Outcome State Fault Refusal := amo c 0x2 o (fun _ old x _ => some (old &&& x)) s
/-- AMOOR. -/
def execAmoor (c : CoreId) (o : OpAmo) (s : State) : Outcome State Fault Refusal := amo c 0x3 o (fun _ old x _ => some (old ||| x)) s
/-- AMOXOR. -/
def execAmoxor (c : CoreId) (o : OpAmo) (s : State) : Outcome State Fault Refusal := amo c 0x4 o (fun _ old x _ => some (old ^^^ x)) s
/-- AMOMAX. -/
def execAmomax (c : CoreId) (o : OpAmo) (s : State) : Outcome State Fault Refusal :=
  amo c 0x5 o (fun w old x _ => some (if signedOf w old < signedOf w x then x else old)) s
/-- AMOMIN. -/
def execAmomin (c : CoreId) (o : OpAmo) (s : State) : Outcome State Fault Refusal :=
  amo c 0x6 o (fun w old x _ => some (if signedOf w x < signedOf w old then x else old)) s
/-- AMOMAXU. -/
def execAmomaxu (c : CoreId) (o : OpAmo) (s : State) : Outcome State Fault Refusal := amo c 0x7 o (fun _ old x _ => some (max old x)) s
/-- AMOMINU. -/
def execAmominu (c : CoreId) (o : OpAmo) (s : State) : Outcome State Fault Refusal := amo c 0x8 o (fun _ old x _ => some (min old x)) s
/-- AMOCAS: writes only where the old value equals rd's. -/
def execAmocas (c : CoreId) (o : OpAmo) (s : State) : Outcome State Fault Refusal :=
  amo c 0x9 o (fun _ old x d => if old = d then some x else none) s

/-! ### Fences -/

/-- FENCE: with writes before it, it completes once the merging buffer is empty and every earlier write has been performed. -/
def execFence (c : CoreId) (o : OpFence) (s : State) : Outcome State Fault Refusal :=
  runInstr c (encFence o) false .retired (fun s =>
    if o.rd ≠ 0 ∨ o.rs1 ≠ 0 ∨ o.rs2 ≠ 0 ∨ o.pp = 0 ∨ o.ss = 0 then illegal s c
    else if o.pp.getLsbD 0 then
      let t := drainMerge s c
      if storesWait t c then .halt t else .done t
    else .done s) s

/-- FENCE.G: waits until every remote operation of the core has completed. -/
def execFenceG (c : CoreId) (o : OpR) (s : State) : Outcome State Fault Refusal :=
  runInstr c (encR 0x21 0x010 o) false .retired (fun s =>
    if o.rd ≠ 0 ∨ o.rs1 ≠ 0 ∨ o.rs2 ≠ 0 then illegal s c
    else if remoteOut s c ≠ 0 ∨ storesWait s c then .wait
    else .done s) s

end Sys2Proof.Machine
end

