-- ==== Sys2Proof/Machine/Legal.lean ====
section
/-! DEFINITION. Which instruction words are illegal encodings, by the word alone (R28, R46): reserved opcodes and function codes,
reserved values of a field, and unused fields that are not 0. -/
namespace Sys2Proof.Machine

/-- The register fields of format A: bits [25:21], [20:16] and [15:11]. -/
def wordRegs (n : Nat) : Nat × Nat × Nat := (bitsOf n 25 21, bitsOf n 20 16, bitsOf n 15 11)

/-- Opcode 0x1C (R451): OP is fn[10:6], P is fn[5]. -/
def fpWordBad (n : Nat) : Bool :=
  let op := bitsOf n 10 6
  let (_, rs1, rs2) := wordRegs n
  bitsOf n 4 0 != 0 || (decide (17 < op) && decide (op < 30)) || ((op == 4 || decide (8 < op)) && rs2 != 0) ||
    (decide (29 < op) && bitOf n 5) || (op == 30 && rs1 != 0)

/-- Opcode 0x20 (Table 2.3). -/
def sysWordBad (n : Nat) : Bool :=
  let fn := n % 2048
  let (rd, rs1, rs2) := wordRegs n
  if fn = 1 ∨ fn = 2 then false
  else if fn = 3 then rs2 != 0
  else if fn = 4 ∨ fn = 0x10 ∨ fn = 0x14 then rd != 0 || rs1 != 0 || rs2 != 0
  else if fn = 0x11 ∨ fn = 0x12 ∨ fn = 0x13 then rd != 0 || rs2 != 0
  else true

/-- Opcode 0x21 (Table 7.3). -/
def memWordBad (n : Nat) : Bool :=
  let fn := n % 2048
  let (rd, rs1, rs2) := wordRegs n
  let regs := rd != 0 || rs1 != 0 || rs2 != 0
  if fn / 16 = 0 then regs || bitsOf n 3 2 == 0 || bitsOf n 1 0 == 0
  else if fn = 0x10 then regs
  else fn / 256 != 1 || decide (9 < bitsOf n 7 4) || bitOf n 0

/-- Opcodes 0x22 and 0x23 (Tables 12.7 to 12.9). -/
def remWordBad (n : Nat) : Bool :=
  let op := bitsOf n 10 7
  let arg := bitsOf n 4 2
  let (ra, _, rs2) := wordRegs n
  let dz := bitsOf n 1 0 != 0
  if op = 0 then dz || decide (3 < arg)
  else if op = 1 then dz || decide (3 < arg) || rs2 != 0
  else if op = 2 then bitOf n 0 || (bitOf n 1 && (arg == 1 || arg == 4 || arg == 5))
  else if op = 3 ∨ op = 4 then dz || arg != 0 || ra != 0
  else if op = 5 then dz || arg != 0 || rs2 != 0
  else true

/-- Opcode 0x30 (Table 5.2). -/
def vmemWordBad (n : Nat) : Bool :=
  let fn := n % 8
  decide (5 < fn) || bitsOf n 6 5 == 3 || bitsOf n 4 3 == 3 || ((fn == 2 || fn == 4 || fn == 5) && bitsOf n 6 5 == 0)

/-- Opcodes 0x31 to 0x36 (Tables 5.1 and 5.3): W is bits [6:5], S bit 4, FN bits [3:0]. -/
def vecWordBad (op n : Nat) : Bool :=
  let fn := n % 16
  let w := bitsOf n 6 5
  let s := bitOf n 4
  let (vd, vs1, vs2) := wordRegs n
  let masked := bitOf n 10 || bitsOf n 9 7 != 0
  let two := vs2 != 0 || s
  w == 3 ||
    (if op = 0x31 then fn == 15
     else if op = 0x32 then (if fn < 4 ∨ fn = 5 ∨ fn = 6 then false else if fn < 13 then two else decide (7 < vd))
     else if op = 0x33 then decide (2 < fn)
     else if op = 0x34 then
       (if fn < 6 then two
        else if fn = 6 then false
        else if fn = 7 then w == 2 || vd == vs1 || vd == vs2
        else if fn = 8 then w != 0
        else true)
     else if op = 0x35 then
       (if fn = 0 then masked || two
        else if fn = 1 then two
        else if fn = 2 then vs1 != 0
        else if fn < 6 then decide (7 < vd)
        else if fn < 10 then masked || s || decide (7 < vd) || decide (7 < vs1) || decide (7 < vs2)
        else if fn < 12 then masked || two || decide (7 < vs1)
        else true)
     else
       (if fn < 3 then two || w == 0 || vd == vs1
        else if fn < 5 then two || w != 0
        else if fn < 7 then two || w == 0 || masked || vd == vs1
        else if fn = 7 then two || w == 0 || vs1 != 0
        else if fn = 8 then two || w != 0 || masked || vd != 0
        else true))

/-- Opcode 0x38 (Table 4.4). -/
def mmaWordBad (n : Nat) : Bool :=
  decide (4 < bitsOf n 23 21) || bitsOf n 1 0 != 0 ||
    (if bitOf n 25 then bitsOf n 7 5 != 0 || bitsOf n 9 8 != 0 else bitsOf n 15 11 != 0)

/-- Opcode 0x3A (Table 4.8): OP is bits [25:22]. -/
def tileWordBad (n : Nat) : Bool :=
  let op := bitsOf n 25 22
  if op = 0 then bitsOf n 18 0 != 0
  else if op = 1 then bitsOf n 13 0 != 0
  else if op = 2 ∨ op = 3 then bitsOf n 9 0 != 0
  else true

/-- Opcodes 0x3C to 0x3F (Table 5.6). -/
def updWordBad (op n : Nat) : Bool :=
  let (a, b, d) := wordRegs n
  let lo := bitsOf n 4 0
  let p5 := bitOf n 5
  if op = 0x3C then
    let top := if p5 then a + 2 else a + 1
    lo != 0 || decide (31 < top) || decide (31 < d + (if p5 then 5 else 2)) || (decide (a ≤ b) && decide (b ≤ top))
  else if op = 0x3D then bitsOf n 10 5 != 0 || lo != 0 || a == 31 || d == 31
  else if op = 0x3E then d != 0 || bitsOf n 6 5 != 0 || lo != 0
  else if bitOf n 6 then lo == 31 else d != 0 || lo != 0

/-- Whether a word is an illegal encoding. -/
def wordBad (n : Nat) : Bool :=
  let op := bitsOf n 31 26
  if op = 0 then decide (0x10 < n % 2048)
  else if op = 6 then bitsOf n 15 8 != 0 || bitsOf n 7 6 == 3
  else if op = 7 then bitsOf n 20 16 != 0
  else if op < 0x1C then op == 0x0F
  else if op = 0x1C then fpWordBad n
  else if op < 0x1F then false
  else if op = 0x1F then true
  else if op = 0x20 then sysWordBad n
  else if op = 0x21 then memWordBad n
  else if op = 0x22 then remWordBad n
  else if op = 0x23 then decide (1 < bitsOf n 10 7) || bitsOf n 4 0 != 0 || (bitsOf n 10 7 == 0 && bitsOf n 25 21 != 0)
  else if op < 0x30 then true
  else if op = 0x30 then vmemWordBad n
  else if op < 0x37 then vecWordBad op n
  else if op = 0x37 then true
  else if op = 0x38 then mmaWordBad n
  else if op = 0x39 then bitsOf n 6 0 != 0
  else if op = 0x3A then tileWordBad n
  else if op = 0x3B then true
  else updWordBad op n

/-- Whether a word is an instruction that only Ranger level may execute: fn 0x010 to 0x014 of opcode 0x20 (Table 2.3). -/
def wordRanger (n : Nat) : Bool := bitsOf n 31 26 == 0x20 && decide (0x10 ≤ n % 2048) && decide (n % 2048 ≤ 0x14)

end Sys2Proof.Machine
end

