-- ==== Sys2Proof/Machine/System.lean ====
section
/-! DEFINITION. The system instructions (Table 2.3) and what comes to a core from outside its program (R38 to R42, R46, R48, R55, R122,
R125, R144, R452). -/
namespace Sys2Proof.Machine
open Host

/-! ### System instructions -/

/-- LCALL: the saved PC is the next instruction. -/
def execLcall (c : CoreId) (o : OpCode) (s : State) : Outcome State Fault Refusal :=
  runInstr c (encCode 0x001 o) false .retired (fun s => .trap s 12 0 none ((s.core c).pc + 4)) s

/-- BRK. -/
def execBrk (c : CoreId) (o : OpCode) (s : State) : Outcome State Fault Refusal :=
  runInstr c (encCode 0x002 o) false .retired (fun s => trapAt s c 13 0) s

/-- A request for a quiet window (R48): the length granted. -/
def quietRequest (s : State) (c : CoreId) (n : Nat) : State × Nat :=
  let now := (s.reg (CORE_CYCLE c)).toNat
  if n = 0 then (if qwOpen s c then s.modCore c fun k => { k with qwEnd := some (s.reg (CORE_CYCLE c)) } else s, 0)
  else
    let refused := match (s.core c).qwEnd with
      | some e => decide (now < e.toNat + 256)
      | none => false
    if refused then (count s (CORE_QREFUSE c) 1, 0)
    else
      let s := if 4096 < n then s.setBit (CORE_QWIN c) fldCORE_QWIN_CLAMP true else s
      let g := min n 4096
      (s.modCore c fun k => { k with qwEnd := some (BitVec.ofNat 64 (now + g)) }, g)

/-- QWIN. -/
def execQwin (c : CoreId) (o : OpR) (s : State) : Outcome State Fault Refusal :=
  runInstr c (encR 0x20 0x003 o) false .retired (fun s =>
    if o.rs2 ≠ 0 then illegal s c
    else
      let r := quietRequest s c ((s.core c).getX o.rs1).toNat
      writeX c o.rd r.1 (BitVec.ofNat 64 r.2)) s

/-- Whether a format A instruction leaves all three register fields 0. -/
def noRegs (o : OpR) : Bool := o.rd == 0 && o.rs1 == 0 && o.rs2 == 0

/-- WFI: the core waits unless an enabled interrupt is pending. -/
def execWfi (c : CoreId) (o : OpR) (s : State) : Outcome State Fault Refusal :=
  runInstr c (encR 0x20 0x004 o) false .retired (fun s =>
    if noRegs o = false then illegal s c
    else if enabledPending s c ≠ 0 then .done s
    else .halt (s.modCore c fun k => { k with wait := .wfi })) s

/-- A core's read of bytes as a run of loads of 64 bytes. -/
def loadRun (s : State) (c : CoreId) (a : Nat) : Nat → MRes
  | 0 => .ok s []
  | n + 1 =>
    match coreLoad s c (defHint s c) a 64 with
    | (t, .ok bs) =>
      match loadRun t c (a + 64) n with
      | .ok t rest => .ok t (bs ++ rest)
      | r => r
    | (t, .addr e) => .stop (trapAt t c 7 e)
    | (t, .poison e seq) => .stop (.trap t 1 e (some seq) (s.core c).pc)
    | (_, .wait) => .stop .wait

/-- The 64-bit slot of a frame. -/
def slot (f : List Byte) (i : Nat) : Word := BitVec.ofNat 64 (natOfBytes ((f.drop (8 * i)).take 8))

/-- What a verified frame restores (R38). -/
def restoreFrame (s : State) (c : CoreId) (f : List Byte) : State :=
  let img := slot f 2
  let s := s.setFld (CORE_STATUS c) fldCORE_STATUS_LEVEL (fldCORE_STATUS_LEVEL.get img)
  let s := s.setBit (CORE_STATUS c) fldCORE_STATUS_IE (fldCORE_STATUS_IE.test img)
  let s := s.setBit (CORE_STATUS c) fldCORE_STATUS_STEP (fldCORE_STATUS_STEP.test img)
  let s := s.setFld (VEC_VPROG c) fldVEC_VPROG_DONE (slot f 5).toNat
  let s := s.setFld (VEC_VL c) fldVEC_VL_VL (slot f 6).toNat
  let s := s.setReg (CORE_FSTAT c) (slot f 7 &&& 0x7F)
  let s := s.modCore c fun k => (upFrom 1 15).foldl (fun k i => k.setX (BitVec.ofNat 5 i) (slot f (15 + i))) k
  if s.test (CORE_STATUS c) fldCORE_STATUS_RSV then s.setBit (CORE_STATUS c) fldCORE_STATUS_RSV false
  else s.setReg (CORE_RSP c) (s.reg (CORE_RSP c) + 256)

/-- RFE (R38, R39). -/
def execRfe (c : CoreId) (o : OpR) (s : State) : Outcome State Fault Refusal :=
  runInstr c (encR 0x20 0x010 o) true .retired (fun s =>
    if noRegs o = false then illegal s c
    else
      let a := if s.test (CORE_STATUS c) fldCORE_STATUS_RSV then coreLocal c 0x800 else (s.reg (CORE_RSP c)).toNat
      match loadRun s c a 4 with
      | .stop r => r
      | .ok t f =>
        if f.take 8 = sealBytes t c (f.drop 8) ∧ fldCORE_STATUS_LEVEL.get (slot f 2) ≤ 1 ∧ (slot f 1).toNat % 4 = 0 then
          .jump (restoreFrame t c f) (slot f 1)
        else trapAt t c 3 0) s

/-- FSEAL (R40). -/
def execFseal (c : CoreId) (o : OpR) (s : State) : Outcome State Fault Refusal :=
  runInstr c (encR 0x20 0x011 o) true .retired (fun s =>
    if o.rd ≠ 0 ∨ o.rs2 ≠ 0 then illegal s c
    else
      let a := ((s.core c).getX o.rs1).toNat
      if a % 64 ≠ 0 then trapAt s c 9 a
      else
        match loadRun s c a 4 with
        | .stop r => r
        | .ok t f => .done (coreStore t c (defHint t c) a (sealBytes t c (f.drop 8)))) s

/-- TASKJ. -/
def execTaskj (c : CoreId) (o : OpR) (s : State) : Outcome State Fault Refusal :=
  runInstr c (encR 0x20 0x012 o) true .retired (fun s =>
    if o.rd ≠ 0 ∨ o.rs2 ≠ 0 then illegal s c
    else
      let t := (s.core c).getX o.rs1
      if t.toNat % 4 ≠ 0 then trapAt s c 6 t.toNat
      else .jump (s.setFld (CORE_STATUS c) fldCORE_STATUS_LEVEL 0) t) s

/-- CANREQ: a LAUNCH request joins the mailbox, after the core's earlier stores (R185, R403). -/
def execCanreq (c : CoreId) (o : OpR) (s : State) : Outcome State Fault Refusal :=
  runInstr c (encR 0x20 0x013 o) true .retired (fun s =>
    if o.rd ≠ 0 ∨ o.rs2 ≠ 0 then illegal s c
    else
      let a := ((s.core c).getX o.rs1).toNat
      let s := drainMerge s c
      if storesWait s c then .halt s
      else .done { s with wdn := { s.wdn with mbox := s.wdn.mbox ++ [.canreq c.val a] } }) s

/-- CSTOP: the stop PC is the instruction after it. -/
def execCstop (c : CoreId) (o : OpR) (s : State) : Outcome State Fault Refusal :=
  runInstr c (encR 0x20 0x014 o) true .retired (fun s =>
    if noRegs o = false then illegal s c
    else .halt (stopCore (setPc s c ((s.core c).pc + 4)) c 1 0 1)) s

/-! ### From outside the program -/

/-- The lowest bit set in a word's bits [63:16]. -/
def lowestVector (w : Word) : Option Nat := (upFrom 16 48).find? fun v => wbit w v

/-- Whether a core's clock runs and it is not stopped. -/
def alive (s : State) (c : CoreId) : Bool :=
  !isStopped s c && !inHold s c && decide (s.fld (PWR_CORE c) fldPWR_CORE_STATE < 3) && !s.pwr.thermtrip && !s.modu.poresetLow

/-- Whether a core can take an interrupt or a stop now: not while an atomic of its own waits in a stack, since what has been accepted there
is performed once (R187, R214). -/
def canTake (s : State) (c : CoreId) : Bool := alive s c && (s.core c).wait != .atom

/-- The interrupt that a core takes: the pending and enabled one of the lowest number, where IE is set and no quiet window is open
(R46, R48). -/
def interruptDue (s : State) (c : CoreId) : Option Nat :=
  if s.test (CORE_STATUS c) fldCORE_STATUS_IE = false ∨ qwOpen s c then none else lowestVector (enabledPending s c)

/-- Whether the word at a core's PC is due to raise ILLEGAL before it begins: an illegal encoding, or a Ranger instruction at Task level
(R28, R46). -/
def illegalDue (s : State) (c : CoreId) (w : IWord) : Bool :=
  wordBad w.toNat || (wordRanger w.toNat && s.fld (CORE_STATUS c) fldCORE_STATUS_LEVEL == 0)

/-- An interrupt taken: its pending bit is cleared, TIMER's excepted (R50, R51). -/
def takeVector (s : State) (c : CoreId) (v : Nat) : State :=
  let t := if v = 16 then s else s.setReg (CORE_IPEND c) (s.reg (CORE_IPEND c) &&& ~~~ BitVec.ofNat 64 (2 ^ v))
  enter t c { vector := v, faddr := 0, word := 0, pc := (s.core c).pc, seq := none }

/-- TAKE_INTERRUPT: what is due at the boundary a core has reached is taken in the order of R46, MACHINE_CHECK whatever IE, CORE_IEN and
a quiet window (R47), then a STEP before FETCH_ADDR, ILLEGAL and the interrupt. A reserved word, which no other command spells, raises its
exception here (R28; DESIGN CHOICE, assumption 94). Where an instruction is unretired the boundary is the oldest
one's, and the interrupt alone is due there (R104, R133). -/
def execTakeInterrupt (b : AtBoundary) (s : State) : Outcome State Fault Refusal :=
  let c := b.core
  let k := s.core c
  let s' := timerApply s c
  let settled := k.vecQ.isEmpty && k.tileQ.isEmpty && k.wait == .running
  let due := interruptDue s' c
  let bad := b.word.filter (illegalDue s' c)
  if canTake s c = false ∨ (due = none ∧ k.mcDue = [] ∧ (bad = none ∨ settled = false)) then next s s
  else if let m :: _ := k.mcDue then next s (machineCheck s' c m)
  else
    match (if k.wait = .running then k.stepDue else none) with
    | some n => next s (stepNow s' c n)
    | none =>
      if settled ∧ fetchable s' k.pc.toNat = false then
        next s (enter s' c { vector := 5, faddr := k.pc.toNat, word := 0, pc := k.pc, seq := none })
      else
        match (if settled then bad else none), due with
        | some w, _ => next s (enter s' c { vector := 4, faddr := 0, word := w.toNat, pc := k.pc, seq := none })
        | none, some v => next s (takeVector s' c v)
        | none, none => next s s

/-- QUIET_WINDOW_END. -/
def execQuietWindowEnd (c : CoreId) (s : State) : Outcome State Fault Refusal :=
  if s.still then next s s else
  if qwOpen s c then next s (s.modCore c fun k => { k with qwEnd := some (s.reg (CORE_CYCLE c)) }) else next s s

/-- WARDEN_STOP_TAKEN (R42). -/
def execWardenStopTaken (c : CoreId) (s : State) : Outcome State Fault Refusal :=
  if canTake s c ∧ (s.core c).stopReq ≠ 0 then next s (stopCore s c 3 0 1) else next s s

/-- A line enters a core's fetch buffer of eight. -/
def fetchPut (s : State) (c : CoreId) (line : Nat) : State :=
  s.modCore c fun k => { k with fetch := (line :: k.fetch.filter fun l => l != line).take 8 }

/-- FETCH_LINE_FILL (R452): the line of the PC, or the next sequential one, arrives in the fetch buffer; stacked memory serves it
through the core's caches. The error of a line that holds the instruction to be executed is its MACHINE_CHECK. -/
def execFetchLineFill (c : CoreId) (line : Nat) (s : State) : Outcome State Fault Refusal :=
  let k := s.core c
  let cur := lineOf k.pc.toNat
  if alive s c = false ∨ (line ≠ cur ∧ line ≠ cur + 1) ∨ k.fetch.contains line then next s s
  else
    match coreLoad s c (defHint s c) (line * 128) 128 with
    | (t, .ok _) => next s (fetchPut (chanEvent t (physOf s c)) c line)
    | (t, .poison a seq) =>
      if line = cur ∧ k.wait = .running ∧ k.tileQ.isEmpty then
        next s (enter t c { vector := 1, faddr := a, word := 0, pc := k.pc, seq := some seq })
      else next s s
    | _ => next s s

/-- NUM_MODE_APPLY. -/
def execNumModeApply (c : CoreId) (s : State) : Outcome State Fault Refusal := if s.still then next s s else next s (modeApply s c)
/-- VEC_VL_APPLY. -/
def execVecVlApply (c : CoreId) (s : State) : Outcome State Fault Refusal := if s.still then next s s else next s (vlApply s c)
/-- QUIESCENT_BOUNDARY_APPLY. -/
def execQuiescentApply (c : CoreId) (s : State) : Outcome State Fault Refusal := if s.still then next s s else next s (rngApply s c)

/-- VECTOR_RETIRE: the oldest unretired vector or update instruction retires (R125, Table 5.10). -/
def execVectorRetire (c : CoreId) (s : State) : Outcome State Fault Refusal := if s.still then next s s else next s (vecRetire s c)

end Sys2Proof.Machine
end

