-- ==== Sys2Proof/Machine/Remote.lean ====
section
/-! DEFINITION. Remote operations and blaze instructions of a core (R314, R317, R329, R330, R333, R334). -/
namespace Sys2Proof.Machine
open Host

/-! ### What they have in common -/

/-- The device of a global address. -/
def gDevice (g : Nat) : Nat := bitsOf g 61 44
/-- The local address of a global address. -/
def gLocal (g : Nat) : Nat := g % 2 ^ 44
/-- Whether a global address is malformed (R314). -/
def malformed (g : Nat) : Bool := bitsOf g 63 62 != 0

/-- The bytes of a SIZE code (Table 12.8). -/
def remSize (n : Nat) : Nat := if n = 0 then 8 else if n = 1 then 32 else if n = 2 then 64 else 256

/-- Whether the endpoint accepts a request of a core: it takes one, and the core has a miss register for it. -/
def accepts (s : State) (c : CoreId) (dev : Nat) : Bool := endpointTakes s dev && decide (missInUse s c < missMax s c)

/-- A core's read of a local operand, as its loads: 8 bytes or fewer as a scalar load, more as loads of memory (R330). -/
def loadOperand (s : State) (c : CoreId) (a n : Nat) : MRes :=
  if n ≤ 8 then loadBytes s c a n
  else if 64 ≤ n then loadRun s c (unalias c.val a) (n / 64)
  else
    match coreLoad s c (defHint s c) (unalias c.val a) n with
    | (t, .ok bs) => .ok t bs
    | (t, .addr e) => .stop (trapAt t c 7 e)
    | (t, .poison e seq) => .stop (.trap t 1 e (some seq) (s.core c).pc)
    | (_, .wait) => .stop .wait

/-- A remote instruction: ILLEGAL first, then DATA_ALIGN for each operand, then REMOTE_ADDR; it issues once the endpoint accepts it and
the core's earlier stores have been performed (R185, R329). `align` gives the addresses to be checked and their alignments, `free` what needs
neither a request nor a miss register. -/
def remInstr (c : CoreId) (w : IWord) (bad : State → Bool) (align : State → List (Nat × Nat)) (g : BitVec 5)
    (free : State → Nat → Bool) (body : State → Nat → IRes) (s : State) : Outcome State Fault Refusal :=
  runInstr c w false .retired (fun s =>
    let ga := ((s.core c).getX g).toNat
    if bad s then illegal s c
    else
      match (align s).find? fun e => e.1 % e.2 != 0 with
      | some e => trapAt s c 9 e.1
      | none =>
        if malformed ga then trapAt s c 15 ga
        else if accepts s c (gDevice ga) = false ∧ free s (gDevice ga) = false then .wait
        else if storesWait (drainMerge s c) c then .halt (drainMerge s c)
        else body (drainMerge s c) ga) s

/-- A request of a core that holds a miss register is issued: in A20 issue mode its completion has a place in the core's order (R303). -/
def coreIssue (s : State) (c : CoreId) (k : Packet) (i : Issuer) (ga : Nat) : State :=
  issueReq (orderPush s c (true, s.ride.nextId)) k i ga

/-- A request of a core leaves with the running ring as its tag (R215, R330). -/
def postReq (s : State) (c : CoreId) (op cls ga arg : Nat) (data : List Byte) (i : Issuer) : State :=
  coreIssue s c (mkReq s op (gDevice ga) cls (gLocal ga) arg (if op = 11 then 0 else runningRing s) (padUnits data)) i ga

/-! ### Opcode 0x22 (Table 12.8) -/

/-- The alignments of x[RA] and x[RS1]. -/
def alignBoth (o : OpRem) (c : CoreId) (ra rs1 : Nat) (s : State) : List (Nat × Nat) :=
  [(((s.core c).getX o.ra).toNat, ra), (((s.core c).getX o.rs1).toNat, rs1)]

/-- RGET. -/
def execRget (c : CoreId) (o : OpRem) (s : State) : Outcome State Fault Refusal :=
  let n := remSize o.arg.toNat
  remInstr c (encRem 0 o) (fun _ => o.z || o.d || decide (4 ≤ o.arg.toNat)) (alignBoth o c (min n 32) (min n 32)) o.rs1 (fun _ _ => false)
    (fun s ga =>
      let stamp := ((s.core c).getX o.rs2).toNat
      let k := mkReq s 1 (gDevice ga) o.cls.toNat (gLocal ga) (n / 8 - 1) (if stamp = 0 then runningRing s else stamp) []
      .done (coreIssue s c { k with stamp := stamp != 0 } (.coreGet c.val ((s.core c).getX o.ra).toNat n) ga)) s

/-- RPUT. -/
def execRput (c : CoreId) (o : OpRem) (s : State) : Outcome State Fault Refusal :=
  let n := remSize o.arg.toNat
  remInstr c (encRem 1 o) (fun _ => o.z || o.d || decide (4 ≤ o.arg.toNat) || o.rs2 != 0) (alignBoth o c (min n 32) (min n 32)) o.rs1 (fun _ _ => false)
    (fun s ga =>
      match loadOperand s c ((s.core c).getX o.ra).toNat n with
      | .stop r => r
      | .ok t bs => .done (postReq t c 2 o.cls.toNat ga ((32 * unitsOf n - n) / 8) bs (.corePost c.val))) s

/-- RATOM: the compare value of a CAS is read from x[RA]. -/
def execRatom (c : CoreId) (o : OpRem) (s : State) : Outcome State Fault Refusal :=
  let n := if o.d then 8 else 4
  let atop := o.arg.toNat
  remInstr c (encRem 2 o) (fun _ => o.z || (o.d && (atop == 1 || atop == 4 || atop == 5))) (alignBoth o c n n) o.rs1 (fun _ _ => false)
    (fun s ga =>
      let ra := ((s.core c).getX o.ra).toNat
      let operand := bytesOfNat 8 ((s.core c).getX o.rs2).toNat
      let send := fun (t : State) (cmp : List Byte) =>
        IRes.done (postReq t c 3 o.cls.toNat ga (atop + 8 * flag o.d) (operand ++ cmp) (.coreAtom c.val ra n))
      if atop = 7 then
        match loadOperand s c ra n with
        | .stop r => r
        | .ok t bs => send t ((bs ++ List.replicate 8 0).take 8)
      else send s (List.replicate 8 0)) s

/-- REXSUM and REXSUMSQ: one FP32 value. -/
def remExsum (c : CoreId) (op : Nat) (o : OpRem) (s : State) : Outcome State Fault Refusal :=
  remInstr c (encRem op o) (fun _ => o.z || o.d || o.arg != 0 || o.ra != 0)
    (fun s => [(((s.core c).getX o.rs1).toNat, 128)]) o.rs1 (fun _ _ => false)
    (fun s ga => .done (postReq s c (op + 1) o.cls.toNat ga 0 (bytesOfNat 4 ((s.core c).getX o.rs2).toNat) (.corePost c.val))) s

/-- REXSUM. -/
def execRexsum (c : CoreId) (o : OpRem) (s : State) : Outcome State Fault Refusal := remExsum c 3 o s
/-- REXSUMSQ. -/
def execRexsumsq (c : CoreId) (o : OpRem) (s : State) : Outcome State Fault Refusal := remExsum c 4 o s

/-- RSERVICE: bits [43:0] of x[RS1] must be 0; the tag is 0. -/
def execRservice (c : CoreId) (o : OpRem) (s : State) : Outcome State Fault Refusal :=
  remInstr c (encRem 5 o) (fun s => o.z || o.d || o.arg != 0 || o.rs2 != 0 || gLocal ((s.core c).getX o.rs1).toNat != 0)
    (fun s => [(((s.core c).getX o.ra).toNat, 64)]) o.rs1 (fun _ _ => false)
    (fun s ga =>
      match loadOperand s c ((s.core c).getX o.ra).toNat 64 with
      | .stop r => r
      | .ok t bs => .done (postReq t c 11 o.cls.toNat ga 0 bs (.corePost c.val))) s

/-- The core that a remote operation with a miss register belongs to. -/
def Issuer.core : Issuer → Option Nat
  | .coreGet c _ _ => some c
  | .coreAtom c _ _ => some c
  | .corePost c => some c
  | _ => none

/-- REMOTE_COMPLETION: the result is written at x[RA] as master 64 writes it, to which the self alias names nothing (R52), or the failure is
recorded (R330). A result that local memory refuses counts as a failure with the status it would have at a destination (assumption 23).
In A20 issue mode a completion waits for those of the core's earlier requests (R303). -/
def execRemoteCompletion (id : Nat) (s : State) : Outcome State Fault Refusal :=
  if s.still then next s s else
  match s.ride.reqs.find? fun r => r.id == id with
  | none => next s s
  | some r =>
    match r.answer with
    | none => next s s
    | some (status, data) =>
      let fin := fun (c a n : Nat) =>
        let t := (reqDrop s id).modCore (coreOf c) fun k => orderPop k (true, id)
        if status ≠ 0 then coreFail t (coreOf c) status r.pkt.dst r.gaddr
        else if n = 0 then t
        else
          let bs := (data ++ List.replicate n 0).take n
          match regionOf t a with
          | none => coreFail t (coreOf c) 1 r.pkt.dst r.gaddr
          | some g =>
            if g.plain then
              let w : Wr := { m := 64, sub := 0, hint := 0, slot := runSlot t }
              match memWrite t w a bs with
              | (t, .ok) => t
              | (t, .wait e rest) => addWait t w e rest (.core c)
              | (t, .addr _) => coreFail t (coreOf c) 1 r.pkt.dst r.gaddr
              | (t, _) => coreFail t (coreOf c) 2 r.pkt.dst r.gaddr
            else if n ≠ 8 then coreFail t (coreOf c) 1 r.pkt.dst r.gaddr
            else (regionWrite t 64 a (BitVec.ofNat 64 (natOfBytes bs))).getD t
      if (r.issuer.core.map fun c => heldBack (s.core (coreOf c)) (true, id)).getD false then next s s
      else match r.issuer with
      | .coreGet c a n => next s (fin c a n)
      | .coreAtom c a n => next s (fin c a n)
      | .corePost c => next s (fin c 0 0)
      | _ => next s s

/-! ### Opcode 0x23 (Table 12.9) -/

/-- The blaze at a local address. -/
def blazeAt (a : Nat) : Option Nat := if blazeBase ≤ a ∧ a < blazeBase + 0x100000 then some ((a - blazeBase) / 64) else none

/-- BSIG: a local add, or a SIGNAL. A local address that is no blaze is an address error. -/
def execBsig (c : CoreId) (o : OpBlz) (s : State) : Outcome State Fault Refusal :=
  remInstr c (encBlz 0 o) (fun _ => o.lo != 0 || o.rd != 0) (fun s => [(((s.core c).getX o.rs1).toNat, 64)]) o.rs1 isSelf
    (fun s ga =>
      let n := ((s.core c).getX o.rs2).toNat % 2 ^ 32
      if isSelf s (gDevice ga) then
        match blazeAt (gLocal ga) with
        | some b => .done (blzAdd s b n)
        | none => trapAt s c 8 (gLocal ga)
      else .done (postReq s c 6 o.cls.toNat ga 0 (bytesOfNat 4 n) (.corePost c.val))) s

/-- BWAIT: completes at once where a local blaze meets the threshold; otherwise the core waits. -/
def execBwait (c : CoreId) (o : OpBlz) (s : State) : Outcome State Fault Refusal :=
  remInstr c (encBlz 1 o) (fun _ => o.lo != 0) (fun s => [(((s.core c).getX o.rs1).toNat, 64)]) o.rs1 isSelf
    (fun s ga =>
      let n := ((s.core c).getX o.rs2).toNat % 2 ^ 32
      if isSelf s (gDevice ga) then
        match blazeAt (gLocal ga) with
        | some b =>
          if n ≤ blzValue s b then writeX c o.rd s 0
          else .halt (s.modCore c fun k => { k with wait := .bwait o.rd.toNat b n (runningRing s) none none })
        | none => trapAt s c 7 (gLocal ga)
      else
        let id := s.ride.nextId
        let s := issueReq s (mkReq s 7 (gDevice ga) o.cls.toNat (gLocal ga) 0 (runningRing s) (padUnits (bytesOfNat 4 n))) (.coreWait c.val) ga
        .halt (s.modCore c fun k => { k with wait := .bwait o.rd.toNat 16384 n (runningRing s) (some id) none })) s

/-- BWAIT_RETIRE: a BWAIT whose outcome stands writes it and completes (R334); a core in Hold wakes first (R356). The outcome of a
discarded ring leaves a remote WAIT's response to be discarded. -/
def execBwaitRetire (c : CoreId) (s : State) : Outcome State Fault Refusal :=
  if s.still then next s s else
  match (s.core c).wait with
  | .bwait rd _ _ _ _ (some v) =>
    if alive s c then
      next s ((abandonWait s c).modCore c fun k =>
        { k.setX (BitVec.ofNat 5 rd) (BitVec.ofNat 64 v) with wait := .running, pc := k.pc + 4 })
    else next s s
  | _ => next s s

end Sys2Proof.Machine
end

