-- ==== Sys2Proof/Machine/RideRecv.lean ====
section
/-! DEFINITION. Requests and responses that arrive over Ride: receive state, the operations performed as master 64, holds and BUSY (R215,
R220, R222 to R227, R314 to R328). -/
namespace Sys2Proof.Machine
open Host

/-! ### What a request is answered -/

/-- What becomes of a request: an answer, a hold, or a write that waits in a stack (R214, R318). -/
inductive Served where
  | done (s : State) (status : Nat) (data : List Byte)
  | hold
  | wait (s : State)

/-- A ring protocol operation (R322). -/
def isProtocol (p : Packet) : Bool := p.op == 8 || p.op == 9 || p.op == 10

/-- The units of payload that a request's operation takes (Table 12.5): none where the operation is reserved. -/
def wantUnits (p : Packet) : Option (Nat × Nat) :=
  match p.op with
  | 1 => some (0, 0)
  | 2 => some (1, 256)
  | 3 => some (1, 1)
  | 4 => some (unitsOf (4 * (p.arg + 1)), unitsOf (4 * (p.arg + 1)))
  | 5 => some (unitsOf (4 * (p.arg + 1)), unitsOf (4 * (p.arg + 1)))
  | 6 => some (1, 1)
  | 7 => some (1, 1)
  | 8 => some (2, 2)
  | 9 => some (2, 2)
  | 10 => some (2, 2)
  | 11 => some (2, 2)
  | _ => none

/-- The largest ARG of an operation (Table 12.5). -/
def argMax (op : Nat) : Nat := if op = 1 then 31 else if op = 2 then 3 else if op = 3 then 15 else if op = 4 ∨ op = 5 then 63 else 0

/-- The alignment that Table 12.5 asks of an operation's ADDR. -/
def addrAlign (p : Packet) : Nat :=
  if p.op = 1 then min (8 * (p.arg + 1)) 32 else if p.op = 3 then (if bitOf p.arg 3 then 8 else 4) else 1

/-- Whether an ATOM's operation and width agree (R324). -/
def atomBad (p : Packet) : Bool :=
  p.op == 3 && bitOf p.arg 3 && (p.arg % 8 == 1 || p.arg % 8 == 4 || p.arg % 8 == 5)

/-- Whether a request is answered BAD_PACKET (Table 12.4, R315, R322, R324, R328). -/
def badPacket (p : Packet) : Bool :=
  (match wantUnits p with
    | some (lo, hi) => decide (unitsOf p.data.length < lo) || decide (hi < unitsOf p.data.length)
    | none => true) ||
  p.rsv || decide (argMax p.op < p.arg) || p.addr % addrAlign p != 0 || decide (2 ^ 44 ≤ p.addr) || p.status != 0 || atomBad p ||
  (p.stamp && p.op != 1) || (p.mirror && p.op != 2) ||
  (isProtocol p && (p.cls != 3 || p.tag != 0 || p.addr != 0)) || (p.op == 11 && (p.tag != 0 || p.addr != 0))

/-! ### Tags and stamps (R215, R227) -/

/-- The handling of a tag: none where the request is stale; else the slot that takes its RINGED writes, none where they are refused. -/
def tagSlot (s : State) (q : Nat) : Option WSlot :=
  if q = 0 ∨ q = runningRing s then some (runSlot s)
  else if (q = olderRing s ∧ olderState s ≠ 0) ∨ s.ring.highest < q then some none
  else none

/-- How a stamp is served: a status, or none where the GET waits for the outcome; status 0 with the retained heartwood or without. -/
def stampCase (s : State) (v : Nat) : Option (Nat × Bool) :=
  let vis := (s.reg RING_VISIBLE).toNat
  if v = vis then some (0, false)
  else if v = (s.reg RING_PREV).toNat then some (0, true)
  else if (slotOfRing s v).any fun sl => undecidedState (slotState s sl) then none
  else if s.ring.highest < v then some (5, false)
  else if vis < v then some (4, false)
  else some (6, false)

/-- A byte as a GET stamped with RING_PREV reads it: of a RINGED granule that the visible ring wrote, the heartwood retained. -/
def prevByte (s : State) (a : Nat) : Byte :=
  if kindAt s a = 1 ∧ s.mem.retained.gran.contains (granule a) then mapGet zeroByte s.mem.retained.bytes a else memByte s 0 a

/-- A stamped GET that touches a RINGED granule. -/
def stampedRead (s : State) (v a n : Nat) : Served :=
  match stampCase s v with
  | none => .hold
  | some (0, prev) =>
    match eccSpan s none 0 a n with
    | (t, none) => .done t 0 (if prev then (upFrom a n).map (prevByte s) else memBytes s 0 a n)
    | (t, some _) => .done t 3 []
  | some (status, _) => .done s status []

/-! ### The operations (R323 to R328) -/

/-- GET. -/
def serveGet (s : State) (p : Packet) : Served :=
  let n := 8 * (p.arg + 1)
  match spanRegion s p.addr n with
  | none =>
    if n = 8 then
      match regionRead s p.addr with
      | some (w, t) => .done t 0 (bytesOfNat 8 w.toNat)
      | none => .done s 1 []
    else .done s 1 []
  | some r =>
    if p.stamp ∧ r = .stack ∧ (kindAt s p.addr = 1 ∨ kindAt s (p.addr + n - 1) = 1) then stampedRead s p.tag p.addr n
    else
      match memRead s 64 0 p.addr n with
      | (t, .ok bs) => .done t 0 bs
      | (_, .addr _) => .done s 1 []
      | (t, .poison ..) => .done t 3 []
      | (_, .wait) => .hold

/-- A write of memory or of one register as master 64; `old` is what an ATOM answers once its waiting write is performed. -/
def serveWrite (s : State) (p : Packet) (slot : WSlot) (a : Nat) (bs : List Byte) : Served :=
  if bs.isEmpty then .done s 1 []
  else if bs.length = 8 ∧ p.addr % 8 = 0 ∧ ((regionOf s a).any fun r => !r.plain) = true then
    if postWaits s a then .hold
    else match regionWrite s 64 a (BitVec.ofNat 64 (natOfBytes bs)) with
    | some t => .done t 0 []
    | none => .done s 1 []
  else
    let w : Wr := { m := 64, sub := 0, hint := 0, slot := slot }
    match memWrite s w a bs with
    | (t, .ok) => .done t 0 []
    | (t, .addr _) => .done t 1 []
    | (t, .wait e rest) => .wait (addWait t w e rest (.remote p []))
    | (t, _) => .done t 2 []

/-- The bytes a PUT carries (Table 12.5). -/
def putBytes (p : Packet) : List Byte := (padUnits p.data).take (32 * unitsOf p.data.length - 8 * p.arg)

/-- The new value of an ATOM of `w` bits (Table 12.6); none where nothing is written. -/
def atomNew (atop w operand cmp old : Nat) : Option Nat :=
  let x := operand % 2 ^ w
  match atop with
  | 0 => some ((old + x) % 2 ^ w)
  | 1 => some (engAdd f32 false old x).1
  | 2 => some (if signedOf w old < signedOf w x then x else old)
  | 3 => some (if signedOf w x < signedOf w old then x else old)
  | 4 => some (engMaxMin f32 false true old x).1
  | 5 => some (engMaxMin f32 false false old x).1
  | 6 => some x
  | _ => if old = cmp % 2 ^ w then some x else none

/-- ATOM. -/
def serveAtom (s : State) (p : Packet) (slot : WSlot) : Served :=
  let n := if bitOf p.arg 3 then 8 else 4
  let d := padUnits p.data
  let f := atomNew (p.arg % 8) (8 * n) (natOfBytes (d.take 8)) (natOfBytes ((d.drop 8).take 8))
  match atomicAt s 64 0 slot p.addr n f with
  | (t, .ok old) => .done t 0 (bytesOfNat 8 old)
  | (t, .refused ..) => .done t 2 []
  | (_, .addr _) => .done s 1 []
  | (t, .poison ..) => .done t 3 []
  | (_, .wait) => .hold
  | (t, .pool old e rest) =>
    .wait (addWait t { m := 64, sub := 0, hint := 0, slot := slot } e rest (.remote p (bytesOfNat 8 old)))

/-- EXSUM and EXSUMSQ: the values are added in ascending order. -/
def serveExsum (s : State) (p : Packet) : Served :=
  if regionOf s p.addr = some .exacc ∧ p.addr % 128 = 0 then
    let k := accIndex p.addr
    .done ((upFrom 0 (p.arg + 1)).foldl (fun s i =>
      let v := BitVec.ofNat 64 (natOfBytes ((p.data.drop (4 * i)).take 4))
      if p.op = 5 then accAddSqOp s k v else accAddOp s k v) s) 0 []
  else .done s 1 []

/-- The blaze at an address that is a blaze's base. -/
def blazeBaseAt (a : Nat) : Option Nat := if a % 64 = 0 then blazeAt a else none

/-- SIGNAL. -/
def serveSignal (s : State) (p : Packet) : Served :=
  match blazeBaseAt p.addr with
  | some b => .done (blzAdd s b (natOfBytes (p.data.take 4))) 0 []
  | none => .done s 1 []

/-- WAIT: held until its blaze meets the threshold. -/
def serveWait (s : State) (p : Packet) : Served :=
  match blazeBaseAt p.addr with
  | some b => if natOfBytes (p.data.take 4) ≤ blzValue s b then .done s 0 (bytesOfNat 4 (blzValue s b)) else .hold
  | none => .done s 1 []

/-- SERVICE. -/
def serveService (s : State) (p : Packet) : Served :=
  if svcFull s then .done s 7 []
  else if svcWaits s then .hold
  else .done (svcEnq s 64 p.data p.src) 0 []

/-- A vote reaches the ring logic (Table 8.7). -/
def serveVote (s : State) (v : RingPayload) : State × List Byte :=
  match v.kind with
  | 1 => (leadVote s v, [])
  | 2 => (leadVote s v, [])
  | 3 => (leadVote s v, [])
  | 4 => (leadFlipped s v.ring v.source, [])
  | 5 => claimServe s v
  | 6 => (s.modRing fun k =>
      { k with mirrored := if k.mirrored.contains (v.ring, v.source) then k.mirrored else (v.ring, v.source) :: k.mirrored }, [])
  | _ => (s, [])

/-- A ring protocol operation: one of another group is ignored and still answered OK (R220, R327). -/
def serveRing (s : State) (p : Packet) : State × List Byte :=
  let v := payloadOf p.data
  if v.group ≠ groupId s then (s, [])
  else if p.op = 8 then serveVote s v
  else if p.op = 10 then (applyOutcome s v.ring 2 ⟨v.arg, v.culprit, v.shard, v.step⟩ v.g, [])
  else if v.kind = 0 then (applyOutcome s v.ring 1 ⟨0, 0, 0, 0⟩ v.g, [])
  else if v.kind = 1 then (applyRetire s v.ring, [])
  else (s, [])

/-- A mirror copy enters the sapwood of the ring it names while that ring takes copies; else it is stale (R328). -/
def serveMirror (s : State) (p : Packet) : Served :=
  match slotOfRing s p.tag with
  | some sl =>
    if slotState s sl = 1 ∨ slotState s sl = 2 ∨ slotState s sl = 3 then serveWrite s p (some sl) p.addr (putBytes p)
    else .done s 9 []
  | none => .done s 9 []

/-- A request performed (R215, R322 to R328). -/
def serveReq (s : State) (p : Packet) : Served :=
  if badPacket p then .done s 8 []
  else if isProtocol p then .done (serveRing s p).1 0 (serveRing s p).2
  else if p.op = 11 then serveService s p
  else if p.mirror then serveMirror s p
  else
    match if p.stamp then some (runSlot s) else tagSlot s p.tag with
    | none => .done s 9 []
    | some slot =>
      if p.op = 1 then serveGet s p
      else if p.op = 2 then serveWrite s p slot p.addr (putBytes p)
      else if p.op = 3 then serveAtom s p slot
      else if p.op = 4 ∨ p.op = 5 then serveExsum s p
      else if p.op = 6 then serveSignal s p
      else serveWait s p

/-! ### Arrival (R318) -/

/-- The bytes of the hold buffer in use. -/
def holdUsed (s : State) : Nat := (s.ride.held.map fun p => 32 * pktUnits p).sum

/-- A request is answered BUSY, unperformed. -/
def answerBusy (s : State) (p : Packet) : State := sendResp (count (unhold s p) RIDE_BUSY_SENT 1) (respTo s p 12 [])

/-- Whether a request stands in the hold buffer. -/
def isHeld (s : State) (p : Packet) : Bool := s.ride.held.any fun q => q.src == p.src && q.cls == p.cls && q.psn == p.psn

/-- A request is held, where the hold buffer has room. -/
def holdReq (s : State) (p : Packet) : State :=
  if isHeld s p then s
  else if 2 ^ 22 < holdUsed s + 32 * pktUnits p then answerBusy s p
  else s.modRide fun k => { k with held := k.held ++ [p] }

/-- A request is performed, and answered unless it waits. -/
def performReq (s : State) (p : Packet) : State :=
  match serveReq s p with
  | .done t status data => answer (if status = 9 then count t RIDE_STALE_DROP 1 else t) p status data
  | .hold => holdReq s p
  | .wait t => unhold t p

/-- Whether a held request can be performed now. -/
def heldReady (s : State) (p : Packet) : Bool :=
  seqOk s p && match serveReq s p with
    | .hold => false
    | _ => true

/-- The held requests that can be performed are performed, first come first; fuel bounds them by their number. -/
def drainHeldN : Nat → State → State
  | 0, s => s
  | n + 1, s =>
    match s.ride.held.find? (heldReady s) with
    | some p => drainHeldN n (performReq s p)
    | none => s

/-- Every held request that can be performed is performed. -/
def drainHeld (s : State) : State := drainHeldN s.ride.held.length s

/-- Whether an earlier copy of a request is held or waits in a stack, unanswered (R318). -/
def copyPending (s : State) (p : Packet) : Bool :=
  isHeld s p || s.mem.poolWait.any fun w => match w.src with
    | .remote q _ => q.src == p.src && q.cls == p.cls && q.psn == p.psn
    | _ => false

/-- A NEW request at or above the watermark of a stream with state: the watermark moves to it, and requests held for SEQ below it are
answered NO_STREAM (R318); a request held for another reason stays held. -/
def newStream (s : State) (r : RxStream) (p : Packet) : State :=
  let gone := s.ride.held.filter fun q => q.src == p.src && q.cls == p.cls && psnBelow q.psn p.psn && !seqOk s q
  let r : RxStream := { r with mark := p.psn, done := r.done.filter fun n => !psnBelow n p.psn }
  let s := rxPut s (r.advance r.done.length)
  gone.foldl (fun s q => sendResp (unhold s q) (respTo s q 11 [])) s

/-- A request of a stream with state is handled by its PSN (R318). -/
def recvIn (s : State) (r : RxStream) (p : Packet) : State :=
  if r.performed p.psn then
    let s := count s RIDE_DUP_DROP 1
    if p.op = 1 ∨ p.op = 7 ∨ isProtocol p then performReq s p else sendResp s (respTo s p 10 [])
  else if copyPending s p then count s RIDE_DUP_DROP 1
  else if seqOk s p then performReq s p
  else holdReq s p

/-- A request arrives (R318). -/
def recvStream (s : State) (p : Packet) : State :=
  match rxFind s p.src p.cls with
  | none =>
    if p.new = false then sendResp s (respTo s p 11 [])
    else if 65536 ≤ s.ride.rx.length then answerBusy s p
    else
      let r : RxStream := { src := p.src, cls := p.cls, mark := p.psn, done := [] }
      let s := s.modRide fun k => { k with rx := k.rx ++ [r], rxHwm := max k.rxHwm (k.rx.length + 1) }
      recvIn s r p
  | some r =>
    if p.new ∧ psnBelow p.psn r.mark = false ∧ p.psn ≠ r.mark then
      let s := newStream s r p
      recvIn s ((rxFind s p.src p.cls).getD r) p
    else recvIn s r p

/-- Units of a port's receive buffer are freed on a virtual channel (R311). -/
def freeUnits (q : Port) (vc n : Nat) : Port :=
  if vc = 0 then { q with freed0 := q.freed0 + n } else if vc = 1 then { q with freed1 := q.freed1 + n } else { q with freed2 := q.freed2 + n }

/-- The endpoint takes a packet out of the receive buffer of a port, whose units it frees, or, where this device has sent it to itself, out
of its own loop (R311, R314). -/
def arrives (s : State) (p : Packet) : Option State :=
  match s.ride.inbox.find? fun e => e.2 == p with
  | some e =>
    let s := s.modRide fun k => { k with inbox := k.inbox.erase e }
    if h : e.1 < 36 then some (s.modPort ⟨e.1, h⟩ fun q => freeUnits q (pktVc p) (pktUnits p)) else some s
  | none => if s.ride.loop.contains p then some (s.modRide fun k => { k with loop := k.loop.erase p }) else none

/-- A request that the endpoint has taken; one for another device is dropped. -/
def takeReq (s : State) (p : Packet) : State :=
  match arrives s p with
  | some s => if p.dst = ownDevice s then drainHeld (recvStream s p) else s
  | none => s

/-- A request packet of an operation. -/
def recvReq (s : State) (op : Nat) (p : Packet) : State := takeReq s { p with op := op, resp := false }

/-- A ring protocol packet of an operation whose payload is of a kind. -/
def recvRing (s : State) (op kind : Nat) (p : Packet) : State :=
  recvReq s op { p with data := (padUnits p.data).set 18 (BitVec.ofNat 8 kind) }

/-- GET. -/
def execRideGet (p : Packet) (s : State) : Outcome State Fault Refusal := if s.still then next s s else next s (recvReq s 1 p)
/-- PUT. -/
def execRidePut (p : Packet) (s : State) : Outcome State Fault Refusal := if s.still then next s s else next s (recvReq s 2 p)
/-- ATOM. -/
def execRideAtom (p : Packet) (s : State) : Outcome State Fault Refusal := if s.still then next s s else next s (recvReq s 3 p)
/-- EXSUM. -/
def execRideExsum (p : Packet) (s : State) : Outcome State Fault Refusal := if s.still then next s s else next s (recvReq s 4 p)
/-- EXSUMSQ. -/
def execRideExsumsq (p : Packet) (s : State) : Outcome State Fault Refusal := if s.still then next s s else next s (recvReq s 5 p)
/-- SIGNAL. -/
def execRideSignal (p : Packet) (s : State) : Outcome State Fault Refusal := if s.still then next s s else next s (recvReq s 6 p)
/-- WAIT. -/
def execRideWait (p : Packet) (s : State) : Outcome State Fault Refusal := if s.still then next s s else next s (recvReq s 7 p)
/-- SERVICE. -/
def execRideService (p : Packet) (s : State) : Outcome State Fault Refusal := if s.still then next s s else next s (recvReq s 11 p)
/-- MIRROR_PUT: a packet with MIRROR = 1; its operation stands as it is, since one that is no PUT is a BAD_PACKET. -/
def execRideMirrorPut (p : Packet) (s : State) : Outcome State Fault Refusal := if s.still then next s s else next s (recvReq s p.op { p with mirror := true })
/-- ALIVE. -/
def execVoteAlive (p : Packet) (s : State) : Outcome State Fault Refusal := if s.still then next s s else next s (recvRing s 8 0 p)
/-- READY. -/
def execVoteReady (p : Packet) (s : State) : Outcome State Fault Refusal := if s.still then next s s else next s (recvRing s 8 1 p)
/-- DOOM_VOTE. -/
def execVoteDoom (p : Packet) (s : State) : Outcome State Fault Refusal := if s.still then next s s else next s (recvRing s 8 2 p)
/-- REFUSE_STEP. -/
def execVoteRefuse (p : Packet) (s : State) : Outcome State Fault Refusal := if s.still then next s s else next s (recvRing s 8 3 p)
/-- FLIPPED. -/
def execVoteFlipped (p : Packet) (s : State) : Outcome State Fault Refusal := if s.still then next s s else next s (recvRing s 8 4 p)
/-- CLAIM. -/
def execVoteClaim (p : Packet) (s : State) : Outcome State Fault Refusal := if s.still then next s s else next s (recvRing s 8 5 p)
/-- MIRRORED. -/
def execVoteMirrored (p : Packet) (s : State) : Outcome State Fault Refusal := if s.still then next s s else next s (recvRing s 8 6 p)
/-- COMMIT. -/
def execRecvCommit (p : Packet) (s : State) : Outcome State Fault Refusal := if s.still then next s s else next s (recvRing s 9 0 p)
/-- RETIRE. -/
def execRecvRetire (p : Packet) (s : State) : Outcome State Fault Refusal := if s.still then next s s else next s (recvRing s 9 1 p)
/-- DISCARD. -/
def execRecvDiscard (p : Packet) (s : State) : Outcome State Fault Refusal := if s.still then next s s else next s (recvRing s 10 2 p)

/-- Whether no row of the table stands for a packet: a request of a reserved operation, or a ring protocol operation of a kind that has
no meaning. -/
def rowless (p : Packet) : Bool :=
  let kind := numAt (padUnits p.data) 18 1
  !p.resp && !p.mirror && (p.op == 0 || decide (11 < p.op) || (p.op == 8 && decide (6 < kind)) || (p.op == 9 && decide (1 < kind)) ||
    (p.op == 10 && kind != 2))

/-- FLIT_RECEIVE: a port accepts the flit, whose packets its rows then take, or discards it and owes a replay request (R312). A request
that no row stands for is taken at once. -/
def execFlitReceive (port : Fin 36) (f : Flit) (s : State) : Outcome State Fault Refusal :=
  if s.still then next s s else
  if portState s port ≠ 2 ∧ portState s port ≠ 3 then next s s
  else
    let r := rxFlit f
    let t := flitFixed s port r.fixed
    match r.bytes.filter flitOk with
    | none => next s (flitDiscard (count t (RIDE_PORT_BAD port) 1) port)
    | some l =>
      if numAt l 0 4 ≠ (s.ride.ports.get port).rxNext then next s (flitDiscard t port)
      else
        let (t, ks) := flitAccept (chanEvent t 96) port l
        next s ((ks.filter rowless).foldl takeReq t)

/-! ### Holds and streams over time -/

/-- HOLD_TIMEOUT: a request held 32 µs is answered BUSY. -/
def execHoldTimeout (src cls psn : Nat) (s : State) : Outcome State Fault Refusal :=
  if s.still then next s s else
  match s.ride.held.find? fun p => p.src == src && p.cls == cls && p.psn == psn with
  | some p => next s (answerBusy s p)
  | none => next s s

/-- STREAM_EXPIRY: a stream 4 ms without a request loses its receive state; one that still holds a request has not been so long idle. -/
def execStreamExpiry (src cls : Nat) (s : State) : Outcome State Fault Refusal :=
  if s.still then next s s else
  if s.ride.held.any (fun p => p.src == src && p.cls == cls) then next s s
  else next s (s.modRide fun k => { k with rx := k.rx.filter fun r => !(r.src == src && r.cls == cls) })

/-! ### Responses (R318, R320, R321) -/

/-- The request a response answers: outstanding, and not yet completed. -/
def respReq (s : State) (p : Packet) : Option RideReq :=
  s.ride.reqs.find? fun r => r.pkt.dst == p.src && r.pkt.cls == p.cls && r.pkt.psn == p.psn && r.answer.isNone

/-- A response reaches its request: BUSY asks for a resend and counts against no budget, a DUPLICATE of a request sent more than once
waits for an earlier response, and any other completes it. That of an abandoned WAIT is discarded, whatever it says (R334). -/
def applyResp (s : State) (r : RideReq) (p : Packet) : State :=
  if p.status = 12 then
    let s := count s RIDE_BUSY_RECV 1
    if r.issuer = .abandoned then rideComplete s r 12 []
    else if r.dup then s else reqPut s { r with busy := true, tried := r.tried.dropLast }
  else if p.status = 10 ∧ 1 < r.sends ∧ r.issuer ≠ .abandoned then reqPut s { r with dup := true, busy := false }
  else drainHeld (rideComplete s r p.status p.data)

/-- A response packet arrives; one that `want` does not take, or that answers no request, is discarded. -/
def recvResp (s : State) (want : Issuer → Bool) (p : Packet) : State :=
  let p := { p with resp := true }
  match respReq s p with
  | some r =>
    if want r.issuer then
      match arrives s p with
      | some s => if p.dst = ownDevice s then applyResp s r p else s
      | none => s
    else s
  | none => (arrives s p).getD s

/-- RESPONSE. -/
def execRideResponse (p : Packet) (s : State) : Outcome State Fault Refusal := if s.still then next s s else next s (recvResp s (fun _ => true) p)

/-- CLAIM_RESPONSE: a response to a CLAIM. -/
def execClaimResponse (p : Packet) (s : State) : Outcome State Fault Refusal :=
  if s.still then next s s else
  next s (recvResp s (fun i => match i with
    | .claim .. => true
    | _ => false) p)

/-- BUSY_RESEND: the request leaves again, on any port. -/
def execBusyResend (id : Nat) (s : State) : Outcome State Fault Refusal :=
  if s.still then next s s else
  match reqFind s id with
  | some r =>
    if r.busy ∧ r.answer.isNone then
      let r := { r with busy := false, sends := r.sends + 1, anyPort := true, pkt := { r.pkt with retx := true } }
      if r.pkt.dst = ownDevice s then
        next s ((reqPut s r).modRide fun k => { k with loop := k.loop ++ [r.pkt] })
      else
        next s (pathCheck (sendTracked (reqPut s r) r.pkt))
    else next s s
  | none => next s s

/-- DUPLICATE_WAIT_EXPIRY: no earlier response has come, and the request completes with DUPLICATE. -/
def execDuplicateWaitExpiry (id : Nat) (s : State) : Outcome State Fault Refusal :=
  if s.still then next s s else
  match reqFind s id with
  | some r => if r.dup ∧ r.answer.isNone then next s (drainHeld (rideComplete s r 10 [])) else next s s
  | none => next s s

end Sys2Proof.Machine
end

