-- ==== Sys2Proof/Machine/ScalarF.lean ====
section
/-! DEFINITION. The scalar floating instructions (R25, R26, R451). -/
namespace Sys2Proof.Machine
open Host

/-- The format a precision bit selects. -/
def precFmt (p : Bool) : Fmt := if p then f64 else f32

/-- The other precision's format. -/
def otherFmt (p : Bool) : Fmt := if p then f32 else f64

/-- The number an f register holds in a format: bits [31:0] for binary32. -/
def readF (k : CoreSt) (f : Fmt) (r : BitVec 5) : Nat := (k.getF r).toNat % 2 ^ f.width

/-- A result as an f register holds it: the bits above a narrow result are ones (R25). -/
def boxF (f : Fmt) (v : Nat) : Word := BitVec.ofNat 64 (v + (2 ^ 64 - 2 ^ f.width))

/-- The direction CORE_FSTAT.RM selects. -/
def coreRM (s : State) (c : CoreId) : RM := rmOf (s.fld (CORE_FSTAT c) fldCORE_FSTAT_RM)

/-- Flags raised stick in CORE_FSTAT (R25). -/
def raiseF (s : State) (c : CoreId) (fl : Fl) : State :=
  s.setReg (CORE_FSTAT c) (s.reg (CORE_FSTAT c) ||| BitVec.ofNat 64
    (flag fl.nv * 16 + flag fl.dz * 8 + flag fl.ov * 4 + flag fl.uf * 2 + flag fl.nx))

/-- A floating instruction: reserved bits, and an unused rs2, must be 0 (R28, R451). -/
def fpInstr (c : CoreId) (op : Nat) (o : OpF) (unused : Bool) (body : State → IRes) (s : State) : Outcome State Fault Refusal :=
  runInstr c (encF op o) false .scalar (fun s =>
    if o.lo ≠ 0 ∨ (unused ∧ o.rs2 ≠ 0) then illegal s c else body s) s

/-- An instruction whose result is a floating value with flags. -/
def writeF (s : State) (c : CoreId) (f : Fmt) (rd : BitVec 5) (r : FRes) : IRes :=
  .done (raiseF (s.modCore c fun k => k.setF rd (boxF f r.1)) c r.2)

/-- A floating operation of two registers. -/
def fpTwo (c : CoreId) (op : Nat) (o : OpF) (f : Fmt → RM → Nat → Nat → FRes) (s : State) : Outcome State Fault Refusal :=
  fpInstr c op o false (fun s =>
    let m := precFmt o.p
    writeF s c m o.rd (f m (coreRM s c) (readF (s.core c) m o.rs1) (readF (s.core c) m o.rs2))) s

/-- FADD. -/
def execFadd (c : CoreId) (o : OpF) (s : State) : Outcome State Fault Refusal := fpTwo c 0 o scalarAdd s
/-- FSUB. -/
def execFsub (c : CoreId) (o : OpF) (s : State) : Outcome State Fault Refusal :=
  fpTwo c 1 o (fun f rm a b => if isNan f b then scalarAdd f rm a b else scalarAdd f rm a (negate f b)) s
/-- FMUL. -/
def execFmul (c : CoreId) (o : OpF) (s : State) : Outcome State Fault Refusal := fpTwo c 2 o scalarMul s
/-- FDIV. -/
def execFdiv (c : CoreId) (o : OpF) (s : State) : Outcome State Fault Refusal := fpTwo c 3 o scalarDiv s
/-- FSQRT. -/
def execFsqrt (c : CoreId) (o : OpF) (s : State) : Outcome State Fault Refusal :=
  fpInstr c 4 o true (fun s =>
    let m := precFmt o.p
    writeF s c m o.rd (scalarSqrt m (coreRM s c) (readF (s.core c) m o.rs1))) s
/-- FMADD. -/
def execFmadd (c : CoreId) (o : OpF) (s : State) : Outcome State Fault Refusal :=
  fpInstr c 5 o false (fun s =>
    let m := precFmt o.p
    let k := s.core c
    writeF s c m o.rd (scalarFma m (coreRM s c) (readF k m o.rd) (readF k m o.rs1) (readF k m o.rs2))) s

/-- Whether an encoding is a signalling not-a-number. -/
def isSignalling (f : Fmt) (w : Nat) : Bool := isNan f w && !bitOf w (f.fb - 1)

/-- A comparison; `quiet` says that only a signalling not-a-number sets NV. -/
def fpCompare (c : CoreId) (op : Nat) (o : OpF) (quiet : Bool) (p : Ordering → Bool) (s : State) : Outcome State Fault Refusal :=
  fpInstr c op o false (fun s =>
    let m := precFmt o.p
    let a := readF (s.core c) m o.rs1
    let b := readF (s.core c) m o.rs2
    let nv := if quiet then isSignalling m a || isSignalling m b else isNan m a || isNan m b
    let r := match compareFV (unpack m a) (unpack m b) with
      | some x => p x
      | none => false
    writeX c o.rd (raiseF s c { nv := nv }) (boolWord r)) s

/-- FEQ. -/
def execFeq (c : CoreId) (o : OpF) (s : State) : Outcome State Fault Refusal := fpCompare c 6 o true (fun x => x == .eq) s
/-- FLT. -/
def execFlt (c : CoreId) (o : OpF) (s : State) : Outcome State Fault Refusal := fpCompare c 7 o false (fun x => x == .lt) s
/-- FLE. -/
def execFle (c : CoreId) (o : OpF) (s : State) : Outcome State Fault Refusal := fpCompare c 8 o false (fun x => x != .gt) s

/-- FCVTFF: from the other precision. -/
def execFcvtff (c : CoreId) (o : OpF) (s : State) : Outcome State Fault Refusal :=
  fpInstr c 9 o true (fun s =>
    let m := precFmt o.p
    writeF s c m o.rd (scalarConvert (otherFmt o.p) m (coreRM s c) (readF (s.core c) (otherFmt o.p) o.rs1))) s
/-- FCVTFH: to binary16. -/
def execFcvtfh (c : CoreId) (o : OpF) (s : State) : Outcome State Fault Refusal :=
  fpInstr c 10 o true (fun s =>
    let m := precFmt o.p
    writeF s c f16 o.rd (scalarConvert m f16 (coreRM s c) (readF (s.core c) m o.rs1))) s
/-- FCVTHF: from binary16. -/
def execFcvthf (c : CoreId) (o : OpF) (s : State) : Outcome State Fault Refusal :=
  fpInstr c 11 o true (fun s =>
    let m := precFmt o.p
    writeF s c m o.rd (scalarConvert f16 m (coreRM s c) (readF (s.core c) f16 o.rs1))) s
/-- FCVTIF. -/
def execFcvtif (c : CoreId) (o : OpF) (s : State) : Outcome State Fault Refusal :=
  fpInstr c 12 o true (fun s =>
    let m := precFmt o.p
    writeF s c m o.rd (scalarFromInt m (coreRM s c) ((s.core c).getX o.rs1).toInt)) s
/-- FCVTUF. -/
def execFcvtuf (c : CoreId) (o : OpF) (s : State) : Outcome State Fault Refusal :=
  fpInstr c 13 o true (fun s =>
    let m := precFmt o.p
    writeF s c m o.rd (scalarFromInt m (coreRM s c) (((s.core c).getX o.rs1).toNat : Int))) s

/-- A conversion to an integer within a range. -/
def fpToInt (c : CoreId) (op : Nat) (o : OpF) (lo hi : Int) (s : State) : Outcome State Fault Refusal :=
  fpInstr c op o true (fun s =>
    let m := precFmt o.p
    let r := scalarToInt m (coreRM s c) lo hi (readF (s.core c) m o.rs1)
    writeX c o.rd (raiseF s c r.2) (BitVec.ofInt 64 r.1)) s

/-- FCVTFI. -/
def execFcvtfi (c : CoreId) (o : OpF) (s : State) : Outcome State Fault Refusal := fpToInt c 14 o (-2 ^ 63) (2 ^ 63 - 1) s
/-- FCVTFU. -/
def execFcvtfu (c : CoreId) (o : OpF) (s : State) : Outcome State Fault Refusal := fpToInt c 15 o 0 (2 ^ 64 - 1) s

/-- FMVXF. -/
def execFmvxf (c : CoreId) (o : OpF) (s : State) : Outcome State Fault Refusal :=
  fpInstr c 16 o true (fun s =>
    let w := (s.core c).getF o.rs1
    writeX c o.rd s (if o.p then w else sextN 32 w.toNat)) s
/-- FMVFX. -/
def execFmvfx (c : CoreId) (o : OpF) (s : State) : Outcome State Fault Refusal :=
  fpInstr c 17 o true (fun s =>
    let w := (s.core c).getX o.rs1
    .done (s.modCore c fun k => k.setF o.rd (if o.p then w else boxF f32 (w.toNat % 2 ^ 32)))) s
/-- FSTATR. -/
def execFstatr (c : CoreId) (o : OpF) (s : State) : Outcome State Fault Refusal :=
  fpInstr c 30 o true (fun s =>
    if o.p ∨ o.rs1 ≠ 0 then illegal s c else writeX c o.rd s (s.reg (CORE_FSTAT c))) s
/-- FSTATW: rs1 is read before rd is written. -/
def execFstatw (c : CoreId) (o : OpF) (s : State) : Outcome State Fault Refusal :=
  fpInstr c 31 o true (fun s =>
    if o.p then illegal s c
    else
      let w := (s.core c).getX o.rs1
      let old := s.reg (CORE_FSTAT c)
      writeX c o.rd (s.setReg (CORE_FSTAT c) (BitVec.ofNat 64 (w.toNat % 128))) old) s

/-! ### Loads and stores of floating registers -/

/-- The address of a floating access: bit 0 of the immediate counts as 0. -/
def fpAddr (s : State) (c : CoreId) (rs1 : BitVec 5) (hi : BitVec 15) : Nat :=
  ((s.core c).getX rs1 + sext16 (hi ++ (0 : BitVec 1))).toNat

/-- FLW. -/
def execFlw (c : CoreId) (o : OpFI) (s : State) : Outcome State Fault Refusal :=
  runInstr c (encFI 0 o) false .memory (fun s =>
    match loadBytes s c (fpAddr s c o.rs1 o.immHi) 4 with
    | .ok t bs => .done (t.modCore c fun k => k.setF o.rd (boxF f32 (natOfBytes bs)))
    | .stop r => r) s
/-- FLD. -/
def execFld (c : CoreId) (o : OpFI) (s : State) : Outcome State Fault Refusal :=
  runInstr c (encFI 1 o) false .memory (fun s =>
    match loadBytes s c (fpAddr s c o.rs1 o.immHi) 8 with
    | .ok t bs => .done (t.modCore c fun k => k.setF o.rd (BitVec.ofNat 64 (natOfBytes bs)))
    | .stop r => r) s
/-- FSW. -/
def execFsw (c : CoreId) (o : OpFS) (s : State) : Outcome State Fault Refusal :=
  runInstr c (encFS 0 o) false .memory (fun s =>
    storeBytes s c (fpAddr s c o.rs1 o.immHi) (bytesOfNat 4 ((s.core c).getF o.rs2).toNat)) s
/-- FSD. -/
def execFsd (c : CoreId) (o : OpFS) (s : State) : Outcome State Fault Refusal :=
  runInstr c (encFS 1 o) false .memory (fun s =>
    storeBytes s c (fpAddr s c o.rs1 o.immHi) (bytesOfNat 8 ((s.core c).getF o.rs2).toNat)) s

end Sys2Proof.Machine
end

