-- ==== Sys2Proof/Machine/VecBase.lean ====
section
/-! DEFINITION. What vector, update and tile instructions share: engine modes, flags and counters (R54, R55, R77 to R79), the checks of
registers and residues (R80, R81, R117, R119), and elements, beats, progress and resume (R120, R121, R125, R131). -/
namespace Sys2Proof.Machine
open Host

/-! ### Engines -/

/-- The engines of a core (R54). -/
inductive Eng where
  | vec | tile | upd
  deriving DecidableEq, Repr

/-- The modes an engine's instruction takes at issue (R55, Table 3.7). -/
def engMode (s : State) (c : CoreId) (g : Eng) : NMode :=
  match g with
  | .vec => ⟨s.test (NUM_MODE c) fldNUM_MODE_VEC_FTZ, s.test (NUM_MODE c) fldNUM_MODE_VEC_SAT,
      s.test (NUM_MODE c) fldNUM_MODE_VEC_SCSEL⟩
  | .tile => ⟨s.test (NUM_MODE c) fldNUM_MODE_TILE_FTZ, s.test (NUM_MODE c) fldNUM_MODE_TILE_SAT,
      s.test (NUM_MODE c) fldNUM_MODE_TILE_SCSEL⟩
  | .upd => ⟨s.test (NUM_MODE c) fldNUM_MODE_UPD_FTZ, s.test (NUM_MODE c) fldNUM_MODE_UPD_SAT, false⟩

/-- The flags of several elements, and the elements counted (R78). -/
structure Tally where
  fl : Fl := {}
  sat : Nat := 0
  flush : Nat := 0
  deriving DecidableEq, Repr

/-- One element's flags added: it counts at most once in each counter. -/
def Tally.add (t : Tally) (f : Fl) : Tally := ⟨t.fl.or f, t.sat + flag f.sat, t.flush + flag f.flush⟩

/-- The tally of a list of elements. -/
def Tally.ofList (l : List Fl) : Tally := l.foldl Tally.add {}

/-- An engine's flag field (Table 3.8). -/
def flagBits (f : Fl) : Nat := 16 * flag f.fz + 8 * flag f.nv + 4 * flag f.ov + 2 * flag f.uf + flag f.nx

/-- Flags set and counters advanced (R77, R78). -/
def commitFlags (s : State) (c : CoreId) (g : Eng) (bits sat flush : Nat) : State :=
  let fld := match g with
    | .vec => fldNUM_FLAGS_VEC
    | .tile => fldNUM_FLAGS_TILE
    | .upd => fldNUM_FLAGS_UPD
  let s := s.setFld (NUM_FLAGS c) fld (s.fld (NUM_FLAGS c) fld ||| bits)
  match g with
    | .vec => countSat (countSat s (NUM_VEC_SAT c) fldNUM_VEC_SAT_COUNT sat) (NUM_VEC_FLUSH c) fldNUM_VEC_FLUSH_COUNT flush
    | .tile => countSat (countSat s (NUM_TILE_SAT c) fldNUM_TILE_SAT_COUNT sat) (NUM_TILE_FLUSH c) fldNUM_TILE_FLUSH_COUNT flush
    | .upd => countSat (countSat s (NUM_UPD_SAT c) fldNUM_UPD_SAT_COUNT sat) (NUM_UPD_FLUSH c) fldNUM_UPD_FLUSH_COUNT flush

/-- An NV reported to the ring logic (R79). -/
def commitNV (s : State) (c : CoreId) (nv : Bool) : State := if nv then reportNV s (coreSub s c) else s

/-- Flags set, counters advanced, and NV reported to the ring logic (R77 to R79). -/
def commitBits (s : State) (c : CoreId) (g : Eng) (bits sat flush : Nat) : State := commitNV (commitFlags s c g bits sat flush) c (bitOf bits 3)

/-- A tally recorded. -/
def commitTally (s : State) (c : CoreId) (g : Eng) (t : Tally) : State := commitBits s c g (flagBits t.fl) t.sat t.flush

/-! ### Checks (R80, R81, R117, R119, Table 16.6) -/

/-- A word of a tile, vector or mask register read by an instruction. Where it is uncorrectable, or Windthrow makes it so, the ring is
doomed, and the SEQ of the record and the address it shows are answered; a register word has no address, so that one is a free value. -/
def regWord (s : State) (c : CoreId) (w : RegWord) : State × Option (Nat × Nat) :=
  let real := (s.core c).bad.contains w
  let tgt := s.fld (WT_POINT 3) fldWT_POINT_TARGET
  let param := s.fld (WT_POINT 3) fldWT_POINT_PARAM
  let elig := decide (param ≤ 1) && (tgt % 16 == 15 || tgt % 16 == 1) && (tgt / 16 % 256 == 0xFF || tgt / 16 % 256 == c.val)
  let (s, inj) := wtEvent s 3 elig real
  match (if real then some 0 else inj) with
  | none => (s, none)
  | some d =>
    let (a, s) := s.free
    let a := a % 2 ^ 64
    if param = 0 ∧ real = false then (logFault s { mkRec 1 0 0 c with phys := physOf s c, flags := 1, sub := d % 72, addr := a }, none)
    else
      let ring := runningRing s
      let seq := s.flt.nextSeq
      let s := logFault s { mkRec 2 2 0 c with
        phys := physOf s c, flags := flag (!real) + (if ring = 0 then 0 else 2), addr := a, ring := ring, arg := 1 }
      (doomRunning s 5 {}, some (seq, a))

/-- Register words read in turn: the index, SEQ and address of the first that is uncorrectable. -/
def regWords (c : CoreId) : Nat → List RegWord → State → State × Option (Nat × Nat × Nat)
  | _, [], s => (s, none)
  | i, w :: ws, s =>
    match regWord s c w with
    | (s, some (seq, a)) => (s, some (i, seq, a))
    | (s, none) => regWords c (i + 1) ws s

/-- Register words read: the index, from `i` up, SEQ and address of the first that is uncorrectable. No word need be looked at where none
is and Windthrow does not act. -/
def regReads (s : State) (c : CoreId) (i : Nat) (ws : List RegWord) : State × Option (Nat × Nat × Nat) :=
  if wtArmed s 3 || !(s.core c).bad.isEmpty then regWords c i ws s else (s, none)

/-- Whether a residue check of a core can fail at all. -/
def resArmed (s : State) (c : CoreId) : Bool := wtArmed s 4 || !(s.core c).badRes.isEmpty

/-- An array leaves service on a core, which goes on with the pair of arrays that has none out of service (R116). -/
def arrayOut (s : State) (c : CoreId) (a : Nat) : State :=
  let out := s.fld (TILE_CFG c) fldTILE_CFG_OUT ||| 2 ^ a
  let s := s.setFld (TILE_CFG c) fldTILE_CFG_OUT out
  let rest := if a < 2 then 2 else 0
  if out / 2 ^ rest % 4 = 0 then s.setFld (TILE_CFG c) fldTILE_CFG_ACTIVE (3 * 2 ^ rest) else s

/-- A residue check of a vector or update lane, or of an array column: the SEQ of the record of a mismatch, which counts and dooms the
ring, and takes the array out of service where it is real (R81, R116). -/
def residueCheck (s : State) (c : CoreId) (lane : Bool) (array unit : Nat) (w : IWord) (pc : Word) : State × Option Nat :=
  let real := (s.core c).badRes.contains (lane, array, unit)
  let tgt := s.fld (WT_POINT 4) fldWT_POINT_TARGET
  let elig := s.fld (WT_POINT 4) fldWT_POINT_PARAM == 0 && (tgt % 64 == 63 || tgt % 64 == c.val) && bitOf tgt 6 == lane &&
    (lane || bitsOf tgt 8 7 == array) && bitsOf tgt 15 9 == unit
  let (s, inj) := wtEvent s 4 elig real
  if real = false ∧ inj = none then (s, none)
  else
    let s := count s (NUM_RESIDUE c) 1
    let s := if real then
        let s := s.modCore c fun k => { k with badRes := k.badRes.erase (lane, array, unit) }
        if lane then s else retire (arrayOut s c array) 10 (physOf s c) (array * 65 + unit)
      else s
    let ring := runningRing s
    let seq := s.flt.nextSeq
    let s := logFault s { mkRec 7 2 0 c with
      phys := physOf s c, flags := flag (!real) + (if ring = 0 then 0 else 2), sub := if lane then 0x10000 + unit else unit + 256 * array,
      addr := pc.toNat, ring := ring, arg := w.toNat }
    (doomRunning s 4 {}, some seq)

/-! ### Elements (R120, R121) -/

/-- Element `e` of width `w`. -/
def elemV (v : BitVec 8192) (w e : Nat) : Nat := (v.toNat >>> (w * e)) % 2 ^ w

/-- Element `e` of width `w` replaced. -/
def setElem (v : BitVec 8192) (w e x : Nat) : BitVec 8192 :=
  let m : BitVec 8192 := BitVec.ofNat 8192 ((2 ^ w - 1) <<< (w * e))
  (v &&& ~~~ m) ||| BitVec.ofNat 8192 ((x % 2 ^ w) <<< (w * e))

/-- Element `e` of a vector register replaced. -/
def CoreSt.putElem (k : CoreSt) (r : BitVec 5) (w e x : Nat) : CoreSt :=
  { k.heal (· == .vec r (w * e / 64)) with v := k.v.set r.toFin (setElem (k.getV r) w e x) }

/-- Bit `e` of a mask register replaced. -/
def CoreSt.putMask (k : CoreSt) (r : BitVec 3) (e : Nat) (b : Bool) : CoreSt :=
  let m : BitVec 1024 := BitVec.ofNat 1024 (2 ^ e)
  { k.heal (· == .mask r (e / 64)) with m := k.m.set r.toFin (if b then k.getM r ||| m else k.getM r &&& ~~~ m) }

/-- The number of elements an instruction acts on: `n` of R121. -/
def vecN (s : State) (c : CoreId) (g : Nat) : Nat := min (s.fld (VEC_VL c) fldVEC_VL_VL) (8192 / g)

/-- Whether an element is active. -/
def activeAt (m : BitVec 1024) (men : Bool) (e : Nat) : Bool := !men || bitOf m.toNat e

/-! ### Beats, progress and resume (R125, R131) -/

/-- Why an instruction stops at an element: the element, the vector, the fault address and the SEQ of a record. -/
structure VStop where
  e : Nat
  vector : Nat
  faddr : Nat
  seq : Option Nat
  deriving DecidableEq, Repr

/-- What an instruction has done so far: the core's registers, its lanes, its tally, the beats started, why it stopped, and whether an
access must wait. -/
structure VAcc where
  k : CoreSt
  lanes : List Word
  tally : Tally := {}
  beats : Nat := 0
  stop : Option VStop := none
  wait : Bool := false
  deriving DecidableEq, Repr

/-- A vector or a mask register. -/
inductive VReg where
  | v (r : BitVec 5)
  | m (r : BitVec 3)
  deriving DecidableEq, Repr

/-- Word `i` of a vector or mask register. -/
def VReg.word : VReg → Nat → RegWord
  | .v r, i => .vec r i
  | .m r, i => .mask r i

/-- What is fixed for an instruction: its engine, governing width, arithmetic-pipe cycles per beat (0 for the load and store pipes),
the registers it reads, each with the width of its elements (1 for a mask), whether a lane checks its results, and whether its elements draw. -/
structure VSpec where
  eng : Eng := .vec
  g : Nat
  busy : Nat := 1
  srcs : List (VReg × Nat) := []
  /-- Words of vector registers it reads beside the elements of its sources, as a register, a first word and a number of words. -/
  extra : List (BitVec 5 × Nat × Nat) := []
  check : Bool := false
  draws : Bool := false
  /-- Whether it is a whole instruction, or VSETVL (Table 5.3). -/
  whole : Bool := false
  /-- Whether nothing after it may issue before it retires (R126). -/
  block : Bool := false
  deriving DecidableEq, Repr

/-- The sources of an instruction with its mask among them. -/
def VSpec.withMask (x : VSpec) (men : Bool) (km : BitVec 3) : VSpec := if men then { x with srcs := (.m km, 1) :: x.srcs } else x

/-- The registers read for elements `lo` to `hi - 1`: the first element of a word that is uncorrectable. -/
def readSources (x : VSpec) (c : CoreId) (lo hi : Nat) (s : State) : State × Option VStop :=
  x.srcs.foldl (fun p r =>
    match p.2 with
    | some _ => p
    | none =>
      let i := lo * r.2 / 64
      match regReads p.1 c i ((upFrom i ((hi * r.2 + 63) / 64 - i)).map r.1.word) with
      | (s, some (j, seq, a)) => (s, some ⟨max lo (j * 64 / r.2), 1, a, some seq⟩)
      | (s, none) => (s, none)) (s, none)

/-- One active element of an arithmetic instruction: its check, its draw, its result. An instruction makes one check for each active
element, however many results it has: the spec does not number them (R80; DESIGN CHOICE, assumption 97). -/
def vecElem (x : VSpec) (c : CoreId) (w : IWord) (pc : Word) (f : Nat → Nat → CoreSt → CoreSt × Fl) (p : State × VAcc) (e : Nat) :
    State × VAcc :=
  if p.2.stop.isSome then p
  else
    match (if x.check && resArmed p.1 c then residueCheck p.1 c true 0 (e % 32) w pc else (p.1, none)) with
    | (s, some seq) => (s, { p.2 with stop := some ⟨e, 1, pc.toNat, some seq⟩ })
    | (s, none) =>
      let (r, ls) := if x.draws then drawLane p.2.lanes e else (0, p.2.lanes)
      let (k, fl) := f r e p.2.k
      (s, { p.2 with k := k, lanes := ls, tally := p.2.tally.add fl })

/-- A beat of an arithmetic instruction: its registers are read, then its active elements are computed in ascending order. -/
def arithBeat (x : VSpec) (c : CoreId) (w : IWord) (pc : Word) (f : Nat → Nat → CoreSt → CoreSt × Fl) (lo hi : Nat) (act : List Nat)
    (p : State × VAcc) : State × VAcc :=
  let (s, bad) := readSources x c lo hi p.1
  let (s, a) := (match bad with
    | some b => act.filter fun e => decide (e < b.e)
    | none => act).foldl (vecElem x c w pc f) (s, p.2)
  (s, if a.stop.isSome then a else { a with stop := bad })

/-- Whether an interrupt or a stop waits for an instruction to reach a beat boundary (R45, R131). -/
def cutDue (s : State) (c : CoreId) : Bool :=
  (s.test (CORE_STATUS c) fldCORE_STATUS_IE && !qwOpen s c && enabledPending s c != 0) || (s.core c).stopReq != 0

/-- An instruction joins the unretired ones until its last result is available: `s` is the state before it, `t` what it leaves, `done`
the VPROG.DONE that an interrupt taken at it saves. NV is reported at once of a resumable one that is the oldest, and otherwise as it
retires, since it may yet be undone (R79, R133). -/
def vecQueue (x : VSpec) (c : CoreId) (done : Nat) (nv : Bool) (s t : State) : State :=
  let at_ := if x.whole then s else t
  let k := at_.core c
  let now := (s.core c).vecQ.isEmpty && !x.whole
  let op : VecOp := { pc := (s.core c).pc, whole := x.whole, block := x.block || x.whole, done := done,
                      nv := if nv && !now then some (coreSub t c) else none, x := k.x, f := k.f, v := k.v, m := k.m, mbuf := k.mbuf,
                      words := (vecWordAt c).map fun a => (a, at_.reg a), lanes := if x.draws then some (lanesOf s c) else none,
                      undo := [] }
  (commitNV t c (nv && now)).modCore c fun k => { k with vecQ := k.vecQ ++ [op] }

/-- An instruction completes: VPROG becomes 0, and it stays unretired. -/
def vecDone (x : VSpec) (c : CoreId) (done : Nat) (nv : Bool) (s t : State) : State :=
  vecQueue x c done nv s (t.setReg (VEC_VPROG c) 0)

/-- An instruction with `n = 0`: no effect (R121). -/
def vecNone (x : VSpec) (c : CoreId) (s : State) : State := vecQueue x c (s.fld (VEC_VPROG c) fldVEC_VPROG_DONE) false s s

/-- What an instruction's elements have done, carried out: registers, generators, flags and counters. -/
def vecCommit (x : VSpec) (c : CoreId) (p : State × VAcc) : State :=
  let a := p.2
  let s := p.1.modCore c fun k => { k with x := a.k.x, f := a.k.f, v := a.k.v, m := a.k.m, bad := a.k.bad }
  let s := if x.draws then setLanes s c a.lanes else s
  let s := commitFlags s c x.eng (flagBits a.tally.fl) a.tally.sat a.tally.flush
  if x.busy = 0 then s else count s (VEC_BUSY c) (a.beats * x.busy)

/-- The generators after a beat that has drawn: in free-running mode every lane has advanced once for each cycle in which one of them
gave a draw, and those cycles are as many as the most draws of one lane (R142). -/
def beatLanes (s : State) (c : CoreId) (before after : List Word) (drawn : List Nat) : List Word :=
  if s.test (VEC_RNG c) fldVEC_RNG_MODE then after
  else
    let n := (upFrom 0 32).foldl (fun n l => max n (drawn.countP fun e => e % 32 == l)) 0
    before.zipIdx.map fun e => Nat.repeat (rngNext e.2) n e.1

/-- The beats of a resumable instruction: element VPROG.DONE is the first; it ends at `n`, at a stop, or at the beat boundary `cut`
where an interrupt or a stop of the core is due there (R131). -/
def vecRun (x : VSpec) (c : CoreId) (n : Nat) (men : Bool) (km : BitVec 3) (cut : Option (Fin 8))
    (beat : Nat → Nat → List Nat → State × VAcc → State × VAcc) (last : State → State) (s : State) : IRes :=
  let start := s.fld (VEC_VPROG c) fldVEC_VPROG_DONE
  let epb := 1024 / x.g
  let upto := match cut with
    | some b => if cutDue s c ∧ (s.core c).vecQ.isEmpty then min n (b.val * epb) else n
    | none => n
  let t := if start = 0 then s else count s (VEC_RESUME c) 1
  if n = 0 then .done (vecNone x c s)
  else if n ≤ start then .done (vecDone x c start false s t)
  else if upto ≤ start ∧ upto < n then .wait
  else
    let m := (s.core c).getM km
    let beats := upFrom (start / epb) ((upto + epb - 1) / epb - start / epb)
    let p := beats.foldl (fun p b =>
      if p.2.stop.isSome || p.2.wait then p
      else
        let lo := max start (b * epb)
        let hi := min upto ((b + 1) * epb)
        let act := (upFrom lo (hi - lo)).filter (activeAt m men)
        let q := beat lo hi act (p.1, { p.2 with beats := p.2.beats + 1 })
        if x.draws then (q.1, { q.2 with lanes := beatLanes t c p.2.lanes q.2.lanes (act.filter fun e => q.2.stop.all fun z => decide (e < z.e)) })
        else q) (t, ({ k := s.core c, lanes := lanesOf s c } : VAcc))
    if p.2.wait then .wait
    else
      let t := vecCommit x c p
      let nv := p.2.tally.fl.nv
      match p.2.stop with
      | some z => .trap (commitNV (t.setFld (VEC_VPROG c) fldVEC_VPROG_DONE z.e) c nv) z.vector z.faddr z.seq (s.core c).pc
      | none =>
        if upto < n then .halt (commitNV (t.setFld (VEC_VPROG c) fldVEC_VPROG_DONE upto) c nv)
        else .done (vecDone x c ((n + epb - 1) / epb * epb) nv s (last t))

/-- Whether a whole instruction is cut short: an interrupt or a stop is due, and no vector instruction before it is unretired. -/
def wholeCut (s : State) (c : CoreId) (cut : Option (Fin 8)) : Bool := cut.isSome && cutDue s c && (s.core c).vecQ.isEmpty

/-- A whole instruction: its registers are read and checked, and it writes its destination only when it completes; cut short, it has
done nothing (R131). It ignores VPROG, and one that starts with VPROG.DONE nonzero does not count in VEC_RESUME (DESIGN CHOICE,
assumption 95). -/
def vecWhole (x : VSpec) (c : CoreId) (w : IWord) (n : Nat) (men : Bool) (km : BitVec 3) (cut : Option (Fin 8))
    (f : List Nat → CoreSt → CoreSt × Tally) (s : State) : IRes :=
  let epb := 1024 / x.g
  let pc := (s.core c).pc
  let act := (upFrom 0 n).filter (activeAt ((s.core c).getM km) men)
  let x := { x with whole := true }
  if n = 0 then .done (vecNone x c s)
  else if wholeCut s c cut then .wait
  else
    let (t, bad) := readSources x c 0 n s
    let (t, bad) := x.extra.foldl (fun q w =>
      match q.2 with
      | some _ => q
      | none =>
        match regReads q.1 c w.2.1 ((upFrom w.2.1 w.2.2).map fun i => .vec w.1 i) with
        | (t, some (_, seq, a)) => (t, some (VStop.mk 0 1 a (some seq)))
        | (t, none) => (t, none)) (t, bad)
    let p : State × VAcc := (t, { k := s.core c, lanes := lanesOf s c, stop := bad })
    let p := if x.check && resArmed s c then act.foldl (vecElem x c w pc fun _ _ k => (k, {})) p else p
    match p.2.stop with
    | some z => .trap (p.1.setReg (VEC_VPROG c) 0) z.vector z.faddr z.seq pc
    | none =>
      let (k, tl) := f act (s.core c)
      let t := vecCommit x c (p.1, { p.2 with k := k, tally := tl, beats := (n + epb - 1) / epb })
      .done (vecDone x c 0 tl.fl.nv s t)

/-- Width of the elements that W names for integer and memory instructions (R123). -/
def wBits (w : BitVec 2) : Nat := 8 * 2 ^ w.toNat

/-- Format that W names for floating instructions (R123). -/
def wFmt (w : BitVec 2) : Fmt := if w = 0 then f32 else if w = 1 then bf16 else f16

/-- A result of a reduction in a floating register: bits [63:32] all ones. -/
def boxF32 (v : Nat) : Word := BitVec.ofNat 64 (v % 2 ^ 32 + (2 ^ 64 - 2 ^ 32))

end Sys2Proof.Machine
end

