-- ==== Sys2Proof/Machine/VecInt.lean ====
section
/-! DEFINITION. Integer vector instructions, compares, moves, masks, VSETVL and integer reductions (R122, R134, R135, R138, R139, Table
5.3). -/
namespace Sys2Proof.Machine
open Host

/-- An integer operation of two vectors, or of a vector and a scalar (opcode 0x31). -/
def intVec (c : CoreId) (fn : Nat) (o : OpV) (f : Nat → Nat → Nat → Nat) (s : State) : Outcome State Fault Refusal :=
  let w := encV 0x31 fn o
  runInstr c w false .vector (fun s =>
    if o.w = 3 then illegal s c
    else
      let b := wBits o.w
      let sc := ((s.core c).getX o.vs2).toNat % 2 ^ b
      let x := ({ g := b, srcs := (.v o.vs1, b) :: (if o.s then [] else [(.v o.vs2, b)]), check := true } : VSpec).withMask o.men o.km
      vecRun x c (vecN s c b) o.men o.km o.cut (arithBeat x c w (s.core c).pc fun _ e k =>
        (k.putElem o.vd b e (f b (elemV (k.getV o.vs1) b e) (if o.s then sc else elemV (k.getV o.vs2) b e)), {})) id s) s

/-- The larger of two signed values of width `w`. -/
def maxS (w a b : Nat) : Nat := if signedOf w a < signedOf w b then b else a
/-- The smaller of two signed values of width `w`. -/
def minS (w a b : Nat) : Nat := if signedOf w b < signedOf w a then b else a

/-- VADD. -/
def execVadd (c : CoreId) (o : OpV) (s : State) : Outcome State Fault Refusal := intVec c 0 o (fun _ a b => a + b) s
/-- VSUB. -/
def execVsub (c : CoreId) (o : OpV) (s : State) : Outcome State Fault Refusal := intVec c 1 o (fun w a b => a + 2 ^ w - b) s
/-- VMUL. -/
def execVmul (c : CoreId) (o : OpV) (s : State) : Outcome State Fault Refusal := intVec c 2 o (fun _ a b => a * b) s
/-- VMULHU. -/
def execVmulhu (c : CoreId) (o : OpV) (s : State) : Outcome State Fault Refusal := intVec c 3 o (fun w a b => a * b / 2 ^ w) s
/-- VAND. -/
def execVand (c : CoreId) (o : OpV) (s : State) : Outcome State Fault Refusal := intVec c 4 o (fun _ a b => a &&& b) s
/-- VOR. -/
def execVor (c : CoreId) (o : OpV) (s : State) : Outcome State Fault Refusal := intVec c 5 o (fun _ a b => a ||| b) s
/-- VXOR. -/
def execVxor (c : CoreId) (o : OpV) (s : State) : Outcome State Fault Refusal := intVec c 6 o (fun _ a b => a ^^^ b) s
/-- VSLL. -/
def execVsll (c : CoreId) (o : OpV) (s : State) : Outcome State Fault Refusal := intVec c 7 o (fun w a b => a <<< (b % w)) s
/-- VSRL. -/
def execVsrl (c : CoreId) (o : OpV) (s : State) : Outcome State Fault Refusal := intVec c 8 o (fun w a b => a >>> (b % w)) s
/-- VSRA. -/
def execVsra (c : CoreId) (o : OpV) (s : State) : Outcome State Fault Refusal := intVec c 9 o (fun w a b => wrapInt w (signedOf w a / 2 ^ (b % w))) s
/-- VMIN. -/
def execVmin (c : CoreId) (o : OpV) (s : State) : Outcome State Fault Refusal := intVec c 10 o (fun w a b => minS w a b) s
/-- VMAX. -/
def execVmax (c : CoreId) (o : OpV) (s : State) : Outcome State Fault Refusal := intVec c 11 o (fun w a b => maxS w a b) s
/-- VMINU. -/
def execVminu (c : CoreId) (o : OpV) (s : State) : Outcome State Fault Refusal := intVec c 12 o (fun _ a b => min a b) s
/-- VMAXU. -/
def execVmaxu (c : CoreId) (o : OpV) (s : State) : Outcome State Fault Refusal := intVec c 13 o (fun _ a b => max a b) s
/-- VABSDU. -/
def execVabsdu (c : CoreId) (o : OpV) (s : State) : Outcome State Fault Refusal := intVec c 14 o (fun _ a b => if a < b then b - a else a - b) s

/-! ### Opcode 0x35 -/

/-- Whether an instruction without a mask names one (R123). -/
def masked (o : OpV) : Bool := o.men || o.km != 0

/-- Whether an instruction without a second operand names one (R123). -/
def noSrc2 (o : OpV) : Bool := o.vs2 != 0 || o.s

/-- VSETVL (R122). -/
def execVsetvl (c : CoreId) (o : OpV) (s : State) : Outcome State Fault Refusal :=
  runInstr c (encV 0x35 0 o) false .vector (fun s =>
    if o.w = 3 ∨ masked o ∨ noSrc2 o then illegal s c
    else if wholeCut s c o.cut then .wait
    else
      let vl := min ((s.core c).getX o.vs1).toNat (8192 / wBits o.w)
      let t := (s.setReg (VEC_VL c) (BitVec.ofNat 64 vl)).modCore c fun k => k.setX o.vd (BitVec.ofNat 64 vl)
      .done (vecDone { g := 0, whole := true } c 0 false s (count t (VEC_BUSY c) 1))) s

/-- A resumable instruction of opcode 0x35 whose element results no lane checks. -/
def miscVec (c : CoreId) (fn : Nat) (o : OpV) (bad : Bool) (srcs : List (VReg × Nat)) (f : State → Nat → CoreSt → CoreSt) (s : State) :
    Outcome State Fault Refusal :=
  let w := encV 0x35 fn o
  runInstr c w false .vector (fun s =>
    if o.w = 3 ∨ bad then illegal s c
    else
      let b := wBits o.w
      let x := ({ g := b, srcs := srcs } : VSpec).withMask o.men o.km
      vecRun x c (vecN s c b) o.men o.km o.cut (arithBeat x c w (s.core c).pc fun _ e k => (f s e k, {})) id s) s

/-- VMV. -/
def execVmv (c : CoreId) (o : OpV) (s : State) : Outcome State Fault Refusal :=
  miscVec c 1 o (noSrc2 o) [(.v o.vs1, wBits o.w)] (fun _ e k => k.putElem o.vd (wBits o.w) e (elemV (k.getV o.vs1) (wBits o.w) e)) s

/-- VSPLAT: of x[VS2], or of f[VS2] with S. -/
def execVsplat (c : CoreId) (o : OpV) (s : State) : Outcome State Fault Refusal :=
  miscVec c 2 o (o.vs1 != 0) [] (fun s e k =>
    k.putElem o.vd (wBits o.w) e (if o.s then (s.core c).getF o.vs2 else (s.core c).getX o.vs2).toNat) s

/-- An integer compare into a mask register. -/
def cmpVec (c : CoreId) (fn : Nat) (o : OpV) (p : Nat → Nat → Nat → Bool) (s : State) : Outcome State Fault Refusal :=
  let b := wBits o.w
  miscVec c fn o (8 ≤ o.vd.toNat) ((.v o.vs1, b) :: (if o.s then [] else [(.v o.vs2, b)])) (fun s e k =>
    k.putMask (o.vd.setWidth 3) e (p b (elemV (k.getV o.vs1) b e)
      (if o.s then ((s.core c).getX o.vs2).toNat % 2 ^ b else elemV (k.getV o.vs2) b e))) s

/-- VCEQ. -/
def execVceq (c : CoreId) (o : OpV) (s : State) : Outcome State Fault Refusal := cmpVec c 3 o (fun _ a b => a == b) s
/-- VCLT. -/
def execVclt (c : CoreId) (o : OpV) (s : State) : Outcome State Fault Refusal :=
  cmpVec c 4 o (fun w a b => decide (signedOf w a < signedOf w b)) s
/-- VCLTU. -/
def execVcltu (c : CoreId) (o : OpV) (s : State) : Outcome State Fault Refusal := cmpVec c 5 o (fun _ a b => decide (a < b)) s

/-- An operation of two mask registers. -/
def maskVec (c : CoreId) (fn : Nat) (o : OpV) (p : Bool → Bool → Bool) (s : State) : Outcome State Fault Refusal :=
  miscVec c fn o (masked o || o.s || decide (8 ≤ o.vd.toNat) || decide (8 ≤ o.vs1.toNat) || decide (8 ≤ o.vs2.toNat))
    [(.m (o.vs1.setWidth 3), 1), (.m (o.vs2.setWidth 3), 1)] (fun _ e k =>
    k.putMask (o.vd.setWidth 3) e (p (bitOf (k.getM (o.vs1.setWidth 3)).toNat e) (bitOf (k.getM (o.vs2.setWidth 3)).toNat e))) s

/-- VMAND. -/
def execVmand (c : CoreId) (o : OpV) (s : State) : Outcome State Fault Refusal := maskVec c 6 o (fun a b => a && b) s
/-- VMOR. -/
def execVmor (c : CoreId) (o : OpV) (s : State) : Outcome State Fault Refusal := maskVec c 7 o (fun a b => a || b) s
/-- VMXOR. -/
def execVmxor (c : CoreId) (o : OpV) (s : State) : Outcome State Fault Refusal := maskVec c 8 o (fun a b => a != b) s
/-- VMANDN: m(VS1) and not m(VS2). -/
def execVmandn (c : CoreId) (o : OpV) (s : State) : Outcome State Fault Refusal := maskVec c 9 o (fun a b => a && !b) s

/-- A whole instruction of opcodes 0x34 and 0x35 that writes an integer register. -/
def wholeX (c : CoreId) (w : IWord) (o : OpV) (bad : Bool) (x : VSpec) (f : Nat → List Nat → CoreSt → Word) (s : State) :
    Outcome State Fault Refusal :=
  runInstr c w false .vector (fun s =>
    if o.w = 3 ∨ bad then illegal s c
    else
      let n := vecN s c x.g
      vecWhole (x.withMask o.men o.km) c w n o.men o.km o.cut (fun act k => (k.setX o.vd (f n act k), {})) s) s

/-- VMPOP: the set bits below n. -/
def execVmpop (c : CoreId) (o : OpV) (s : State) : Outcome State Fault Refusal :=
  wholeX c (encV 0x35 10 o) o (masked o || noSrc2 o || decide (8 ≤ o.vs1.toNat)) { g := wBits o.w, srcs := [(.m (o.vs1.setWidth 3), 1)] }
    (fun n _ k => BitVec.ofNat 64 (((upFrom 0 n).filter fun e => bitOf (k.getM (o.vs1.setWidth 3)).toNat e).length)) s

/-- VMFIRST: the lowest set bit, or n if none. -/
def execVmfirst (c : CoreId) (o : OpV) (s : State) : Outcome State Fault Refusal :=
  wholeX c (encV 0x35 11 o) o (masked o || noSrc2 o || decide (8 ≤ o.vs1.toNat)) { g := wBits o.w, srcs := [(.m (o.vs1.setWidth 3), 1)] }
    (fun n _ k => BitVec.ofNat 64 (((upFrom 0 n).find? fun e => bitOf (k.getM (o.vs1.setWidth 3)).toNat e).getD n)) s

/-! ### Reductions (R138, R139) -/

/-- A signed reduction: 0 where no element is active. -/
def redVec (c : CoreId) (fn : Nat) (o : OpV) (f : Int → Int → Int) (s : State) : Outcome State Fault Refusal :=
  wholeX c (encV 0x34 fn o) o (noSrc2 o) { g := wBits o.w, srcs := [(.v o.vs1, wBits o.w)], check := true }
    (fun _ act k =>
      match act.map fun e => signedOf (wBits o.w) (elemV (k.getV o.vs1) (wBits o.w) e) with
      | [] => 0
      | i :: is => BitVec.ofInt 64 (is.foldl f i)) s

/-- VREDSUM. -/
def execVredsum (c : CoreId) (o : OpV) (s : State) : Outcome State Fault Refusal := redVec c 0 o (fun a b => a + b) s
/-- VREDMAX. -/
def execVredmax (c : CoreId) (o : OpV) (s : State) : Outcome State Fault Refusal := redVec c 1 o (fun a b => if a < b then b else a) s
/-- VREDMIN. -/
def execVredmin (c : CoreId) (o : OpV) (s : State) : Outcome State Fault Refusal := redVec c 2 o (fun a b => if b < a then b else a) s

/-- The sum of absolute differences for one 32-bit destination element: the elements of width `w` within it. -/
def sadOf (signed : Bool) (w a b : Nat) : Nat :=
  ((upFrom 0 (32 / w)).map fun i =>
    let x := (a >>> (w * i)) % 2 ^ w
    let y := (b >>> (w * i)) % 2 ^ w
    if signed then (signedOf w x - signedOf w y).natAbs else if x < y then y - x else x - y).foldl (· + ·) 0

/-- VSAD: 32-bit destination elements; a saturated sum differs from its exact value (R68, R139). -/
def execVsad (c : CoreId) (o : OpV) (s : State) : Outcome State Fault Refusal :=
  let w := encV 0x34 7 o
  runInstr c w false .vector (fun s =>
    if 2 ≤ o.w.toNat ∨ o.vd = o.vs1 ∨ o.vd = o.vs2 then illegal s c
    else
      let x := ({ g := 32, srcs := [(.v o.vs1, 32), (.v o.vs2, 32), (.v o.vd, 32)], check := true } : VSpec).withMask o.men o.km
      vecRun x c (vecN s c 32) o.men o.km o.cut (arithBeat x c w (s.core c).pc fun _ e k =>
        let t := elemV (k.getV o.vd) 32 e + sadOf o.s (wBits o.w) (elemV (k.getV o.vs1) 32 e) (elemV (k.getV o.vs2) 32 e)
        if 2 ^ 32 ≤ t then (k.putElem o.vd 32 e (2 ^ 32 - 1), { ov := true, nx := true, sat := true }) else (k.putElem o.vd 32 e t, {})) id s) s

end Sys2Proof.Machine
end

