-- ==== Sys2Proof/Machine/VecFloat.lean ====
section
/-! DEFINITION. Floating vector instructions, floating reductions and dot products (R134, R135, R137, R138, R140, Table 5.3). -/
namespace Sys2Proof.Machine
open Host

/-- A floating result of each active element into a vector register; a third argument of `f` is the destination's old element. -/
def fltVec (c : CoreId) (op fn : Nat) (o : OpV) (bad check : Bool) (busy : Nat) (srcs : Nat) (f : Fmt → Bool → Nat → Nat → Nat → FRes)
    (s : State) : Outcome State Fault Refusal :=
  let w := encV op fn o
  runInstr c w false .vector (fun s =>
    if o.w = 3 ∨ bad then illegal s c
    else
      let fm := wFmt o.w
      let b := fm.width
      let sc := ((s.core c).getF o.vs2).toNat % 2 ^ b
      let md := engMode s c .vec
      let second := if 1 < srcs ∧ o.s = false then [(VReg.v o.vs2, b)] else []
      let third := if srcs = 3 then [(VReg.v o.vd, b)] else []
      let x := ({ g := b, busy := busy, check := check, srcs := (.v o.vs1, b) :: (second ++ third) } : VSpec).withMask o.men o.km
      vecRun x c (vecN s c b) o.men o.km o.cut (arithBeat x c w (s.core c).pc fun _ e k =>
        let r := f fm md.ftz (elemV (k.getV o.vd) b e) (elemV (k.getV o.vs1) b e) (if o.s then sc else elemV (k.getV o.vs2) b e)
        (k.putElem o.vd b e r.1, r.2)) id s) s

/-- A floating operation of two operands (opcode 0x32). -/
def flt2 (c : CoreId) (fn : Nat) (o : OpV) (check : Bool) (busy : Nat) (f : Fmt → Bool → Nat → Nat → FRes) (s : State) :
    Outcome State Fault Refusal := fltVec c 0x32 fn o false check busy 2 (fun fm z _ a b => f fm z a b) s

/-- A floating operation of one operand: VS2 and S are 0. -/
def flt1 (c : CoreId) (fn : Nat) (o : OpV) (check : Bool) (busy : Nat) (f : Fmt → Bool → Nat → FRes) (s : State) :
    Outcome State Fault Refusal := fltVec c 0x32 fn o (noSrc2 o) check busy 1 (fun fm z _ a _ => f fm z a) s

/-- An operation that changes the sign alone: a not-a-number gives the canonical one and NV (R57). -/
def engSign (g : Fmt → Nat → Nat) (f : Fmt) (ftz : Bool) (a : Nat) : FRes :=
  let (a, fa) := flushOp f ftz a
  if isNan f a then (f.nan, { fa with nv := true }) else (g f a, fa)

/-- VFADD. -/
def execVfadd (c : CoreId) (o : OpV) (s : State) : Outcome State Fault Refusal := flt2 c 0 o true 1 engAdd s
/-- VFSUB. -/
def execVfsub (c : CoreId) (o : OpV) (s : State) : Outcome State Fault Refusal := flt2 c 1 o true 1 engSub s
/-- VFMUL. -/
def execVfmul (c : CoreId) (o : OpV) (s : State) : Outcome State Fault Refusal := flt2 c 2 o true 1 engMul s
/-- VFDIV. -/
def execVfdiv (c : CoreId) (o : OpV) (s : State) : Outcome State Fault Refusal := flt2 c 3 o true 4 engDiv s
/-- VFSQRT. -/
def execVfsqrt (c : CoreId) (o : OpV) (s : State) : Outcome State Fault Refusal := flt1 c 4 o true 4 engSqrt s
/-- VFMAX. -/
def execVfmax (c : CoreId) (o : OpV) (s : State) : Outcome State Fault Refusal := flt2 c 5 o false 1 (fun f z a b => engMaxMin f z true a b) s
/-- VFMIN. -/
def execVfmin (c : CoreId) (o : OpV) (s : State) : Outcome State Fault Refusal := flt2 c 6 o false 1 (fun f z a b => engMaxMin f z false a b) s
/-- VFABS. -/
def execVfabs (c : CoreId) (o : OpV) (s : State) : Outcome State Fault Refusal :=
  flt1 c 7 o false 1 (engSign fun f a => a % 2 ^ (f.eb + f.fb)) s
/-- VFNEG. -/
def execVfneg (c : CoreId) (o : OpV) (s : State) : Outcome State Fault Refusal := flt1 c 8 o false 1 (engSign negate) s
/-- VFEXP. -/
def execVfexp (c : CoreId) (o : OpV) (s : State) : Outcome State Fault Refusal := flt1 c 9 o true 4 engExp s
/-- VFLOG. -/
def execVflog (c : CoreId) (o : OpV) (s : State) : Outcome State Fault Refusal := flt1 c 10 o true 4 engLog s
/-- VFRSQRT. -/
def execVfrsqrt (c : CoreId) (o : OpV) (s : State) : Outcome State Fault Refusal := flt1 c 11 o true 4 engRsqrt s
/-- VFRECIP. -/
def execVfrecip (c : CoreId) (o : OpV) (s : State) : Outcome State Fault Refusal := flt1 c 12 o true 4 engRecip s

/-- VFMA: vd + a × b, rounded once. -/
def execVfma (c : CoreId) (o : OpV) (s : State) : Outcome State Fault Refusal :=
  fltVec c 0x33 0 o false true 1 3 (fun f z d a b => engFma f z false false d a b) s
/-- VFMS: vd − a × b. -/
def execVfms (c : CoreId) (o : OpV) (s : State) : Outcome State Fault Refusal :=
  fltVec c 0x33 1 o false true 1 3 (fun f z d a b => engFma f z false true d a b) s
/-- VFNMA: a × b − vd. -/
def execVfnma (c : CoreId) (o : OpV) (s : State) : Outcome State Fault Refusal :=
  fltVec c 0x33 2 o false true 1 3 (fun f z d a b => engFma f z true false d a b) s

/-- A floating compare into a mask register; `quiet` says that a not-a-number sets nothing (R135). -/
def fltCmp (c : CoreId) (fn : Nat) (o : OpV) (quiet : Bool) (p : Ordering → Bool) (s : State) : Outcome State Fault Refusal :=
  let w := encV 0x32 fn o
  runInstr c w false .vector (fun s =>
    if o.w = 3 ∨ 8 ≤ o.vd.toNat then illegal s c
    else
      let fm := wFmt o.w
      let b := fm.width
      let sc := ((s.core c).getF o.vs2).toNat % 2 ^ b
      let z := (engMode s c .vec).ftz
      let x := ({ g := b, srcs := (.v o.vs1, b) :: (if o.s then [] else [(.v o.vs2, b)]) } : VSpec).withMask o.men o.km
      vecRun x c (vecN s c b) o.men o.km o.cut (arithBeat x c w (s.core c).pc fun _ e k =>
        let (a, fa) := flushOp fm z (elemV (k.getV o.vs1) b e)
        let (d, fd) := flushOp fm z (if o.s then sc else elemV (k.getV o.vs2) b e)
        let fl := fa.or fd
        match compareFV (unpack fm a) (unpack fm d) with
        | some r => (k.putMask (o.vd.setWidth 3) e (p r), fl)
        | none => (k.putMask (o.vd.setWidth 3) e false, { fl with nv := !quiet })) id s) s

/-- VFCEQ. -/
def execVfceq (c : CoreId) (o : OpV) (s : State) : Outcome State Fault Refusal := fltCmp c 13 o true (fun r => r == .eq) s
/-- VFCLT. -/
def execVfclt (c : CoreId) (o : OpV) (s : State) : Outcome State Fault Refusal := fltCmp c 14 o false (fun r => r == .lt) s
/-- VFCLE. -/
def execVfcle (c : CoreId) (o : OpV) (s : State) : Outcome State Fault Refusal := fltCmp c 15 o false (fun r => r != .gt) s

/-! ### Reductions and dot products -/

/-- A value of the pairwise order: the flags of the operations it came from, and those of the last one, which gave it. -/
structure PairVal where
  v : Nat
  inner : Fl := {}
  last : Fl := {}
  deriving DecidableEq, Repr

/-- One level of the pairwise order: an absent element gives way to its partner (R137). -/
def pairLevel (op : Nat → Nat → FRes) : List (Option PairVal) → List (Option PairVal)
  | some a :: some b :: l =>
    let r := op a.v b.v
    some ⟨r.1, (a.inner.or a.last.inner).or (b.inner.or b.last.inner), r.2⟩ :: pairLevel op l
  | some a :: none :: l => some a :: pairLevel op l
  | none :: y :: l => y :: pairLevel op l
  | l => l

/-- The levels of the pairwise order. -/
def pairTree (op : Nat → Nat → FRes) : Nat → List (Option PairVal) → Option PairVal
  | 0, l => l.head?.join
  | depth + 1, l => pairTree op depth (pairLevel op l)

/-- The pairwise reduction of `2 ^ depth` elements (R137): its value, the flags of the partial results, and those of the result. -/
def pairwise (op : Nat → Nat → FRes) (depth : Nat) (l : List (Option Nat)) : Option Nat × Fl × Fl :=
  match pairTree op depth (l.map fun x => x.map fun v => { v := v }) with
  | some p => (some p.v, p.inner, p.last)
  | none => (none, {}, {})

/-- A whole instruction that writes a floating register. -/
def wholeF (c : CoreId) (w : IWord) (o : OpV) (bad : Bool) (x : VSpec) (f : NMode → Nat → List Nat → CoreSt → Nat × Tally) (s : State) :
    Outcome State Fault Refusal :=
  runInstr c w false .vector (fun s =>
    if o.w = 3 ∨ bad then illegal s c
    else
      let md := engMode s c .vec
      let n := vecN s c x.g
      vecWhole (x.withMask o.men o.km) c w n o.men o.km o.cut (fun act k =>
        let r := f md n act k
        (k.setF o.vd (boxF32 r.1), r.2)) s) s

/-- A floating reduction: its operands are converted to FP32 and flushed, each flushed one counting once; the result counts once more
where a partial result was flushed (R78, R137). -/
def fltRed (c : CoreId) (fn : Nat) (o : OpV) (check : Bool) (op : Bool → Nat → Nat → FRes) (s : State) : Outcome State Fault Refusal :=
  let fm := wFmt o.w
  wholeF c (encV 0x34 fn o) o (noSrc2 o) { g := fm.width, srcs := [(.v o.vs1, fm.width)], check := check } (fun md _ act k =>
    let xs := (upFrom 0 (8192 / fm.width)).map fun e =>
      if act.contains e then
        let a := flushOp fm md.ftz (elemV (k.getV o.vs1) fm.width e)
        let r := if o.w = 0 then (a.1, ({} : Fl)) else engConvert fm f32 md a.1
        (some r.1, a.2.or r.2)
      else (none, ({} : Fl))
    let p := pairwise (op md.ftz) (if o.w = 0 then 8 else 9) (xs.map Prod.fst)
    let r := match p.1 with
      | some v => if isNan f32 v then (f32.nan, ({ nv := true } : Fl)) else (v, {})
      | none => (0, {})
    let t := Tally.ofList (xs.map Prod.snd)
    (r.1, t.add ((p.2.1.or p.2.2).or r.2))) s

/-- VFREDSUM. -/
def execVfredsum (c : CoreId) (o : OpV) (s : State) : Outcome State Fault Refusal := fltRed c 3 o true (fun z a b => engAdd f32 z a b) s
/-- VFREDMAX. -/
def execVfredmax (c : CoreId) (o : OpV) (s : State) : Outcome State Fault Refusal := fltRed c 4 o false (fun z a b => engMaxMin f32 z true a b) s
/-- VFREDMIN. -/
def execVfredmin (c : CoreId) (o : OpV) (s : State) : Outcome State Fault Refusal := fltRed c 5 o false (fun z a b => engMaxMin f32 z false a b) s

/-- VFDOT: the defined dot product with C = +0 and K = n, inactive products absent (R72, R74, R138); an element that is both operands
counts once as flushed (R78). -/
def execVfdot (c : CoreId) (o : OpV) (s : State) : Outcome State Fault Refusal :=
  let fm := wFmt o.w
  let b := fm.width
  wholeF c (encV 0x34 6 o) o false { g := b, srcs := (.v o.vs1, b) :: (if o.s then [] else [(.v o.vs2, b)]), check := true } (fun md n act k =>
    let sc := (k.getF o.vs2).toNat % 2 ^ b
    let rd := fun e => (elemV (k.getV o.vs1) b e, if o.s then sc else elemV (k.getV o.vs2) b e)
    let groups := (upFrom 0 ((n + 7) / 8)).map fun g => (act.filter fun e => e / 8 == g).map rd
    let r := accumulate md.ftz 0 (groups.map (groupFloat fm md.ftz))
    let fa := act.map fun e => (flushOp fm md.ftz (rd e).1).2
    let fb := if o.s then (if act.isEmpty then [] else [(flushOp fm md.ftz sc).2])
      else if o.vs2 = o.vs1 then []
      else act.map fun e => (flushOp fm md.ftz (rd e).2).2
    (r.1, (Tally.ofList (fa ++ fb)).add r.2)) s

/-- VSADF: sums of absolute differences in pairwise order, of eight groups, or with S of all elements (R140). Differences and partial sums
are intermediates; an element read in two places counts once as flushed (R78). -/
def execVsadf (c : CoreId) (o : OpV) (s : State) : Outcome State Fault Refusal :=
  let w := encV 0x34 8 o
  runInstr c w false .vector (fun s =>
    if o.w ≠ 0 then illegal s c
    else
      let z := (engMode s c .vec).ftz
      let x := ({ g := 32, srcs := [(.v o.vs1, 32), (.v o.vs2, 32)], extra := [(o.vd, 0, if o.s then 1 else 4)], check := true } : VSpec).withMask o.men o.km
      vecWhole x c w (vecN s c 32) o.men o.km o.cut (fun act k =>
        let diff := fun e => if act.contains e then
            let p := flushOp f32 z (elemV (k.getV o.vs1) 32 e)
            let q := flushOp f32 z (elemV (k.getV o.vs2) 32 e)
            let r := engSub f32 z p.1 q.1
            (some (if isNan f32 r.1 then r.1 else r.1 % 2 ^ 31), if o.vs2 = o.vs1 then [p.2] else [p.2, q.2], r.2.inner)
          else (none, [], ({} : Fl))
        let len := if o.s then 256 else 32
        (upFrom 0 (256 / len)).foldl (fun p j =>
          let ds := (upFrom (len * j) len).map diff
          let t := pairwise (engAdd f32 z) (if o.s then 8 else 5) (ds.map fun d => d.1)
          let old := flushOp f32 z (elemV (p.1.getV o.vd) 32 j)
          let r := engAdd f32 z old.1 (t.1.getD 0)
          let fl := ds.foldl (fun a d => a.or d.2.2) ((t.2.1.or t.2.2.inner).or r.2)
          let seen := (o.vd == o.vs1 || o.vd == o.vs2) && act.contains j
          (p.1.putElem o.vd 32 j r.1, ((ds.flatMap fun d => d.2.1) ++ (if seen then [] else [old.2])).foldl Tally.add (p.2.add fl))) (k, ({} : Tally))) s) s

end Sys2Proof.Machine
end

