-- ==== Sys2Proof/Machine/VecConv.lean ====
section
/-! DEFINITION. Vector conversions, block conversions and the generators' instructions (R136, R141 to R145, Table 5.3). -/
namespace Sys2Proof.Machine
open Host

/-- A conversion of each active element: register widths, the formats its W admits, and the result of a draw and an element. -/
def cvtVec (c : CoreId) (fn : Nat) (o : OpV) (bad : Bool) (from_ to_ : Nat) (draws : Bool) (f : NMode → Nat → Nat → FRes) (s : State) :
    Outcome State Fault Refusal :=
  let w := encV 0x36 fn o
  runInstr c w false .vector (fun s =>
    if o.w = 3 ∨ noSrc2 o ∨ bad then illegal s c
    else
      let md := engMode s c .vec
      let x := ({ g := 32, srcs := [(.v o.vs1, from_)], draws := draws } : VSpec).withMask o.men o.km
      vecRun x c (vecN s c 32) o.men o.km o.cut (arithBeat x c w (s.core c).pc fun d e k =>
        let r := f md d (elemV (k.getV o.vs1) from_ e)
        (k.putElem o.vd to_ e r.1, r.2)) id s) s

/-- VCVTFW: 16 bits to FP32. -/
def execVcvtfw (c : CoreId) (o : OpV) (s : State) : Outcome State Fault Refusal :=
  cvtVec c 0 o (o.w == 0 || o.vd == o.vs1) 16 32 false (fun md _ a => engConvert (wFmt o.w) f32 md a) s
/-- VCVTWF: FP32 to 16 bits by RNE. -/
def execVcvtwf (c : CoreId) (o : OpV) (s : State) : Outcome State Fault Refusal :=
  cvtVec c 1 o (o.w == 0 || o.vd == o.vs1) 32 16 false (fun md _ a => engConvert f32 (wFmt o.w) md a) s
/-- VCVTWFS: FP32 to 16 bits by stochastic rounding. -/
def execVcvtwfs (c : CoreId) (o : OpV) (s : State) : Outcome State Fault Refusal :=
  cvtVec c 2 o (o.w == 0 || o.vd == o.vs1) 32 16 true (fun md d a => engConvertSR (wFmt o.w) md d a) s
/-- VCVTIF: signed 32-bit integers to FP32. -/
def execVcvtif (c : CoreId) (o : OpV) (s : State) : Outcome State Fault Refusal :=
  cvtVec c 3 o (o.w != 0) 32 32 false (fun _ _ a => engFromInt (signedOf 32 a)) s

/-- FP32 to a signed 32-bit integer (R136). -/
def engToInt32 (ftz : Bool) (a : Nat) : FRes :=
  let (a, fa) := flushOp f32 ftz a
  let big := fun (n : Bool) => (if n then 2 ^ 31 else 2 ^ 31 - 1, ({ ov := true, nx := true, sat := true } : Fl))
  let r : FRes := match unpack f32 a with
    | .nan _ => (0, { nv := true })
    | .inf n => big n
    | .fin n m e =>
      let (i, inexact) := roundToInt .rne n m e
      if i < -(2 ^ 31) ∨ 2 ^ 31 ≤ i then big n else (wrapInt 32 i, { nx := inexact })
  (r.1, fa.or r.2)

/-- VCVTFI. -/
def execVcvtfi (c : CoreId) (o : OpV) (s : State) : Outcome State Fault Refusal :=
  cvtVec c 4 o (o.w != 0) 32 32 false (fun md _ a => engToInt32 md.ftz a) s

/-- The block format W names for VCVTB and VCVTBF. -/
def wBlock (w : BitVec 2) : ElFmt := if w = 1 then ab8 else ab4

/-- A block conversion: whole and unmasked; `bad` judges the number of elements, `scaled` says that it reads the scale bytes of its source,
one for 32 elements from byte 256 (R136). -/
def blockVec (c : CoreId) (fn : Nat) (o : OpV) (from_ : Nat) (scaled : Bool) (bad : Nat → Bool) (f : NMode → Nat → CoreSt → CoreSt × Tally) (s : State) :
    Outcome State Fault Refusal :=
  let w := encV 0x36 fn o
  runInstr c w false .vector (fun s =>
    let n := vecN s c 32
    if o.w = 3 ∨ o.w = 0 ∨ noSrc2 o ∨ masked o ∨ o.vd = o.vs1 ∨ bad n then illegal s c
    else vecWhole { g := 32, busy := 2, srcs := [(.v o.vs1, from_)],
                    extra := if scaled then [(o.vs1, 32, (n + 255) / 256)] else [] } c w n false 0 o.cut (fun _ k => f (engMode s c .vec) n k) s) s

/-- VCVTB: FP32 elements to blocks (R69, R70, R136). -/
def execVcvtb (c : CoreId) (o : OpV) (s : State) : Outcome State Fault Refusal :=
  let ef := wBlock o.w
  blockVec c 5 o 32 false (fun n => n % 32 != 0) (fun md n k =>
    (upFrom 0 (n / 32)).foldl (fun p b =>
      let blk := toBlock ef md ((upFrom (32 * b) 32).map fun e => elemV (k.getV o.vs1) 32 e)
      let v := blk.codes.zipIdx.foldl (fun v x => setElem v ef.width (32 * b + x.2) x.1) (p.1.getV o.vd)
      (p.1.setV o.vd (setElem v 8 (256 + b) blk.scale), blk.fls.foldl Tally.add p.2)) (k, ({} : Tally))) s

/-- VCVTBF: blocks to FP32 elements (R63, R136). -/
def execVcvtbf (c : CoreId) (o : OpV) (s : State) : Outcome State Fault Refusal :=
  let ef := wBlock o.w
  blockVec c 6 o ef.width true (fun _ => false) (fun md n k =>
    (upFrom 0 n).foldl (fun p e =>
      let v := k.getV o.vs1
      let r := elementToF32 ef md (elemV v 8 (256 + e / 32)) (elemV v ef.width e)
      (p.1.putElem o.vd 32 e r.1, p.2.add r.2)) (k, ({} : Tally))) s

/-- VRAND: a draw in each active 16-bit element. -/
def execVrand (c : CoreId) (o : OpV) (s : State) : Outcome State Fault Refusal :=
  let w := encV 0x36 7 o
  runInstr c w false .vector (fun s =>
    if o.w = 3 ∨ o.w = 0 ∨ noSrc2 o ∨ o.vs1 ≠ 0 then illegal s c
    else
      let x := ({ g := 16, busy := 2, draws := true } : VSpec).withMask o.men o.km
      vecRun x c (vecN s c 16) o.men o.km o.cut (arithBeat x c w (s.core c).pc fun d e k => (k.putElem o.vd 16 e d, {})) id s) s

/-- VRSEED: every lane set to seed(0, x[VS1], l) (R143). It waits for a ring-open seeding that is not yet applied, which would otherwise
replace its lanes (R144, R167). -/
def execVrseed (c : CoreId) (o : OpV) (s : State) : Outcome State Fault Refusal :=
  runInstr c (encV 0x36 8 o) false .vector (fun s =>
    if o.w ≠ 0 ∨ noSrc2 o ∨ masked o ∨ o.vd ≠ 0 then illegal s c
    else if wholeCut s c o.cut ∨ (s.core c).pendSeed.isSome then .wait
    else
      let t := setLanes s c (seedLanes 0 ((s.core c).getX o.vs1))
      .done (vecDone { g := 0, whole := true, draws := true } c 0 false s (count t (VEC_BUSY c) 1))) s

end Sys2Proof.Machine
end

