-- ==== Sys2Proof/Machine/VecMem.lean ====
section
/-! DEFINITION. Vector loads and stores (R127 to R130, R188, R239, R241). -/
namespace Sys2Proof.Machine
open Host

/-- Consecutive elements at consecutive addresses: the first element, its address, and the bytes. -/
structure VRunAt where
  e : Nat
  a : Nat
  len : Nat
  deriving DecidableEq, Repr

/-- Elements of `m` bytes gathered into runs. -/
def gatherRuns (m : Nat) : List (Nat × Nat) → List VRunAt
  | [] => []
  | (e, a) :: l =>
    match gatherRuns m l with
    | r :: rs => if r.e = e + 1 ∧ r.a = a + m then ⟨e, a, r.len + m⟩ :: rs else ⟨e, a, m⟩ :: r :: rs
    | [] => [⟨e, a, m⟩]

/-- Sectors of a line added to those a beat touches. -/
def addSectors (line mask : Nat) : List (Nat × Nat) → List (Nat × Nat)
  | [] => [(line, mask)]
  | (l, k) :: r => if l = line then (l, k ||| mask) :: r else (l, k) :: addSectors line mask r

/-- The lines of stacked memory, with their sectors, that runs of a beat touch. -/
def beatLines (s : State) (rs : List VRunAt) : List (Nat × Nat) :=
  (rs.filter fun r => spanRegion s r.a r.len == some .stack).foldl (fun acc r =>
    let l1 := lineOf r.a
    let l2 := lineOf (r.a + r.len - 1)
    if l1 = l2 then addSectors l1 (sectorMask r.a r.len) acc
    else addSectors l2 (sectorMask (l2 * 128) (r.a + r.len - l2 * 128)) (addSectors l1 (sectorMask r.a (l2 * 128 - r.a)) acc)) []

/-- Whether a run must wait: for a predecessor's flip, a bank, or a waiting write to a common byte (R185, R193, R269, R275). -/
def runWaits (s : State) (c : CoreId) (r : VRunAt) : Bool := readWaits s r.a r.len || ownWait s c r.a r.len

/-- What runs of a beat find damaged in the caches is fetched again, and their accesses to banks are counted (R257, R262). -/
def beatServe (s : State) (c : CoreId) (rs : List VRunAt) : State :=
  rs.foldl (fun s r => if spanRegion s r.a r.len = some .stack then refetch s (some c) r.a r.len else bankBeats s c r.a r.len) s

/-- The runs of a beat read for a core: `none` where one must wait; else the bytes of each run up to an uncorrectable word, and its
element, address and record. `m` is the size of an element. -/
def beatFetch (s : State) (c : CoreId) (hint m : Nat) (rs : List VRunAt) : Option (State × List (VRunAt × List Byte) × Option VStop) :=
  let ls := beatLines s rs
  if rs.any (runWaits s c) || !linesAccepted s c (missedOf s c ls) then none
  else
    let u := rs.foldl (fun s r => settleSub s c r.a r.len) s
    let t := cacheLines (beatServe u c rs) c hint ls
    some (rs.foldl (fun p r =>
      match p.2.2 with
      | some _ => p
      | none =>
        let bs := mergeView u c r.a (memBytes u (coreSub u c) r.a r.len)
        match eccSpan p.1 (some c) (coreSub s c) r.a r.len with
        | (t, none) => (t, p.2.1 ++ [(r, bs)], none)
        | (t, some (b, seq)) =>
          let k := (b - r.a) / m
          (t, p.2.1 ++ [({ r with len := k * m }, bs.take (k * m))], some ⟨r.e + k, 1, max b r.a, some seq⟩)) (t, [], none))

/-- What a memory instruction is made of: its words, sizes and hint, its formats, and its base address. -/
structure VMemOp where
  m : Nat
  g : Nat
  base : Nat
  hint : Nat
  deriving DecidableEq, Repr

/-- The address of an element (R127). -/
def VMemOp.addr (x : VMemOp) (e : Nat) : Nat := (x.base + e * x.m) % 2 ^ 64

/-- The active elements of a beat that lie in populated memory, up to the first that does not, and that one's fault (R129). -/
def beatReach (s : State) (x : VMemOp) (act : List Nat) : List (Nat × Nat) × Option VStop :=
  let ok := act.takeWhile fun e => (spanRegion s (x.addr e) x.m).isSome
  (ok.map fun e => (e, x.addr e), ((act.drop ok.length).head?).map fun e => ⟨e, 10, firstBad s (x.addr e) x.m, none⟩)

/-- A beat of a load: `f` gives the register element of the bytes read. -/
def loadBeat (c : CoreId) (x : VMemOp) (vs : VSpec) (vd : BitVec 5) (f : Nat → FRes) (lo hi : Nat) (act : List Nat)
    (p : State × VAcc) : State × VAcc :=
  let (s, ecc) := readSources vs c lo hi p.1
  let (ok, bad) := beatReach s x (match ecc with
    | some b => act.filter fun e => decide (e < b.e)
    | none => act)
  match beatFetch s c x.hint x.m (gatherRuns x.m ok) with
  | none => (s, { p.2 with wait := true })
  | some (t, got, stop) =>
    let a := got.foldl (fun a r => (upFrom 0 (r.1.len / x.m)).foldl (fun (a : VAcc) i =>
      let v := f (natOfBytes ((r.2.drop (i * x.m)).take x.m))
      { a with k := a.k.putElem vd x.g (r.1.e + i) v.1, tally := a.tally.add v.2 }) a) p.2
    (t, { a with stop := (stop.or bad).or ecc })

/-- A beat of a store: the data register is read, each element is converted with its draw, and the bytes are stored. -/
def storeBeat (c : CoreId) (x : VMemOp) (vs : VSpec) (vd : BitVec 5) (f : Nat → Nat → FRes) (lo hi : Nat) (act : List Nat)
    (p : State × VAcc) : State × VAcc :=
  let (s, ecc) := readSources vs c lo hi p.1
  let (ok, bad) := beatReach s x (match ecc with
    | some b => act.filter fun e => decide (e < b.e)
    | none => act)
  let (a, vals) := ok.foldl (fun (q : VAcc × List (Nat × List Byte)) e =>
    let (r, ls) := if vs.draws then drawLane q.1.lanes e.1 else (0, q.1.lanes)
    let v := f r (elemV (q.1.k.getV vd) x.g e.1)
    ({ q.1 with lanes := ls, tally := q.1.tally.add v.2 }, q.2 ++ [(e.1, bytesOfNat x.m v.1)])) (p.2, [])
  let s := (gatherRuns x.m ok).foldl (fun s r =>
    coreStore s c x.hint r.a ((vals.filter fun v => decide (r.e ≤ v.1) && decide (v.1 < r.e + r.len / x.m)).flatMap Prod.snd)) s
  (s, { a with stop := bad.or ecc })

/-- VEC_MISALIGN counts an access whose first active beat is not aligned, once (R127); an instruction that starts at or above `n`
accesses nothing. -/
def countMisalign (s : State) (c : CoreId) (x : VMemOp) (n : Nat) (men : Bool) (km : BitVec 3) : State :=
  if decide (s.fld (VEC_VPROG c) fldVEC_VPROG_DONE < n) && (upFrom 0 n).any (activeAt ((s.core c).getM km) men) && x.base % (if x.g = 8 * x.m then 128 else 64) != 0 then
    count s (VEC_MISALIGN c) 1
  else s

/-- An instruction of format M whose W names elements (`narrow` false) or a 16-bit memory format. -/
def memVec (c : CoreId) (fn : Nat) (o : OpM) (narrow : Bool) (body : VMemOp → Nat → State → IRes) (s : State) : Outcome State Fault Refusal :=
  runInstr c (encM fn o) false .vector (fun s =>
    if o.w = 3 ∨ o.h = 3 ∨ (narrow ∧ o.w = 0) then illegal s c
    else
      let g := if narrow then 32 else wBits o.w
      let x : VMemOp := { m := if narrow then 2 else g / 8, g := g, hint := o.h.toNat,
                          base := ((s.core c).getX o.rs1 + (s.core c).getX o.rs2).toNat }
      body x (vecN s c g) s) s

/-- A load. -/
def loadVec (c : CoreId) (fn : Nat) (o : OpM) (narrow : Bool) (f : NMode → Nat → FRes) (s : State) : Outcome State Fault Refusal :=
  memVec c fn o narrow (fun x n s =>
    let vs := ({ g := x.g, busy := 0 } : VSpec).withMask o.men o.km
    vecRun vs c n o.men o.km o.cut (loadBeat c x vs o.vd (f (engMode s c .vec))) (fun t => countMisalign t c x n o.men o.km) s) s

/-- VLD. -/
def execVld (c : CoreId) (o : OpM) (s : State) : Outcome State Fault Refusal := loadVec c 0 o false (fun _ v => (v, {})) s

/-- VLDW: 16-bit memory elements widened exactly (R128). -/
def execVldw (c : CoreId) (o : OpM) (s : State) : Outcome State Fault Refusal :=
  loadVec c 2 o true (fun md v => engConvert (wFmt o.w) f32 md v) s

/-- VLDFF: only a fault at the lowest active element is taken; a higher one shortens VL (R130). -/
def execVldff (c : CoreId) (o : OpM) (s : State) : Outcome State Fault Refusal :=
  memVec c 1 o false (fun x n s =>
    let first := (upFrom 0 n).find? (activeAt ((s.core c).getM o.km) o.men)
    let vs := ({ g := x.g, busy := 0, block := true } : VSpec).withMask o.men o.km
    match vecRun vs c n o.men o.km o.cut (loadBeat c x vs o.vd fun v => (v, {}))
        (fun t => countMisalign t c x n o.men o.km) s with
    | .trap t 10 a seq pc =>
      let e := t.fld (VEC_VPROG c) fldVEC_VPROG_DONE
      if first = some e then .trap t 10 a seq pc
      else
        let t := (t.setReg (VEC_VL c) (BitVec.ofNat 64 e)).setBit (VEC_STATUS c) fldVEC_STATUS_FF true
        .done (vecDone vs c ((n + 1024 / x.g - 1) / (1024 / x.g) * (1024 / x.g)) false s (countMisalign t c x n o.men o.km))
    | r => r) s

/-- A store. -/
def storeVec (c : CoreId) (fn : Nat) (o : OpM) (narrow draws : Bool) (f : NMode → Nat → Nat → FRes) (s : State) : Outcome State Fault Refusal :=
  memVec c fn o narrow (fun x n s =>
    let vs := ({ g := x.g, busy := 0, srcs := [(.v o.vd, x.g)], draws := draws } : VSpec).withMask o.men o.km
    vecRun vs c n o.men o.km o.cut (storeBeat c x vs o.vd (f (engMode s c .vec))) (fun t => countMisalign t c x n o.men o.km) s) s

/-- VST. -/
def execVst (c : CoreId) (o : OpM) (s : State) : Outcome State Fault Refusal := storeVec c 3 o false false (fun _ _ v => (v, {})) s
/-- VSTN. -/
def execVstn (c : CoreId) (o : OpM) (s : State) : Outcome State Fault Refusal :=
  storeVec c 4 o true false (fun md _ v => engConvert f32 (wFmt o.w) md v) s
/-- VSTNS. -/
def execVstns (c : CoreId) (o : OpM) (s : State) : Outcome State Fault Refusal :=
  storeVec c 5 o true true (fun md r v => engConvertSR (wFmt o.w) md r v) s

end Sys2Proof.Machine
end

