-- ==== Sys2Proof/Machine/Update.lean ====
section
/-! DEFINITION. The fused update instructions (R146 to R150). -/
namespace Sys2Proof.Machine
open Host

/-- The exact sum of two values, its zero by R58. -/
def fvAdd (x y : FV) : FV :=
  match x, y with
  | .nan s, _ => .nan s
  | _, .nan s => .nan s
  | .inf n, .inf n' => if n = n' then .inf n else .nan false
  | .inf n, .fin .. => .inf n
  | .fin .., .inf n => .inf n
  | .fin n1 m1 e1, .fin n2 m2 e2 =>
    match exactAdd n1 m1 e1 n2 m2 e2 with
    | some v => .fin v.neg v.m v.e
    | none => .fin (m1 == 0 && m2 == 0 && n1 && n2) 0 0

/-- An exact value rounded once by RNE; `conv` says that it is a conversion under SAT (R66). -/
def roundFV (f : Fmt) (ftz conv : Bool) (x : FV) : FRes :=
  match x with
  | .nan _ => engNan f
  | .inf n => (f.inf n, {})
  | .fin n m e => if m = 0 then (f.zero n, {}) else engRound f ftz conv { neg := n, m := m, e := e }

/-- An exact value rounded stochastically with a draw (R65). -/
def roundSR (f : Fmt) (md : NMode) (draw : Nat) (x : FV) : FRes :=
  match x with
  | .nan _ => engNan f
  | .inf n => (f.inf n, {})
  | .fin n m e =>
    if m = 0 then (f.zero n, {})
    else
      let x := ({ neg := n, m := m, e := e } : Exact).widen (f.fb + 3)
      let ex := x.exp
      let tiny := decide (ex < f.emin)
      if tiny && md.ftz then (f.zero n, { fz := true, uf := true, nx := true, flush := true })
      else
        let exq := if ex < f.emin then f.emin else ex
        let sh := (exq - f.fb - x.e).toNat
        let rem := x.m % 2 ^ sh
        let up := rem != 0 && decide (65536 ≤ rem * 65536 / 2 ^ sh + draw % 65536)
        let mag := encodeAt f (x.m / 2 ^ sh + flag up) exq
        if f.inf false ≤ mag then (if md.sat then f.maxFin n else f.inf n, { ov := true, nx := true, sat := md.sat })
        else (f.signBit n + mag, { nx := rem != 0, uf := rem != 0 && tiny })

/-- A format's encoding as the equal FP32 value; every 16-bit value is one. -/
def widenF32 (f : Fmt) (a : Nat) : Nat := (engConvert f f32 ⟨false, false, false⟩ a).1

/-- A binary32 coefficient: bits [31:0] of a floating register. -/
def coef (k : CoreSt) (r : Nat) : Nat := (k.getF (BitVec.ofNat 5 r)).toNat % 2 ^ 32

/-- A resumable update instruction: each active element's registers written, and its flags. -/
def updVec (c : CoreId) (op : Nat) (o : OpU) (bad check draws : Bool) (busy : Nat) (srcs : List (BitVec 5)) (f : NMode → CoreSt → Nat → Nat → CoreSt → CoreSt × Fl)
    (s : State) : Outcome State Fault Refusal :=
  let w := encU op o
  runInstr c w false .vector (fun s =>
    if bad then illegal s c
    else
      let md := engMode s c .upd
      let x := ({ eng := .upd, g := 32, busy := busy, srcs := srcs.map fun r => (.v r, 32), check := check, draws := draws } : VSpec).withMask
        o.men o.km
      vecRun x c (vecN s c 32) o.men o.km o.cut (arithBeat x c w (s.core c).pc (f md (s.core c))) id s) s

/-! ### VMOM (R147) -/

/-- What VMOM computes for one element: m', v', the direction d, and the flags. `k` gives the coefficients from f[FS] on. -/
def momElem (md : NMode) (bf dir : Bool) (k : Nat → Nat) (m v g : Nat) : Nat × Nat × Nat × Fl :=
  let z := md.ftz
  let fl := fun a => flushOp f32 z a
  let rnd := fun x => if bf then let r := roundFV bf16 z md.sat x; (widenF32 bf16 r.1, r.2) else roundFV f32 z false x
  let u := fun a => unpack f32 a
  let b1 := fl (k 0)
  let b2 := fl (k 1)
  let cl := fl (k 2)
  let m0 := fl m
  let v0 := fl v
  let g0 := fl g
  let gc := engMulV f32 z (u cl.1) (u g0.1)
  let o1 := engAddV f32 z (.fin false 1 0) (fvNeg (u b1.1))
  let o2 := engAddV f32 z (.fin false 1 0) (fvNeg (u b2.1))
  let m' := rnd (fvAdd (fvMul (u b1.1) (u m0.1)) (fvMul (u o1.1) (u gc.1)))
  let v' := rnd (fvAdd (fvMul (u b2.1) (u v0.1)) (fvMul (fvMul (u o2.1) (u gc.1)) (u gc.1)))
  let fls := [b1.2, b2.2, cl.2, m0.2, v0.2, g0.2, gc.2.inner, o1.2.inner, o2.2.inner, m'.2, v'.2]
  if dir then
    let k1 := fl (k 3)
    let k2 := fl (k 4)
    let ep := fl (k 5)
    let r := engSqrt f32 z v'.1
    let den := engAddV f32 z (fvMul (u k2.1) (u r.1)) (u ep.1)
    let d := engDivV f32 z (fvMul (u k1.1) (u m'.1)) (u den.1)
    (m'.1, v'.1, d.1, Fl.all (fls ++ [k1.2, k2.2, ep.2, r.2.inner, den.2.inner, d.2]))
  else (m'.1, v'.1, 0, Fl.all fls)

/-- VMOM: [6] is P and [5] is D. -/
def execVmom (c : CoreId) (o : OpU) (s : State) : Outcome State Fault Refusal :=
  let vd := o.a.toNat
  let top := if o.p5 then vd + 2 else vd + 1
  let bad := o.lo != 0 || decide (31 < top) || decide (31 < o.d.toNat + (if o.p5 then 5 else 2)) ||
    (decide (vd ≤ o.b.toNat) && decide (o.b.toNat ≤ top))
  updVec c 0x3C o bad true false (if o.p5 then 3 else 2) [o.a, o.a + 1, o.b] (fun md k0 _ e k =>
    let v1 := BitVec.ofNat 5 (vd + 1)
    let r := momElem md o.p6 o.p5 (fun i => coef k0 (o.d.toNat + i)) (elemV (k.getV o.a) 32 e) (elemV (k.getV v1) 32 e)
      (elemV (k.getV o.b) 32 e)
    let k := (k.putElem o.a 32 e r.1).putElem v1 32 e r.2.1
    (if o.p5 then k.putElem (BitVec.ofNat 5 (vd + 2)) 32 e r.2.2.1 else k, r.2.2.2)) s

/-! ### VBIAS (R148) -/

/-- pow64: the power by squaring in binary64, from bit 63 down; the bits of `t` come first to last. -/
def pow64 (b : FV) : List Bool → FRes → FRes
  | [], p => p
  | i :: is, p =>
    let q := engMulV f64 false (unpack f64 p.1) (unpack f64 p.1)
    let r := if i then engMulV f64 false (unpack f64 q.1) b else (q.1, {})
    pow64 b is (r.1, (p.2.or q.2).or r.2)

/-- `rne64 (1 − pow64 (b, t))` of a binary32 β. -/
def oneMinusPow (ftz : Bool) (b : Nat) (t : Word) : FRes :=
  let b := flushOp f32 ftz b
  let one := (roundFV f64 false false (.fin false 1 0)).1
  let p := pow64 (unpack f32 b.1) ((upFrom 0 64).map fun i => bitOf t.toNat (63 - i)) (one, {})
  let q := engAddV f64 false (.fin false 1 0) (fvNeg (unpack f64 p.1))
  (q.1, (b.2.or p.2).or q.2)

/-- Whether a binary64 encoding is greater than zero. -/
def positive64 (a : Nat) : Bool := compareFV (unpack f64 a) (.fin false 0 0) == some .gt

/-- VBIAS: whole, 140 cycles; it has no vector operand, so it acts whatever VL is. -/
def execVbias (c : CoreId) (o : OpU) (s : State) : Outcome State Fault Refusal :=
  let w := encU 0x3D o
  runInstr c w false .vector (fun s =>
    if o.men ∨ o.km ≠ 0 ∨ o.p6 ∨ o.p5 ∨ o.lo ≠ 0 ∨ o.a = 31 ∨ o.d = 31 then illegal s c
    else if wholeCut s c o.cut then .wait
    else
      let k := s.core c
      match residueCheck s c true 0 0 w k.pc with
      | (t, some seq) => .trap (t.setReg (VEC_VPROG c) 0) 1 k.pc.toNat (some seq) k.pc
      | (t, none) =>
        let z := (engMode s c .upd).ftz
        let n := k.getX o.b
        let q1 := oneMinusPow z (coef k o.d.toNat) n
        let q2 := oneMinusPow z (coef k (o.d.toNat + 1)) n
        let ok := positive64 q1.1 && positive64 q2.1
        let k1 := if ok then engDivV f32 z (.fin false 1 0) (unpack f64 q1.1) else engNan f32
        let k2 : FRes := if ok then
            match unpack f64 q2.1 with
            | .fin _ m e => engRound f32 z false (exactRsqrt m e)
            | .inf _ => (0, {})
            | .nan _ => engNan f32
          else engNan f32
        let t := t.modCore c fun q => (q.setF o.a (boxF32 k1.1)).setF (o.a + 1) (boxF32 k2.1)
        let tl := ({} : Tally).add (((q1.2.or q2.2).or k1.2).or k2.2)
        let t := commitFlags t c .upd (flagBits tl.fl) tl.sat tl.flush
        .done (vecDone { g := 0, whole := true } c 0 tl.fl.nv s (count t (VEC_BUSY c) 140))) s

/-! ### VSIGN and VSRND (R149, R150) -/

/-- VSIGN of one element. -/
def signElem (ftz : Bool) (g : Nat) : FRes :=
  let (g, fg) := flushOp f32 ftz g
  if isNan f32 g then (f32.nan, { fg with nv := true })
  else if g % 2 ^ 31 = 0 then (0, fg)
  else (if signOf f32 g then 0xBF800000 else 0x3F800000, fg)

/-- VSIGN. -/
def execVsign (c : CoreId) (o : OpU) (s : State) : Outcome State Fault Refusal :=
  updVec c 0x3E o (o.d != 0 || o.p6 || o.p5 || o.lo != 0) false false 1 [o.b] (fun md _ _ e k =>
    let r := signElem md.ftz (elemV (k.getV o.b) 32 e)
    (k.putElem o.a 32 e r.1, r.2)) s

/-- VSRND of one element: of w, or of w − η × (d + λ × w), exact before its one rounding. -/
def srndElem (md : NMode) (f : Fmt) (step : Bool) (draw w d eta lam : Nat) : FRes :=
  let w0 := flushOp f32 md.ftz w
  if step then
    let d0 := flushOp f32 md.ftz d
    let e0 := flushOp f32 md.ftz eta
    let l0 := flushOp f32 md.ftz lam
    let x := fvAdd (unpack f32 w0.1) (fvNeg (fvMul (unpack f32 e0.1) (fvAdd (unpack f32 d0.1) (fvMul (unpack f32 l0.1) (unpack f32 w0.1)))))
    let r := roundSR f md draw x
    (widenF32 f r.1, Fl.all [w0.2, d0.2, e0.2, l0.2, r.2])
  else
    let r := roundSR f md draw (unpack f32 w0.1)
    (widenF32 f r.1, w0.2.or r.2)

/-- VSRND: [6] is A, [5] is F, and [4:0] is FS. -/
def execVsrnd (c : CoreId) (o : OpU) (s : State) : Outcome State Fault Refusal :=
  let bad := if o.p6 then o.lo == 31 else o.d != 0 || o.lo != 0
  updVec c 0x3F o bad o.p6 true 1 (if o.p6 then [o.b, o.d] else [o.b]) (fun md k0 r e k =>
    let x := srndElem md (if o.p5 then f16 else bf16) o.p6 r (elemV (k.getV o.b) 32 e) (elemV (k.getV o.d) 32 e)
      (coef k0 o.lo.toNat) (coef k0 (o.lo.toNat + 1))
    (k.putElem o.a 32 e x.1, x.2)) s

end Sys2Proof.Machine
end

