-- ==== Sys2Proof/Machine/Tile.lean ====
section
/-! DEFINITION. Tile registers and the matrix arrays (R83 to R118, R453). -/
namespace Sys2Proof.Machine
open Host

/-! ### Formats (R84, R85) -/

/-- Bits of an element in a format of Table 4.2. -/
def tfBits (f : Nat) : Nat := if f = 0 then 32 else if f < 3 then 16 else if f = 3 then 8 else 4

/-- Elements that a tile row holds. -/
def rowCap (f : Nat) : Nat := 2048 / tfBits f

/-- The reduction length of one pass. -/
def passK (f : Nat) : Nat := if f = 0 then 16 else if f < 3 then 64 else if f = 3 then 128 else 256

/-- Whether a format is a block format. -/
def isBlock (f : Nat) : Bool := decide (3 ≤ f)

/-- The floating format of a code. -/
def tfFmt (f : Nat) : Fmt := if f = 0 then f32 else if f = 1 then bf16 else f16

/-- The block format of a code. -/
def tfEl (f : Nat) : ElFmt := if f = 3 then ab8 else ab4

/-- Element `i` of width `w` of a packed row: elements lie from the least significant bit upward (R62, R84). -/
def rowElem (w row i : Nat) : Nat := (row >>> (w * i)) % 2 ^ w

/-- The first `n` elements of a packed row. -/
def rowElems (w row n : Nat) : List Nat := (upFrom 0 n).map (rowElem w row)

/-- Elements packed into a row. -/
def packRow (w : Nat) : List Nat → Nat
  | [] => 0
  | x :: l => x % 2 ^ w + 2 ^ w * packRow w l

/-- The low `n` bits of a row replaced. -/
def lowBits (n old new : Nat) : Nat := old / 2 ^ n * 2 ^ n + new % 2 ^ n

/-- A row of a tile. -/
def Tile.row (t : Tile) (r : Nat) : Nat := (t.rows.get (Fin.ofNat 64 r)).toNat

/-- A scale row of a tile. -/
def Tile.scale (t : Tile) (r : Nat) : Nat := (t.scales.get (Fin.ofNat 64 r)).toNat

/-- The low bits of a row and of its scale row replaced. -/
def Tile.putRow (t : Tile) (r bits row sbits scale : Nat) : Tile :=
  { t with rows := t.rows.set (Fin.ofNat 64 r) (BitVec.ofNat 2048 (lowBits bits (t.row r) row)),
           scales := t.scales.set (Fin.ofNat 64 r) (BitVec.ofNat 128 (lowBits sbits (t.scale r) scale)) }

/-- A tile by number. -/
def tileOf (k : CoreSt) (t : Nat) : Tile := k.getT (BitVec.ofNat 3 t)

/-- TILE_FINFO written (Table 4.14). -/
def setFinfo (s : State) (c : CoreId) (reason mrow off : Nat) : State :=
  s.setReg (TILE_FINFO c) (word [(fldTILE_FINFO_REASON, reason), (fldTILE_FINFO_MROW, mrow), (fldTILE_FINFO_OFFSET, off)])

/-- ILLEGAL of a tile instruction, with its reason in TILE_FINFO where it has one. -/
def tileIllegal (s : State) (c : CoreId) (reason : Nat) : IRes :=
  illegal (if reason = 0 then s else setFinfo s c reason 0 0) c

/-- In-use flags set as an instruction issues (R101). -/
def useTiles (s : State) (c : CoreId) (ts : List Nat) : State :=
  s.setFld (TILE_INUSE c) fldTILE_INUSE_INUSE (ts.foldl (fun m t => m ||| 2 ^ t) (s.fld (TILE_INUSE c) fldTILE_INUSE_INUSE))

/-- A tile instruction joins the unretired ones: what abandoning it restores is the state as it issues (R97, R104). -/
def tileIssue (s : State) (c : CoreId) (w : IWord) (lanes : List Word) (draws : Bool) (work : TileWork) : IRes :=
  let k := s.core c
  let op : TileOp := { pc := k.pc, word := w, work := work, draws := draws, after := 0,
                       ckpt := { x := k.x, f := k.f, fstat := s.reg (CORE_FSTAT c), inuse := s.reg (TILE_INUSE c), rng := lanes } }
  .done (s.modCore c fun k => { k with tileQ := k.tileQ ++ [op] })

/-! ### TMMA and TMMA4 (R86 to R91) -/

/-- The arrays in use (R105, R116). -/
def activeArrays (s : State) (c : CoreId) : List Nat := (upFrom 0 4).filter fun a => bitOf (s.fld (TILE_CFG c) fldTILE_CFG_ACTIVE) a

/-- Whether both pairs of arrays are out of service (R116). -/
def arraysLost (s : State) (c : CoreId) : Bool :=
  let m := s.fld (TILE_CFG c) fldTILE_CFG_OUT
  m % 4 != 0 && m / 4 != 0

/-- M, N and K of a shape word (Table 4.3). -/
def shapeM (w : Word) : Nat := w.toNat % 64 + 1
def shapeN (w : Word) : Nat := bitsOf w.toNat 13 8 + 1
def shapeK (w : Word) : Nat := bitsOf w.toNat 24 16 + 1

/-- Whether a shape word is refused (R87). -/
def shapeBad (f : Nat) (w : Word) : Bool :=
  bitsOf w.toNat 63 25 != 0 || bitsOf w.toNat 15 14 != 0 || bitsOf w.toNat 7 6 != 0 || decide (rowCap f < shapeK w) ||
    (isBlock f && shapeK w % 32 != 0)

/-- The activity ramp as rows become ready: Idle and the Down states climb (Table 4.10). -/
def rampRow (s : State) (c : CoreId) : State :=
  let s := if s.fld (TILE_RAMP c) fldTILE_RAMP_LEVEL = 0 then s.setFld (TILE_RAMP c) fldTILE_RAMP_LEVEL 1 else s
  s.setBit (TILE_RAMP c) fldTILE_RAMP_DOWN false

/-- Whether an address range lies wholly in the scratchpad part of a core's own array (R90). -/
def ownScratch (s : State) (c : CoreId) (a n : Nat) : Bool :=
  let own := fun r => match r with
    | some (Region.array k _) => k == c.val
    | _ => false
  own (regionOf s a) && own (regionOf s (a + n - 1))

/-- The rows and scale rows of the four images of a TMMA4: their addresses, with the bytes read of each (R90). -/
def imageRows (base m kbytes sbytes : Nat) : List (Nat × Nat × Nat × Nat) :=
  (upFrom 0 4).flatMap fun q => (upFrom 0 m).map fun i => (base + q * 16384 + i * 256, kbytes, base + 65536 + q * 1024 + i * 16, sbytes)

/-- The images read: the bytes of each row, and the first word that is uncorrectable. -/
def imageRead (s : State) (c : CoreId) (rs : List (Nat × Nat × Nat × Nat)) : State × List (Nat × Nat) × Option (Nat × Nat) :=
  rs.foldl (fun p r =>
    match p.2.2 with
    | some _ => p
    | none =>
      let rd := fun s a n => if n = 0 then (s, none) else eccSpan s (some c) 0 a n
      match rd p.1 r.1 r.2.1 with
      | (t, some e) => (t, p.2.1, some e)
      | (t, none) =>
        let (t, e) := rd t r.2.2.1 r.2.2.2
        (t, p.2.1 ++ [(natOfBytes (memBytes s 0 r.1 r.2.1), natOfBytes (memBytes s 0 r.2.2.1 r.2.2.2))], e)) (s, [], none)

/-- The tiles that an unretired instruction writes. -/
def TileWork.dests : TileWork → List Nat
  | .mma four _ _ _ td _ _ _ _ _ => if four then [td, td + 1, td + 2, td + 3] else [td]
  | .tld t .. => [t]

/-- Whether an unretired instruction is a compute instruction. -/
def TileOp.computes (op : TileOp) : Bool :=
  match op.work with
  | .mma .. => true
  | .tld .. => false

/-- Whether a compute instruction that adds to its accumulator tiles takes them from the last compute instruction before it, which has
the same mnemonic, TD, M and N, with no instruction between that writes them (R110). -/
def chains (q : List TileOp) (four : Bool) (td : Nat) (shape : Word) : Bool :=
  let later := q.reverse.takeWhile fun op => !op.computes
  match q.reverse.find? TileOp.computes with
  | some op =>
    match op.work with
    | .mma f _ _ sh d _ _ _ _ _ =>
      f == four && d == td && shapeM sh == shapeM shape && shapeN sh == shapeN shape &&
        later.all fun x => x.work.dests.all fun t => !op.work.dests.contains t
    | .tld .. => false
  | none => false

/-- Whether the operands of a compute instruction depend on an unretired one (R103, R110): A or Bt, or an accumulator tile that is read
and is not forwarded. -/
def mmaWaits (q : List TileOp) (four z : Bool) (td : Nat) (shape : Word) (ab : List Nat) : Bool :=
  let written := fun (t : Nat) => q.any fun op => op.work.dests.contains t
  let acc := if four then [td, td + 1, td + 2, td + 3] else [td]
  ab.any written || (!z && acc.any written && !chains q four td shape)

/-- TMMA and TMMA4 issue: their checks, in-use flags and operands read at issue. The spec gives no order among the exceptions of one
instruction: an illegal encoding or shape word comes first, then the MACHINE_CHECK of two lost pairs, then TILE_FAULT (R87, R90, R116;
DESIGN CHOICE, assumption 99). -/
def mmaIssue (c : CoreId) (four : Bool) (o : OpMma) (s : State) : Outcome State Fault Refusal :=
  let w := encMma (flag four) o
  runInstr c w false .tile (fun s =>
    let f := o.fmt.toNat
    let k := s.core c
    let shape := k.getX o.rs2
    let base := (k.getX o.rs1).toNat
    let size := if isBlock f then 69632 else 65536
    if 4 < f ∨ o.lo ≠ 0 ∨ (four = false ∧ o.rs1 ≠ 0) ∨ (four ∧ (o.ta ≠ 0 ∨ o.td.toNat % 4 ≠ 0)) then illegal s c
    else if shapeBad f shape then tileIllegal s c 3
    else if arraysLost s c then
      let seq := s.flt.nextSeq
      let s := logFault s { mkRec 8 3 0 c with phys := physOf s c, sub := s.fld (TILE_CFG c) fldTILE_CFG_OUT, addr := k.pc.toNat }
      .trap s 1 k.pc.toNat (some seq) k.pc
    else if four ∧ (base % 256 ≠ 0 ∨ ownScratch s c base size = false) then trapAt (setFinfo s c 2 0 0) c 11 base
    else if mmaWaits k.tileQ four o.z o.td.toNat shape (o.tb.toNat :: if four then [] else [o.ta.toNat]) then .wait
    else
      let lanes := lanesOf s c
      let (s, images, bad) := if four then
          imageRead s c (imageRows base (shapeM shape) (shapeK shape * tfBits f / 8) (if isBlock f then shapeK shape / 32 else 0))
        else (s, [], none)
      match bad with
      | some (a, seq) => .trap (count s (TILE_RESTART c) 1) 1 a (some seq) k.pc
      | none =>
        let td := o.td.toNat
        let s := rampRow (useTiles s c (if four then [td, td + 1, td + 2, td + 3] else [td])) c
        tileIssue s c w lanes false
          (.mma four o.z f shape td o.ta.toNat o.tb.toNat (s.reg (NUM_MODE c)) base images)) s

/-- TMMA. -/
def execTmma (c : CoreId) (o : OpMma) (s : State) : Outcome State Fault Refusal := mmaIssue c false o s
/-- TMMA4. -/
def execTmma4 (c : CoreId) (o : OpMma) (s : State) : Outcome State Fault Refusal := mmaIssue c true o s

/-- One output element: the defined dot product of two rows of `k` elements, with their scale rows, added to `x` (R71 to R74). -/
def mmaElem (f : Nat) (ftz : Bool) (k : Nat) (a b : Nat × Nat) (x : Nat) : FRes :=
  let w := tfBits f
  let gs := if isBlock f then
      (upFrom 0 (k / 32)).map fun g =>
        let els := fun r => (upFrom (32 * g) 32).map (rowElem w r)
        groupBlock (tfEl f) ftz (rowElem 8 a.2 g) (els a.1) (rowElem 8 b.2 g) (els b.1)
    else (chunks 8 k ((rowElems w a.1 k).zip (rowElems w b.1 k))).map (groupFloat (tfFmt f) ftz)
  accumulate ftz x gs

/-- The subnormal elements among the first `k` of each row. -/
def flushedIn (f k : Nat) (rows : List (Nat × Nat)) : Nat :=
  (rows.map fun r => (rowElems (tfBits f) r.1 k).countP (isSubnormal (tfFmt f))).foldl (· + ·) 0

/-- The subnormal FP32 elements of a tile within any of a list of areas of rows and columns, each counted once. -/
def flushedArea (t : Tile) (areas : List (Nat × Nat)) : Nat :=
  ((upFrom 0 64).map fun r => (upFrom 0 64).countP fun j =>
    (areas.any fun a => decide (r < a.1) && decide (j < a.2)) && isSubnormal f32 (rowElem 32 (t.row r) j)).foldl (· + ·) 0

/-- The operand elements that flush mode replaces: of A, Bt and C, each element of a tile once however it is read (R75). `images` are the
rows of A that come from memory, `acc` the accumulator tiles that are read, `ta` and `tb` the tiles of A and Bt. -/
def flushedOps (q : CoreSt) (f k m n : Nat) (images : List (Nat × Nat)) (acc : List Nat) (ta : Option Nat) (tb : Nat) : Nat :=
  let cArea := fun t => if acc.contains t then [(m, n)] else []
  if f = 0 then
    let tiles := (acc ++ ta.toList ++ [tb]).eraseDups
    (tiles.map fun t => flushedArea (tileOf q t) (cArea t ++ (if ta = some t then [(m, k)] else []) ++ (if t = tb then [(n, k)] else []))).foldl
      (· + ·) (flushedIn 0 k images)
  else
    let c := (acc.map fun t => flushedArea (tileOf q t) (cArea t)).foldl (· + ·) 0
    if isBlock f then c
    else
      let rows := fun t n => (upFrom 0 n).map fun r => ((tileOf q t).row r, 0)
      let ab := match ta with
        | some t => if t = tb then rows t (max m n) else rows t m ++ rows tb n
        | none => images ++ rows tb n
      c + flushedIn f k ab

/-- Rows 0 to `n - 1` of a tile with their scale rows. -/
def tileRows (t : Tile) (n : Nat) : List (Nat × Nat) := (upFrom 0 n).map fun r => (t.row r, t.scale r)

/-- A row of an image as the arrays read it: each 32-byte sector as it stood at issue or, where another master has written it since, as it
stands now (R90); a free value chooses. -/
def imageSector (choice : Nat) (idx : Nat) (old new : Nat) : Nat :=
  packRow 256 ((upFrom 0 8).map fun i => if bitOf choice (8 * idx + i) then rowElem 256 new i else rowElem 256 old i)

/-- The images of a TMMA4 as its arrays have read them. -/
def imagesNow (s : State) (base m kbytes sbytes : Nat) (old : List (Nat × Nat)) : State × List (Nat × Nat) :=
  let now := (imageRows base m kbytes sbytes).map fun r => (natOfBytes (memBytes s 0 r.1 r.2.1), natOfBytes (memBytes s 0 r.2.2.1 r.2.2.2))
  if now = old then (s, old)
  else
    let (n, s) := s.free
    (s, ((old.zip now).zipIdx).map fun e =>
      (imageSector n (2 * e.2) e.1.1.1 e.1.2.1, imageSector n (2 * e.2 + 1) e.1.1.2 e.1.2.2))

/-- The physical column of an array that a logical column is mapped to: the spare replaces a retired one. -/
def physColumn (s : State) (c : CoreId) (a j : Nat) : Nat :=
  if bitOf (s.fld (TILE_CFG c) fldTILE_CFG_SPARE) a && s.nv.retired.contains (10, physOf s c, a * 65 + j) then 64 else j

/-- The residue checks of a compute instruction, one for each group sum of each output element (Table 16.6): the first mismatch. -/
def mmaResidue (s : State) (c : CoreId) (w : IWord) (pc : Word) (checks : List (Nat × Nat)) : State × Option Nat :=
  checks.foldl (fun p k =>
    match p.2 with
    | some _ => p
    | none => residueCheck p.1 c false k.1 (physColumn p.1 c k.1 k.2) w pc) (s, none)

/-- The two weight buffers' latches, the streaming one first, as a slice is needed: whether it was already held (R108). -/
def latchSlice (l : List (Nat × Nat × Nat × Bool × Nat)) (k : Nat × Nat × Nat × Bool × Nat) : List (Nat × Nat × Nat × Bool × Nat) × Bool :=
  if l.contains k then (k :: l.erase k, true) else ((k :: l).take 2, false)

/-- The oldest tile instruction leaves the unretired ones: the rows of a compute instruction after it are ready at the latest now (R114),
and STEP follows where it was set (Table 2.4). -/
def tilePop (s : State) (c : CoreId) (w : IWord) : State :=
  let s := s.modCore c fun k => { k with tileQ := k.tileQ.drop 1 }
  let s := if (s.core c).tileQ.any TileOp.computes then rampRow s c else s
  if s.test (CORE_STATUS c) fldCORE_STATUS_STEP ∧ (s.core c).tileQ.isEmpty then stepNow s c w.toNat else s

/-- The words that the first `n` rows of a tile take, `bits` of each row and as many words of each scale row. -/
def tileWords (t n bits sw : Nat) : List RegWord :=
  (upFrom 0 n).flatMap fun r =>
    ((upFrom 0 ((bits + 63) / 64)).map fun i => RegWord.tile (BitVec.ofNat 3 t) (32 * r + i)) ++
      (upFrom 0 sw).map fun i => RegWord.scale (BitVec.ofNat 3 t) (2 * r + i)

/-- The scale words that `k` elements of a row in a format need. -/
def scaleWords (f k : Nat) : Nat := if isBlock f then (k / 32 + 7) / 8 else 0

/-- TMMA or TMMA4 retires: it writes its accumulator tiles, its flags and its counts (R89 to R91). -/
def mmaRetire (s : State) (c : CoreId) (op : TileOp) (four z : Bool) (f : Nat) (shape : Word) (td ta tb : Nat) (mode : Word)
    (base : Nat) (images : List (Nat × Nat)) : State :=
  let m := shapeM shape
  let n := shapeN shape
  let k := shapeK shape
  let ftz := fldNUM_MODE_TILE_FTZ.test mode
  let (s, images) := if four then imagesNow s base m (k * tfBits f / 8) (if isBlock f then k / 32 else 0) images else (s, images)
  let q := s.core c
  let brows := tileRows (tileOf q tb) n
  let dests := if four then [td, td + 1, td + 2, td + 3] else [td]
  let act := if four then images else tileRows (tileOf q ta) m
  let arrs := activeArrays s c
  let rows := if four then m else (m + arrs.length - 1) / arrs.length
  let arrOf := fun (d i : Nat) => arrs.getD (if four then d % arrs.length else i / rows) 0
  let groups := if isBlock f then k / 32 else (k + 7) / 8
  let operand := fun t r => tileWords t r (k * tfBits f) (scaleWords f k)
  let acc := if z then [] else dests.flatMap fun d => tileWords d m (32 * n) 0
  match regReads s c 0 ((if four then [] else operand ta m) ++ operand tb n ++ acc) with
  | (s, some (_, seq, a)) => enter s c { vector := 1, faddr := a, word := op.word.toNat, pc := op.pc, seq := some seq }
  | (s, none) =>
    let checks := if resArmed s c then
        (upFrom 0 dests.length).flatMap fun d => (upFrom 0 m).flatMap fun i => (upFrom 0 n).flatMap fun j =>
          List.replicate groups (arrOf d i, j)
      else []
    match mmaResidue s c op.word op.pc checks with
    | (s, some seq) => enter s c { vector := 1, faddr := op.pc.toNat, word := op.word.toNat, pc := op.pc, seq := some seq }
    | (s, none) =>
      let outs := dests.zipIdx.map fun d => (upFrom 0 m).map fun i =>
        let old := (tileOf q d.1).row i
        brows.zipIdx.map fun b => mmaElem f ftz k (act.getD (d.2 * m + i) (0, 0)) b.1 (if z then 0 else rowElem 32 old b.2)
      let tally := Tally.ofList (outs.flatten.flatten.map Prod.snd)
      let ops := if ftz then flushedOps q f k m n (if four then images else []) (if z then [] else dests) (if four then none else some ta) tb else 0
      let tally := if ops = 0 then tally else { tally with fl := { tally.fl with fz := true }, flush := tally.flush + ops }
      let s := (dests.zip outs).foldl (fun s d => s.modCore c fun k =>
        (k.heal (inTile (BitVec.ofNat 3 d.1) 0 m ((32 * n + 63) / 64) 0)).setT (BitVec.ofNat 3 d.1) (d.2.zipIdx.foldl (fun t r => t.putRow r.2 (32 * n) (packRow 32 (r.1.map Prod.fst)) 0 0) (tileOf k d.1))) s
      let s := commitTally s c .tile tally
      let p := (k + passK f - 1) / passK f
      let rounds := if four ∧ arrs.length = 2 then 2 else 1
      let gen := (tileOf q tb).gen
      let (latches, reused) := (upFrom 0 (rounds * p)).foldl (fun a i =>
        let r := latchSlice a.1 (tb, i % p, f, ftz, gen)
        (r.1, a.2 + flag r.2)) ((q.reuse, 0) : List (Nat × Nat × Nat × Bool × Nat) × Nat)
      let s := s.modCore c fun k => { k with reuse := latches }
      let s := count (count s (TILE_REUSE c) reused) (TILE_BUSY c) (rounds * p * rows)
      tilePop s c op.word

/-! ### TLD and TST (R92 to R99, R453) -/

/-- A move's descriptor (Table 4.6). -/
structure MoveDesc where
  stride : Nat
  rnd : Bool
  tr : Bool
  tf : Nat
  mf : Nat
  cols : Nat
  rows : Nat
  deriving DecidableEq, Repr

/-- The fields of a descriptor. -/
def moveDesc (w : Word) : MoveDesc :=
  { stride := bitsOf w.toNat 63 32, rnd := bitOf w.toNat 22, tr := bitOf w.toNat 21, tf := bitsOf w.toNat 20 18,
    mf := bitsOf w.toNat 17 15, cols := bitsOf w.toNat 14 6 + 1, rows := bitsOf w.toNat 5 0 + 1 }

/-- Elements of a memory row. -/
def MoveDesc.rowLen (d : MoveDesc) : Nat := if d.tr then d.rows else d.cols
/-- Memory rows. -/
def MoveDesc.memRows (d : MoveDesc) : Nat := if d.tr then d.cols else d.rows
/-- Bytes of a memory row. -/
def MoveDesc.rowBytes (d : MoveDesc) : Nat := (d.rowLen * tfBits d.mf + 7) / 8
/-- Scale bytes of a memory row (R96). -/
def MoveDesc.scaleBytes (d : MoveDesc) : Nat := if isBlock d.mf then (d.rowLen + 31) / 32 else 0

/-- The checks of a move in order: the TILE_FINFO reason of the first that fails, 0 where it writes none (R453). -/
def moveCheck (st : Bool) (o : OpMov) (w : Word) : Option Nat :=
  let d := moveDesc w
  let src := if st then d.tf else d.mf
  let dst := if st then d.mf else d.tf
  if o.lo ≠ 0 then some 0
  else if bitsOf w.toNat 31 23 ≠ 0 ∨ 4 < d.tf ∨ 4 < d.mf ∨ rowCap d.tf < d.cols then some 4
  else if (src ≠ dst ∧ src ≠ 0 ∧ dst ≠ 0) ∨ (d.tr ∧ isBlock src) then some 5
  else if (d.rnd ∧ ¬(src = 0 ∧ (dst = 1 ∨ dst = 2))) ∨ (isBlock d.tf ∧ d.cols % 32 ≠ 0) ∨
      (st ∧ isBlock dst ∧ d.rowLen % 32 ≠ 0) then some 4
  else if o.rs3 ≠ 0 ∧ isBlock d.mf = false then some 4
  else none

/-- What converting rows has used and recorded so far: the lanes, the elements converted with a draw, and the tally. -/
structure ConvAcc where
  lanes : List Word
  e : Nat
  tally : Tally
  deriving DecidableEq, Repr

/-- One destination row converted (Table 4.7): its elements and block scales. `scs` gives each element's scale byte. -/
def convRow (src dst : Nat) (md : NMode) (sr : Bool) (vals scs : List Nat) (a : ConvAcc) : List Nat × List Nat × ConvAcc :=
  if src = dst then
    (vals, if isBlock src then (chunks 32 vals.length scs).map fun l => l.headD 0 else [], a)
  else if isBlock dst then
    let bs := (chunks 32 vals.length vals).map (toBlock (tfEl dst) md)
    (bs.flatMap Block.codes, bs.map Block.scale, { a with tally := (bs.flatMap Block.fls).foldl Tally.add a.tally })
  else if isBlock src then
    let rs := (vals.zip scs).map fun v => elementToF32 (tfEl src) md v.2 v.1
    (rs.map Prod.fst, [], { a with tally := (rs.map Prod.snd).foldl Tally.add a.tally })
  else
    let p := vals.foldl (fun (p : List Nat × ConvAcc) v =>
      if sr then
        let (r, ls) := drawLane p.2.lanes p.2.e
        let x := engConvertSR (tfFmt dst) md r v
        (x.1 :: p.1, { lanes := ls, e := p.2.e + 1, tally := p.2.tally.add x.2 })
      else
        let x := engConvert (tfFmt src) (tfFmt dst) md v
        (x.1 :: p.1, { p.2 with tally := p.2.tally.add x.2 })) ([], a)
    (p.1.reverse, [], p.2)

/-- A fill that can end now: each core that joined it may be given its data (R303). -/
def fillDue (s : State) (f : Fill) : Bool := f.reqs.all fun r => !heldBack (s.core (coreOf r.1)) (false, f.line)

/-- Room for a miss of a move: where the core or a slice has none, fills end until it has, the core's own first, as the move waits for
them. Fuel bounds the fills. -/
def makeRoom (c : CoreId) (a n : Nat) : Nat → State → State
  | 0, s => s
  | fuel + 1, s =>
    if loadAccepted s c a n then s
    else
      let own := (upFrom 0 8).findSome? fun i =>
        ((s.mem.slices.get (Fin.ofNat 8 i)).fills.find? fun f => (f.reqs.any fun r => r.1 == c.val) && fillDue s f).map fun f => (Fin.ofNat 8 i, f)
      let home := (linePieces a n).findSome? fun p =>
        let h := homeSlice s (lineOf p.1)
        ((s.mem.slices.get h).fills.find? (fillDue s)).map fun f => (h, f)
      match own.or home with
      | some (h, f) => makeRoom c a n fuel (fillDone s h f)
      | none => s

/-- A memory row or scale row read by a move: plain memory, or a register read whole as one access of 8 aligned bytes (R4, R188). -/
def moveRead (s : State) (c : CoreId) (a n : Nat) : State × RdRes :=
  if (spanRegion s a n).isSome then
    (linePieces a n).foldl (fun p x =>
      match p.2 with
      | .ok bs =>
        let t := if regionOf p.1 x.1 = some .stack then makeRoom c x.1 x.2 512 p.1 else p.1
        match coreLoad t c (defHint s c) x.1 x.2 with
        | (t, .ok more) => (t, .ok (bs ++ more))
        | r => r
      | _ => p) (s, .ok [])
  else if n = 8 ∧ a % 8 = 0 then
    match regionRead (drainMerge s c) (unalias c.val a) with
    | some (w, t) => (t, .ok (bytesOfNat 8 w.toNat))
    | none => (s, .addr a)
  else (s, .addr (firstBad s a n))

/-- A memory row or scale row written by a move, or the address of an error; a register's write waits as a scalar store of it does. -/
def moveWrite (s : State) (c : CoreId) (a : Nat) (bs : List Byte) : State × WRes :=
  let n := bs.length
  if (spanRegion s a n).isSome then (storeSpan s c (defHint s c) a bs, .ok)
  else if n = 8 ∧ a % 8 = 0 then
    let b := unalias c.val a
    let t := drainMerge s c
    if storesWait t c ∨ postWaits t b then (t, .wait a bs)
    else
      match regionWrite t c.val b (BitVec.ofNat 64 (natOfBytes bs)) with
      | some t => (t, .ok)
      | none => (s, .addr a)
  else (s, .addr (firstBad s a n))

/-- Whether a row or scale row of a move can be accessed at all; the address of an error. -/
def moveReach (s : State) (c : CoreId) (a n : Nat) : Option Nat :=
  if n = 0 ∨ (spanRegion s a n).isSome then none
  else if n = 8 ∧ a % 8 = 0 ∧ (regionOf s (unalias c.val a)).any (fun r => !r.plain) = true then none
  else some (firstBad s a n)

/-- How a move's memory rows have gone: the rows read, the exception that ends them, as row, vector, address, record and TILE_FINFO, and
whether an access must wait. -/
structure MoveAcc where
  got : List (Nat × Nat) := []
  stop : Option (Nat × Nat × Nat × Option Nat × Option (Nat × Nat)) := none
  wait : Bool := false

/-- Whether a move has a row or a scale row in registers. -/
def moveRegs (s : State) (c : CoreId) (d : MoveDesc) (base sbase : Nat) : Bool :=
  let far := fun (a n : Nat) => n == 8 && (regionOf s (unalias c.val (a % 2 ^ 64))).any fun r => !r.plain
  (upFrom 0 d.memRows).any fun m => far (base + m * d.stride) d.rowBytes || far (sbase + m * 16) d.scaleBytes

/-- Whether a move waits before it begins: an access to registers comes after the core's earlier stores (R185). -/
def moveHeld (s : State) (c : CoreId) (d : MoveDesc) (base sbase : Nat) : Bool :=
  (!(s.core c).mbuf.isEmpty || storesWait s c) && moveRegs s c d base sbase

/-- The memory rows of a move that an interrupt or a stop due at a core lets it reach, where no instruction before it is unretired (R45). -/
def moveRows (s : State) (c : CoreId) (d : MoveDesc) (cut : Option (Fin 512)) : Nat :=
  match cut with
  | some r => if cutDue s c && (s.core c).vecQ.isEmpty && (s.core c).tileQ.isEmpty then min d.memRows r else d.memRows
  | none => d.memRows

/-- A tile instruction that an interrupt or a stop has cut short: it restarts from its beginning (R43, R104). -/
def cutShort (s : State) (c : CoreId) : IRes := .halt (count s (TILE_RESTART c) 1)

/-- One memory row of a TLD read, with its scale bytes. -/
def loadRow (c : CoreId) (d : MoveDesc) (base sbase : Nat) (p : State × MoveAcc) (m : Nat) : State × MoveAcc :=
  if p.2.stop.isSome || p.2.wait then p
  else
    let s := p.1
    let a := (base + m * d.stride) % 2 ^ 64
    let sa := (sbase + m * 16) % 2 ^ 64
    let bad := fun (t : State) (v f : Nat) (q : Option Nat) (i : Option (Nat × Nat)) => (t, { p.2 with stop := some (m, v, f, q, i) })
    match moveReach s c a d.rowBytes, moveReach s c sa d.scaleBytes with
    | some f, _ => bad s 11 f none (some (m, f - a))
    | none, some f => bad s 11 f none (some (m, 0xFFFF))
    | none, none =>
      match moveRead s c a d.rowBytes with
      | (_, .wait) => (s, { p.2 with wait := true })
      | (t, .addr f) => bad t 11 f none (some (m, f - a))
      | (t, .poison f q) => bad t 1 f (some q) none
      | (t, .ok bs) =>
        if d.scaleBytes = 0 then (t, { p.2 with got := p.2.got ++ [(natOfBytes bs, 0)] })
        else
          match moveRead t c sa d.scaleBytes with
          | (_, .wait) => (s, { p.2 with wait := true })
          | (t, .addr f) => bad t 11 f none (some (m, 0xFFFF))
          | (t, .poison f q) => bad t 1 f (some q) none
          | (t, .ok sc) => (t, { p.2 with got := p.2.got ++ [(natOfBytes bs, natOfBytes sc)] })

/-- The exception that ends a move which has begun: it will restart (R104). -/
def moveFault (s : State) (c : CoreId) (z : Nat × Nat × Nat × Option Nat × Option (Nat × Nat)) : IRes :=
  let s := match z.2.2.2.2 with
    | some (m, o) => setFinfo s c 1 m o
    | none => s
  .trap (count s (TILE_RESTART c) 1) z.2.1 z.2.2.1 z.2.2.2.1 (s.core c).pc

/-- TLD: the memory is read and converted into a staging tile; the destination is written at retirement. -/
def execTld (c : CoreId) (o : OpMov) (s : State) : Outcome State Fault Refusal :=
  let w := encMov 0 o
  runInstr c w false .tile (fun s =>
    let k := s.core c
    let dw := k.getX o.rs2
    let d := moveDesc dw
    match moveCheck false o dw with
    | some r => tileIllegal s c r
    | none =>
      if k.tileQ.any fun op => !op.computes then .wait
      else if moveHeld s c d (k.getX o.rs1).toNat (k.getX o.rs3).toNat then .halt (drainMerge s c)
      else
        let upto := moveRows s c d o.cut
        let s := useTiles s c [o.t.toNat]
        let p := (upFrom 0 upto).foldl (loadRow c d (k.getX o.rs1).toNat (k.getX o.rs3).toNat) (s, {})
        if p.2.wait then .wait
        else
          match p.2.stop with
          | some z => moveFault (if z.1 = 0 then p.1 else cutTile p.1 c o.t.toNat) c z
          | none =>
            if upto < d.memRows then cutShort (if upto = 0 then p.1 else cutTile p.1 c o.t.toNat) c
            else
            let md := engMode s c .tile
            let lanes := lanesOf s c
            let q := (upFrom 0 d.rows).foldl (fun (q : List (Nat × Nat) × ConvAcc) r =>
              let at_ := fun (cc : Nat) => if d.tr then (p.2.got.getD cc (0, 0), r) else (p.2.got.getD r (0, 0), cc)
              let vals := (upFrom 0 d.cols).map fun cc => rowElem (tfBits d.mf) (at_ cc).1.1 (at_ cc).2
              let scs := if isBlock d.mf then (upFrom 0 d.cols).map fun cc => rowElem 8 (at_ cc).1.2 ((at_ cc).2 / 32) else []
              let x := convRow d.mf d.tf md d.rnd vals scs q.2
              (q.1 ++ [(packRow (tfBits d.tf) x.1, packRow 8 x.2.1)], x.2.2)) ([], { lanes := lanes, e := 0, tally := {} })
            let s := setLanes p.1 c (beatLanes s c lanes q.2.lanes (upFrom 0 q.2.e))
            tileIssue s c w lanes d.rnd (.tld o.t.toNat d.tf d.cols q.1 (flagBits q.2.tally.fl) q.2.tally.sat q.2.tally.flush)) s

/-- TLD retires: the staged elements and scale bytes replace the destination's, all others keep their values (R96, R98). -/
def tldRetire (s : State) (c : CoreId) (op : TileOp) (t f cols : Nat) (rows : List (Nat × Nat)) (fl sat flush : Nat) : State :=
  let healed := inTile (BitVec.ofNat 3 t) 0 rows.length ((cols * tfBits f + 63) / 64) (scaleWords f cols)
  let s := s.modCore c fun k => (k.heal healed).setT (BitVec.ofNat 3 t) (rows.zipIdx.foldl (fun q r =>
    q.putRow r.2 (cols * tfBits f) r.1.1 (if isBlock f then 8 * (cols / 32) else 0) r.1.2) (tileOf k t))
  tilePop (commitBits s c .tile fl sat flush) c op.word

/-- TILE_RETIRE: the oldest unretired tile instruction completes (R103). -/
def execTileRetire (c : CoreId) (s : State) : Outcome State Fault Refusal :=
  if s.still then next s s else
  if alive s c then
    match (s.core c).tileQ with
    | [] => next s s
    | op :: _ =>
      match op.work with
      | .mma four z f shape td ta tb mode base images => next s (mmaRetire s c op four z f shape td ta tb mode base images)
      | .tld t f cols rows fl sat flush => next s (tldRetire s c op t f cols rows fl sat flush)
  else next s s

/-- One memory row of a TST converted and written, with its scale bytes (R98, R99). -/
def storeRow (c : CoreId) (d : MoveDesc) (t : Tile) (md : NMode) (base sbase : Nat) (p : State × MoveAcc × ConvAcc) (m : Nat) :
    State × MoveAcc × ConvAcc :=
  if p.2.1.stop.isSome || p.2.1.wait then p
  else
    let s := p.1
    let a := (base + m * d.stride) % 2 ^ 64
    let sa := (sbase + m * 16) % 2 ^ 64
    let bad := fun (f o : Nat) => (s, { p.2.1 with stop := some (m, 11, f, none, some (m, o)) }, p.2.2)
    match moveReach s c a d.rowBytes, moveReach s c sa d.scaleBytes with
    | some f, _ => bad f (f - a)
    | none, some f => bad f 0xFFFF
    | none, none =>
      let at_ := fun (i : Nat) => if d.tr then (i, m) else (m, i)
      let vals := (upFrom 0 d.rowLen).map fun i => rowElem (tfBits d.tf) (t.row (at_ i).1) (at_ i).2
      let scs := if isBlock d.tf then (upFrom 0 d.rowLen).map fun i => rowElem 8 (t.scale (at_ i).1) ((at_ i).2 / 32) else []
      let x := convRow d.tf d.mf md d.rnd vals scs p.2.2
      match moveWrite s c a (bytesOfNat d.rowBytes (packRow (tfBits d.mf) x.1)) with
      | (_, .addr f) => bad f (f - a)
      | (s', .wait ..) => (s', { p.2.1 with wait := true }, p.2.2)
      | (s', _) =>
        if d.scaleBytes = 0 then (s', p.2.1, x.2.2)
        else
          match moveWrite s' c sa (bytesOfNat d.scaleBytes (packRow 8 x.2.1)) with
          | (_, .addr f) => bad f 0xFFFF
          | (s'', .wait ..) => (s'', { p.2.1 with wait := true }, p.2.2)
          | (s'', _) => (s'', p.2.1, x.2.2)

/-- TST: memory rows are written in ascending order as it runs; flags and counts are recorded as it completes. Where the store of a
register row must wait, it begins anew once it need not. -/
def execTst (c : CoreId) (o : OpMov) (s : State) : Outcome State Fault Refusal :=
  runInstr c (encMov 1 o) false .retired (fun s =>
    let k := s.core c
    let dw := k.getX o.rs2
    let d := moveDesc dw
    match moveCheck true o dw with
    | some r => tileIllegal s c r
    | none =>
      if moveHeld s c d (k.getX o.rs1).toNat (k.getX o.rs3).toNat then .halt (drainMerge s c)
      else
      let upto := moveRows s c d o.cut
      match regReads s c 0 (tileWords o.t.toNat d.rows (d.cols * tfBits d.tf) (scaleWords d.tf d.cols)) with
      | (t, some (_, seq, a)) => moveFault t c (0, 1, a, some seq, none)
      | (t, none) =>
        let p := (upFrom 0 upto).foldl
          (storeRow c d (k.getT o.t) (engMode s c .tile) (k.getX o.rs1).toNat (k.getX o.rs3).toNat)
          (t, {}, { lanes := lanesOf s c, e := 0, tally := {} })
        match p.2.1.stop with
        | some z => moveFault p.1 c z
        | none =>
          if p.2.1.wait then .halt p.1
          else if upto < d.memRows then cutShort p.1 c
          else
            let lanes := beatLanes s c (lanesOf s c) p.2.2.lanes (upFrom 0 p.2.2.e)
            .done (commitTally (if d.rnd then setLanes p.1 c lanes else p.1) c .tile p.2.2.tally)) s

/-! ### TZERO, TFREE, TGETV, TPUTV (R100, R101) -/

/-- Rows that an interrupted instruction was writing: unspecified until it completes on restart (R45, assumption 22). -/
def cutRows (n : Nat) : List Nat := (upFrom 0 4).map fun i => (Config.cutTile n i).toNat

/-- TZERO; cut short, it leaves the tile unspecified (R45). -/
def execTzero (c : CoreId) (o : OpTz) (s : State) : Outcome State Fault Refusal :=
  runInstr c (encTz o) false .retired (fun s =>
    if o.rest ≠ 0 then illegal s c
    else if o.cut && cutDue s c then cutShort (cutTile (useTiles s c [o.t.toNat]) c o.t.toNat) c
    else .done ((useTiles s c [o.t.toNat]).modCore c fun k =>
      (k.heal (inTile o.t 0 64 32 2)).setT o.t { rows := Vector.replicate 64 0, scales := Vector.replicate 64 0, gen := 0 })) s

/-- TFREE: in-use flags cleared, contents unchanged. -/
def execTfree (c : CoreId) (o : OpTf) (s : State) : Outcome State Fault Refusal :=
  runInstr c (encTf o) false .scalar (fun s =>
    if o.rest ≠ 0 then illegal s c
    else .done (s.setFld (TILE_INUSE c) fldTILE_INUSE_INUSE
      (s.fld (TILE_INUSE c) fldTILE_INUSE_INUSE &&& (255 - o.mask.toNat)))) s

/-- The rows 4G to 4G + 3 of a tile as a vector register. -/
def tileGroup (t : Tile) (g : Nat) : BitVec 8192 := BitVec.ofNat 8192 (packRow 2048 ((upFrom (4 * g) 4).map t.row))

/-- The rows 4G to 4G + 3 of a tile replaced. -/
def putGroup (t : Tile) (g : Nat) (rows : List Nat) : Tile := rows.zipIdx.foldl (fun q r => q.putRow (4 * g + r.2) 2048 r.1 0 0) t

/-- TGETV; cut short, it leaves its vector register unspecified (R45). -/
def execTgetv (c : CoreId) (o : OpTv) (s : State) : Outcome State Fault Refusal :=
  runInstr c (encTv 2 o) false .retired (fun s =>
    if o.rest ≠ 0 then illegal s c
    else
      match regReads s c 0 ((upFrom (128 * o.g.toNat) 128).map fun i => RegWord.tile o.t i) with
      | (t, some (_, seq, a)) => moveFault t c (0, 1, a, some seq, none)
      | (t, none) =>
        if o.cut && cutDue s c then
          let (n, t) := ((t.freeCtr, { t with freeCtr := t.freeCtr + 1 }) : Nat × State)
          cutShort (t.modCore c fun k => { k with v := k.v.set o.v.toFin (BitVec.ofNat 8192 (packRow 2048 (cutRows n))) }) c
        else .done (t.modCore c fun k => k.setV o.v (tileGroup (k.getT o.t) o.g.toNat))) s

/-- TPUTV: the scale column is unchanged; cut short, it leaves the rows it covers unspecified (R45). -/
def execTputv (c : CoreId) (o : OpTv) (s : State) : Outcome State Fault Refusal :=
  runInstr c (encTv 3 o) false .retired (fun s =>
    if o.rest ≠ 0 then illegal s c
    else
      let s := useTiles s c [o.t.toNat]
      match regReads s c 0 ((upFrom 0 128).map fun i => RegWord.vec o.v i) with
      | (t, some (_, seq, a)) => moveFault t c (0, 1, a, some seq, none)
      | (t, none) =>
        if o.cut && cutDue s c then
          let (n, t) := ((t.freeCtr, { t with freeCtr := t.freeCtr + 1 }) : Nat × State)
          cutShort (t.modCore c fun k => k.setT o.t (putGroup (k.getT o.t) o.g.toNat (cutRows n))) c
        else .done (t.modCore c fun k => (k.heal (inTile o.t (4 * o.g.toNat) (4 * o.g.toNat + 4) 32 0)).setT o.t
          (putGroup (k.getT o.t) o.g.toNat (rowElems 2048 (k.getV o.v).toNat 4)))) s

/-- ARRAY_RAMP_STEP: 12 cycles of a step, or the 64 cycles of the hold, have elapsed (Table 4.10). Where two compute instructions are
unretired, the rows of the later one become ready as the earlier one's end, so that neither the hold nor a Down step runs out. -/
def execArrayRampStep (c : CoreId) (s : State) : Outcome State Fault Refusal :=
  if s.still then next s s else
  let l := s.fld (TILE_RAMP c) fldTILE_RAMP_LEVEL
  let ready := decide (2 ≤ (s.core c).tileQ.countP TileOp.computes)
  if l = 0 then next s s
  else if ready ∧ (l = 4 ∨ s.test (TILE_RAMP c) fldTILE_RAMP_DOWN) then next s (rampRow s c)
  else if s.test (TILE_RAMP c) fldTILE_RAMP_DOWN then
    let t := s.setFld (TILE_RAMP c) fldTILE_RAMP_LEVEL (l - 1)
    next s (if l = 1 then t.setBit (TILE_RAMP c) fldTILE_RAMP_DOWN false else t)
  else if l < 4 then next s (s.setFld (TILE_RAMP c) fldTILE_RAMP_LEVEL (l + 1))
  else next s ((s.setFld (TILE_RAMP c) fldTILE_RAMP_LEVEL 3).setBit (TILE_RAMP c) fldTILE_RAMP_DOWN true)

end Sys2Proof.Machine
end

