-- ==== Sys2Proof/Machine/Xfer.lean ====
section
/-! DEFINITION. The transfer engines: starting descriptors, cutting and issuing requests, and completion (R189 to R191, R214, R289 to
R301). -/
namespace Sys2Proof.Machine
open Host

/-! ### Descriptors (Tables 11.1 and 11.2) -/

/-- The operation of a CTRL value. -/
def ctlOp (c : Nat) : Nat := c % 16
/-- GEN. -/
def ctlGen (c : Nat) : Bool := bitOf c 4
/-- ORD. -/
def ctlOrd (c : Nat) : Bool := bitOf c 5
/-- IRQ. -/
def ctlIrq (c : Nat) : Bool := bitOf c 6
/-- SIG. -/
def ctlSig (c : Nat) : Bool := bitOf c 7
/-- CLASS. -/
def ctlClass (c : Nat) : Nat := bitsOf c 9 8
/-- The number of rows. -/
def ctlRows (c : Nat) : Nat := bitsOf c 31 16 + 1

/-- Whether an operation reads a local source. -/
def readsLocal (op : Nat) : Bool := op == 0 || op == 2 || op == 4 || op == 5
/-- Whether an operation writes a local destination. -/
def writesLocal (op : Nat) : Bool := op == 0 || op == 1 || op == 3
/-- Whether an operation's requests are remote operations. -/
def goesRemote (op : Nat) : Bool := op == 1 || op == 2 || op == 4 || op == 5

/-- Whether bytes from an address lie in the control-register, blaze or exact-accumulator regions. -/
def inRegs (a n : Nat) : Bool :=
  (decide (ctrlBase < a + n) && decide (a < ctrlBase + 0x10000000)) ||
    (decide (blazeBase < a + n) && decide (a < blazeBase + 0x100000)) ||
    (decide (exaccBase < a + n) && decide (a < exaccBase + 0xB80000))

/-- Whether rows from a local address lie well: 32-byte aligned, outside the registers. -/
def badLocal (a stride len rows : Nat) : Bool :=
  a % 32 != 0 || (upFrom 0 rows).any fun m => inRegs (a + m * stride) len

/-- Whether an address is the base of an exact accumulator (R284). -/
def accBase (a : Nat) : Bool :=
  decide (exaccBase ≤ a) && decide (a < exaccBase + 0xC00000) && decide ((a - exaccBase) % 0x100000 < 0x80000) && a % 128 == 0

/-- A field of a descriptor's bytes. -/
def dfield (b : List Byte) (o n : Nat) : Nat := natOfBytes ((b.drop o).take n)

/-- The conditions of R291 for BAD_DESC, on the descriptor's 56 bytes. -/
def badDesc (b : List Byte) : Bool :=
  let c := dfield b 0 8
  let op := ctlOp c
  let src := dfield b 8 8
  let dst := dfield b 16 8
  let len := dfield b 24 4
  let ss := dfield b 32 4
  let ds := dfield b 36 4
  let rows := ctlRows c
  decide (7 ≤ op) || bitsOf c 63 32 != 0 || bitsOf c 15 10 != 0 || dfield b 28 4 != 0 || dfield b 52 4 != 0 ||
    (ctlGen c && !readsLocal op) || len % 32 != 0 || ss % 32 != 0 || ds % 32 != 0 || malformed (dfield b 40 8) ||
    (if op = 6 then !ctlSig c || src != 0 || dst != 0 || len != 0 || ss != 0 || ds != 0 || rows != 1
     else
      len == 0 || (op == 3 && (src != 0 || ss != 0)) ||
        (readsLocal op && badLocal src ss len rows) || (writesLocal op && badLocal dst ds len rows) ||
        (op == 1 && malformed src) || (op == 2 && malformed dst) ||
        ((op == 4 || op == 5) && (ds != 0 || malformed dst || !accBase (gLocal dst))))

/-- The pieces of a row: each ends at the next 256-byte boundary of its local side (R295), as offset and length; fuel bounds them. -/
def cutRow : Nat → Nat → Nat → Nat → List (Nat × Nat)
  | 0, _, _, _ => []
  | fuel + 1, loc, off, left =>
    if left = 0 then []
    else
      let n := min left (256 - loc % 256)
      (off, n) :: cutRow fuel (loc + n) (off + n) (left - n)

/-- A descriptor cut into requests, in ascending row and address. -/
def cutDesc (op src dst len ss ds rows firstId : Nat) : List XReq :=
  let all := (upFrom 0 rows).flatMap fun m =>
    let sa := src + m * ss
    let da := dst + m * ds
    (cutRow (len / 256 + 2) (if readsLocal op then sa else da) 0 len).map fun p =>
      let r : XReq := { id := 0, off := m * len + p.1, src := if op = 3 then 0 else sa + p.1,
                        dst := if op = 4 ∨ op = 5 then dst else da + p.1, len := p.2, data := [], wr := false }
      r
  all.mapIdx fun i r => { r with id := firstId + i }

/-! ### An engine's bookkeeping -/

/-- A descriptor that may still issue. -/
def XDesc.live (d : XDesc) : Bool := !d.aborted && d.fail.isNone

/-- An active descriptor replaced. -/
def putDesc (s : State) (e : Fin 16) (d : XDesc) : State :=
  s.modEng e fun x => { x with active := x.active.map fun q => if q.id = d.id then d else q }

/-- The requests of an engine that hold tags, with their descriptors. -/
def tagged (x : XEng) : List (XDesc × XReq) := x.active.flatMap fun d => d.issued.map fun r => (d, r)

/-- A failure at a byte offset: no further request is issued, and the lowest failing offset stands (R298). -/
def XDesc.failAt (d : XDesc) (off code rst : Nat) : XDesc :=
  let f := match d.fail with
    | some (o, c, r) => if off < o then (off, code, rst) else (o, c, r)
    | none => (off, code, rst)
  { d with todo := [], fail := some f }

/-- The stacks whose memory a span of bytes lies in. -/
def stacksIn (s : State) (a n : Nat) : List Nat :=
  if a < stackTop then ((upFrom (granule a) (granule (a + n - 1) + 1 - granule a)).map (stackOf s)).eraseDups else []

/-- The stacks a request reads or writes (R302). -/
def reqStacks (s : State) (op : Nat) (r : XReq) : List Nat :=
  ((if readsLocal op then stacksIn s r.src r.len else []) ++ if writesLocal op then stacksIn s r.dst r.len else []).eraseDups

/-! ### Order among requests (R296) -/

/-- A span of bytes on a device. -/
abbrev Span := Nat × Nat × Nat

/-- A local span. -/
def locSpan (s : State) (a n : Nat) : Span := (ownDevice s, a, n)
/-- A span at a global address. -/
def farSpan (s : State) (g n : Nat) : Span := (if isSelf s (gDevice g) then ownDevice s else gDevice g, gLocal g, n)

/-- Whether two lists of spans share a byte. -/
def touch (xs ys : List Span) : Bool :=
  xs.any fun x => ys.any fun y => x.1 == y.1 && decide (x.2.1 < y.2.1 + y.2.2) && decide (y.2.1 < x.2.1 + x.2.2)

/-- What a request writes, accumulators apart. -/
def spansW (s : State) (op : Nat) (r : XReq) : List Span :=
  if writesLocal op then [locSpan s r.dst r.len] else if op = 2 then [farSpan s r.dst r.len] else []

/-- Every byte a request touches. -/
def spansAll (s : State) (op : Nat) (r : XReq) : List Span :=
  spansW s op r ++ (if readsLocal op then [locSpan s r.src r.len] else if op = 1 then [farSpan s r.src r.len] else []) ++
    if op = 4 ∨ op = 5 then [farSpan s r.dst 128] else []

/-- Whether a request must wait for one already issued: for its write, or for a GET's read of what it is to write. -/
def blockedBy (s : State) (e : XDesc × XReq) (op : Nat) (r : XReq) : Bool :=
  let o := ctlOp e.1.ctrl
  touch (spansW s o e.2) (spansAll s op r) || (o == 1 && touch [farSpan s e.2.src e.2.len] (spansW s op r))

/-! ### Choosing a request (R296) -/

/-- The window of an engine: the next 256 requests of its active descriptors. -/
def window (x : XEng) : List (XDesc × XReq) := ((x.active.filter XDesc.live).flatMap fun d => d.todo.map fun r => (d, r)).take 256

/-- Whether a request could issue now, but for its order. -/
def canIssue (s : State) (x : XEng) (d : XDesc) (r : XReq) : Bool :=
  let op := ctlOp d.ctrl
  decide ((tagged x).length < 2048) &&
    (reqStacks s op r).all (fun st => decide (((tagged x).filter fun e => (reqStacks s (ctlOp e.1.ctrl) e.2).contains st).length < 512)) &&
    (!goesRemote op || endpointTakes s (gDevice (if op = 1 then r.src else r.dst))) &&
    (!readsLocal op || (spanRegion s r.src r.len).isNone || !readWaits s r.src r.len)

/-- The requests of the window that are ready: they can issue, and none before them touches a byte of theirs. -/
def readyReqs (s : State) (x : XEng) : List (XDesc × XReq) :=
  ((window x).foldl (fun (acc : List (XDesc × XReq) × List Span) p =>
    let op := ctlOp p.1.ctrl
    let mine := spansAll s op p.2
    let ok := canIssue s x p.1 p.2 && !touch acc.2 mine && !((tagged x).any fun e => blockedBy s e op p.2)
    (if ok then acc.1 ++ [p] else acc.1, acc.2 ++ mine)) ([], [])).1

/-- The local side of a request. -/
def localSide (op : Nat) (r : XReq) : Nat := if readsLocal op then r.src else r.dst

/-- Whether a request is grouped by its DRAM row; a GET and requests of other regions issue in window order. -/
def isGrouped (p : XDesc × XReq) : Bool := ctlOp p.1.ctrl != 1 && decide (localSide (ctlOp p.1.ctrl) p.2 < stackTop)

/-- The place of a group's stack, pseudo-channel and DRAM bank in their order. -/
def groupPlace (s : State) (p : XDesc × XReq) : Nat :=
  let g := dramRow s (localSide (ctlOp p.1.ctrl) p.2)
  (g.1 * 32 + g.2.1) * 48 + g.2.2.1

/-- The group of a request as one number, never 0. -/
def groupNum (s : State) (p : XDesc × XReq) : Nat :=
  groupPlace s p + 18432 * (dramRow s (localSide (ctlOp p.1.ctrl) p.2)).2.2.2 + 1

/-- The choice among grouped requests. -/
def pickGrouped (s : State) (x : XEng) (ps : List (XDesc × XReq)) : Option (XDesc × XReq) :=
  match if x.runLen < 16 then ps.find? fun p => groupNum s p == x.lastGroup else none with
  | some p => some p
  | none =>
    let last := (x.lastGroup + 18432 - 1) % 18432
    let dist := fun p => if x.lastGroup = 0 then groupPlace s p else (groupPlace s p + 18432 - last - 1) % 18432
    ps.foldl (fun acc p => match acc with
      | some q => if dist p < dist q then some p else some q
      | none => some p) none

/-- The request an engine issues next: the two sets alternate while both have one ready. -/
def pickReq (s : State) (x : XEng) : Option (XDesc × XReq) :=
  let rs := readyReqs s x
  let grouped := pickGrouped s x (rs.filter isGrouped)
  let other := rs.find? fun p => !isGrouped p
  if x.lastStack then other.or grouped else grouped.or other

/-! ### Signals (R299, step 2) -/

/-- The completion SIGNAL of a descriptor leaves. -/
def sigSend (s : State) (e : Fin 16) (d : XDesc) : State :=
  let k := mkReq s 6 (gDevice d.sigaddr) (ctlClass d.ctrl) (gLocal d.sigaddr) 0 d.post.tag (padUnits (bytesOfNat 4 d.siginc))
  issueReq (putDesc s e { d with signal := 1 }) k (.engineSignal e d.id) d.sigaddr

/-- Whether SIGADDR names the device of DST. -/
def sigAtDst (s : State) (d : XDesc) : Bool :=
  let dev := if ctlOp d.ctrl = 2 ∨ ctlOp d.ctrl = 4 ∨ ctlOp d.ctrl = 5 then gDevice d.dst else selfAlias
  (isSelf s dev && isSelf s (gDevice d.sigaddr)) || dev == gDevice d.sigaddr

/-- The active descriptors of an engine of which every operation, and every one of the earlier ones, has been issued. -/
def allIssued (x : XEng) : List XDesc := x.active.takeWhile fun d => d.todo.isEmpty || !d.live

/-- The signals that need not wait for completion leave once every operation of their descriptors, and of every earlier one of the
engine, has been issued. -/
def earlySignals (s : State) (e : Fin 16) : State :=
  (allIssued (s.xfer.get e)).foldl (fun s d =>
    if ctlSig d.ctrl ∧ d.signal = 0 ∧ d.live ∧ sigAtDst s d ∧ endpointTakes s (gDevice d.sigaddr) then sigSend s e d else s) s

/-! ### Starting (R291 to R294) -/

/-- XFER_ERR and its count. -/
def xferErr (s : State) (e : Fin 16) (code addr : Nat) : State :=
  let s := s.setReg (XFER_ERR e) (fldXFER_ERR_CODE.set code (fldXFER_ERR_ADDR.set addr 0))
  count s (XFER_ERR_COUNT e) 1

/-- A descriptor whose bytes were read starts. -/
def startDesc (s : State) (e : Fin 16) (q : XPost) (b : List Byte) : State :=
  let x := s.xfer.get e
  let c := dfield b 0 8
  let bad := badDesc b
  let todo := if bad ∨ q.aborted ∨ ctlOp c = 6 then []
    else cutDesc (ctlOp c) (dfield b 8 8) (dfield b 16 8) (dfield b 24 4) (dfield b 32 4) (dfield b 36 4) (ctlRows c) (x.nextReq + 2)
  let d : XDesc := {
    id := x.nextReq + 1, post := q, ctrl := c, src := dfield b 8 8, dst := dfield b 16 8, len := dfield b 24 4,
    sstride := dfield b 32 4, dstride := dfield b 36 4, sigaddr := dfield b 40 8, siginc := dfield b 48 4, todo := todo,
    issued := [], gens := [], stale := false, fail := if bad then some (0, 3, 0) else none, aborted := q.aborted, signal := 0 }
  earlySignals (postNext (s.modEng e fun x =>
    { x with queue := x.queue.drop 1, active := x.active ++ [d], nextReq := x.nextReq + 1 + todo.length }) e) e

/-- The descriptor at the head of an engine's queue starts, if it is of the operation named and its turn has come. One that cannot be
read is dropped; one of a reserved operation starts under any name. -/
def startHead (s : State) (e : Fin 16) (op : Nat) : State :=
  let x := s.xfer.get e
  match x.queue with
  | [] => s
  | q :: _ =>
    if 8 ≤ x.active.length then s
    else
      match memRead s (48 + e) q.sub q.addr 56 with
      | (_, .wait) => s
      | (t, .ok b) =>
        let c := dfield b 0 8
        if (ctlOp c ≠ op ∧ ctlOp c < 7) ∨ (ctlOrd c ∧ x.active.isEmpty = false) then s else startDesc t e q b
      | (t, _) => xferErr (postNext (t.modEng e fun x => { x with queue := x.queue.drop 1 }) e) e 9 q.addr

/-! ### Requests (R295, R297, R298) -/

/-- The write generations of the sectors of a span as they stand. -/
def gensOf (s : State) (a n : Nat) : NMap Nat := (upFrom (a / 32) ((a + n + 31) / 32 - a / 32)).map fun i => (i, mapGet (fun _ => 0) s.mem.gens i)

/-- The generations a descriptor has seen, with those of a source read added; after its last read they are held against those that
stand (R191). -/
def XDesc.sawGens (d : XDesc) (s : State) (a n : Nat) : XDesc :=
  if ctlGen d.ctrl then
    let g := (gensOf s a n).foldl (fun m p => if (mapFind m p.1).isSome then m else mapInsert m p.1 p.2) d.gens
    { d with gens := g,
             stale := d.todo.isEmpty && g.any fun p => mapGet (fun _ => 0) s.mem.gens p.1 != p.2 }
  else d

/-- The engine's tags and the order of its choices once a request has issued. -/
def noteIssue (s : State) (e : Fin 16) (p : XDesc × XReq) : State :=
  let n := groupNum s p
  s.modEng e fun x =>
    let t := (tagged x).length
    let x : XEng := { x with hwm := max x.hwm t, lastStack := isGrouped p }
    if isGrouped p then { x with lastGroup := n, runLen := if n = x.lastGroup then x.runLen + 1 else 1 } else x

/-- The remote operation of a request. -/
def sendReq (s : State) (e : Fin 16) (d : XDesc) (r : XReq) : State :=
  let op := ctlOp d.ctrl
  let g := if op = 1 then r.src else r.dst
  let arg := if op = 1 then r.len / 8 - 1 else if op = 2 then 0 else r.len / 4 - 1
  issueReq s (mkReq s op (gDevice g) (ctlClass d.ctrl) (gLocal g) arg d.post.tag r.data) (.engine e d.id r.id) g

/-- A request issues: its source is read, and it leaves or awaits its write. -/
def issueXReq (s : State) (e : Fin 16) (d : XDesc) (r : XReq) : State :=
  let op := ctlOp d.ctrl
  let d := { d with todo := d.todo.filter fun q => q.id != r.id }
  if readsLocal op then
    match memRead s (48 + e) d.post.sub r.src r.len with
    | (_, .wait) => s
    | (t, .addr a) => putDesc t e (d.failAt (r.off + (a - r.src)) 4 0)
    | (t, .poison a _) => putDesc t e (d.failAt (r.off + (a - r.src)) 5 0)
    | (t, .ok bs) =>
      let r := { r with data := bs }
      let d := d.sawGens t r.src r.len
      let t := noteIssue (putDesc t e { d with issued := d.issued ++ [r] }) e (d, r)
      if goesRemote op then sendReq t e d r else t
  else
    let r := { r with data := if op = 3 then List.replicate r.len 0 else [] }
    let t := noteIssue (putDesc s e { d with issued := d.issued ++ [r] }) e (d, r)
    if goesRemote op then sendReq t e d r else t

/-- REQUEST_ISSUE. -/
def execRequestIssue (e : Fin 16) (s : State) : Outcome State Fault Refusal :=
  if s.still then next s s else
  match pickReq s (s.xfer.get e) with
  | some p => next s (earlySignals (issueXReq s e p.1 p.2) e)
  | none => next s s

/-- A request releases its tag: with no failure its bytes are counted, with one its descriptor fails at an offset. -/
def releaseReq (s : State) (e : Fin 16) (d : XDesc) (r : XReq) (fail : Option (Nat × Nat × Nat)) : State :=
  let d := { d with issued := d.issued.filter fun q => q.id != r.id }
  match fail with
  | none => count (putDesc s e d) (XFER_BYTES e) r.len
  | some (off, code, rst) => putDesc s e (d.failAt off code rst)

/-- A request of an engine with its descriptor. -/
def findReq (s : State) (e : Fin 16) (id : Nat) : Option (XDesc × XReq) := (tagged (s.xfer.get e)).find? fun p => p.2.id == id

/-- The local write of a request. -/
def writeReq (s : State) (e : Fin 16) (d : XDesc) (r : XReq) (bs : List Byte) : State :=
  let w : Wr := { m := 48 + e, sub := d.post.sub, hint := 0, slot := runSlot s }
  match memWrite s w r.dst bs with
  | (t, .ok) => releaseReq t e d r none
  | (t, .addr a) => releaseReq t e d r (some (r.off + (a - r.dst), 4, 0))
  | (t, .wait a rest) =>
    let t := addWait t w a rest (.engine e r.id)
    putDesc t e { d with issued := d.issued.map fun q => if q.id = r.id then { q with wr := true } else q }
  | (t, .refused a) => releaseReq t e d r (some (r.off + (a - r.dst), 4, 0))
  | (t, .pool a) => releaseReq t e d r (some (r.off + (a - r.dst), 4, 0))

/-- The completion code of a remote status, and RSTATUS. -/
def farCode (status : Nat) : Nat × Nat := if status = 13 then (7, 0) else (6, status)

/-- The outstanding remote operation of an engine, where it has been answered. -/
def farAnswer (s : State) (i : Issuer) : Option (RideReq × Nat × List Byte) :=
  match s.ride.reqs.find? fun q => q.issuer == i with
  | some q => q.answer.map fun a => (q, a.1, a.2)
  | none => none

/-- A request completes, if its acknowledgement has returned. -/
def completeReq (s : State) (e : Fin 16) (id : Nat) : State :=
  match findReq s e id with
  | none => s
  | some (d, r) =>
    if r.wr then s
    else if goesRemote (ctlOp d.ctrl) then
      match farAnswer s (.engine e d.id r.id) with
      | none => s
      | some (q, status, data) =>
        let s := chanEvent (reqDrop s q.id) (80 + e.val / 4)
        if status ≠ 0 then releaseReq s e d r (some (r.off, farCode status))
        else if ctlOp d.ctrl = 1 then writeReq s e d r ((data ++ List.replicate r.len 0).take r.len)
        else releaseReq s e d r none
    else writeReq (chanEvent s (80 + e.val / 4)) e d r r.data

/-- REQUEST_COMPLETE. -/
def execRequestComplete (e : Fin 16) (id : Nat) (s : State) : Outcome State Fault Refusal :=
  if s.still then next s s else next s (completeReq s e id)

/-! ### Completion (R299 to R301) -/

/-- A descriptor's completion code, failing offset and remote status. -/
def descCode (d : XDesc) : Nat × Nat × Nat :=
  match d.fail with
  | some (off, code, rst) => if d.aborted then (8, off, 0) else (code, off, rst)
  | none => if d.aborted then (8, 0, 0) else if d.stale then (2, 0, 0) else (1, 0, 0)

/-- The STATUS record (Table 11.4). -/
def statusRecord (d : XDesc) : Nat :=
  let c := descCode d
  2 ^ 63 + c.2.2 % 256 * 2 ^ 48 + c.2.1 % 2 ^ 32 * 256 + c.1

/-- STATUS has been written: the counts advance and XFER_DONE is raised; the descriptor leaves. -/
def endDesc (s : State) (e : Fin 16) (d : XDesc) : State :=
  let s := count s (XFER_DONE_COUNT e) 1
  let s := if 3 ≤ (descCode d).1 then xferErr s e (descCode d).1 d.post.addr else s
  let s := s.modEng e fun x => { x with active := x.active.filter fun q => q.id != d.id }
  let c := d.post.core.getD (s.fld (XFER_CTRL e) fldXFER_CTRL_CORE)
  if ctlIrq d.ctrl ∧ c < 48 then raiseInt s (coreOf c) 22 else s

/-- STATUS is written, and the descriptor ends once that has been performed (R299, steps 3 and 4). -/
def finishDesc (s : State) (e : Fin 16) (d : XDesc) : State :=
  let w : Wr := { m := 48 + e, sub := d.post.sub, hint := 0, slot := runSlot s }
  match memWrite s w (d.post.addr + 56) (bytesOfNat 8 (statusRecord d)) with
  | (t, .wait a rest) => addWait (putDesc t e { d with signal := 2 }) w a rest (.status e d.id)
  | (t, _) => endDesc t e d

/-- A descriptor completes, step by step: its requests first, then its SIGNAL, then STATUS and XFER_DONE. -/
def completeDesc (s : State) (e : Fin 16) (id : Nat) : State :=
  match (s.xfer.get e).active.find? fun d => d.id == id with
  | none => s
  | some d =>
    if d.issued.isEmpty = false ∨ (d.live ∧ d.todo.isEmpty = false) ∨ d.signal = 2 then s
    else if d.signal = 1 then
      match farAnswer s (.engineSignal e d.id) with
      | none => s
      | some (q, status, _) =>
        let d := if status = 0 ∨ d.fail.isSome then d else { d with fail := some (0, farCode status) }
        finishDesc (reqDrop s q.id) e d
    else if ctlSig d.ctrl ∧ d.live then
      if endpointTakes s (gDevice d.sigaddr) ∧ (sigAtDst s d = false ∨ (allIssued (s.xfer.get e)).any fun q => q.id == d.id) then sigSend s e d
      else s
    else finishDesc s e d

/-- DESCRIPTOR_COMPLETE. -/
def execDescriptorComplete (e : Fin 16) (desc : Nat) (s : State) : Outcome State Fault Refusal :=
  if s.still then next s s else
  next s (earlySignals (completeDesc s e desc) e)

/-- XFER_COPY. -/
def execXferCopy (e : Fin 16) (s : State) : Outcome State Fault Refusal := if s.still then next s s else next s (startHead s e 0)
/-- XFER_GET. -/
def execXferGet (e : Fin 16) (s : State) : Outcome State Fault Refusal := if s.still then next s s else next s (startHead s e 1)
/-- XFER_PUT. -/
def execXferPut (e : Fin 16) (s : State) : Outcome State Fault Refusal := if s.still then next s s else next s (startHead s e 2)
/-- XFER_ZERO. -/
def execXferZero (e : Fin 16) (s : State) : Outcome State Fault Refusal := if s.still then next s s else next s (startHead s e 3)
/-- XFER_EXSUM. -/
def execXferExsum (e : Fin 16) (s : State) : Outcome State Fault Refusal := if s.still then next s s else next s (startHead s e 4)
/-- XFER_EXSUMSQ. -/
def execXferExsumsq (e : Fin 16) (s : State) : Outcome State Fault Refusal := if s.still then next s s else next s (startHead s e 5)
/-- XFER_SIGNAL. -/
def execXferSignal (e : Fin 16) (s : State) : Outcome State Fault Refusal := if s.still then next s s else next s (startHead s e 6)

/-! ### Writes that waited for a pool granule (R214) -/

/-- A core's atomic whose write waited ends: the old value enters rd, and the core goes on, unless it was stopped meanwhile (R214). -/
def atomEnd (s : State) (c : CoreId) (rd : BitVec 5) (old : Word) : State :=
  if (s.core c).wait = .atom then s.modCore c fun k => { (k.setX rd old) with wait := .running, pc := k.pc + 4 } else s

/-- Where a write that waited was refused, if it was. -/
def WRes.stopped : WRes → Option Nat
  | .ok => none
  | .addr a => some a
  | .refused a => some a
  | .pool a => some a
  | .wait a _ => some a

/-- A waiting write ends: a core's store has retired, and one refused outside every ring is recorded; a core's atomic completes; an
engine's request releases its tag or its descriptor ends; a remote request is answered. -/
def poolEnd (s : State) (w : PoolWait) (r : WRes) : State :=
  let ringed := fun (s : State) (c : Nat) => match r with
    | .refused a => logRinged s c a (w.addr + w.bytes.length - a)
    | _ => s
  match w.src with
  | .core c => ringed s c
  | .atom c rd old => atomEnd (ringed s c) (coreOf c) (BitVec.ofNat 5 rd) old
  | .engine e id =>
    match findReq s (Fin.ofNat 16 e) id with
    | some (d, q) => releaseReq s (Fin.ofNat 16 e) d q (r.stopped.map fun a => (q.off + (a - q.dst), 4, 0))
    | none => s
  | .status e id =>
    match (s.xfer.get (Fin.ofNat 16 e)).active.find? fun d => d.id == id with
    | some d => endDesc s (Fin.ofNat 16 e) d
    | none => s
  | .remote p old =>
    match r with
    | .ok => drainHeld (answer s p 0 old)
    | .addr _ => drainHeld (answer s p 1 [])
    | _ => drainHeld (answer s p 2 [])

/-- POOL_WAIT_RESUME. -/
def execPoolWaitResume (i : Nat) (s : State) : Outcome State Fault Refusal :=
  if s.still then next s s else
  match poolResume s i with
  | (t, some (w, r)) => next s (poolEnd t w r)
  | (t, none) => next s t

end Sys2Proof.Machine
end

