-- ==== Sys2Proof/Machine/Dispatch.lean ====
section
/-! DEFINITION. The dispatcher: one arm per command, each one direct call of its meaning. -/
namespace Sys2Proof.Machine
open Host

/-- The effect of a command on everything but the queue. -/
def exec (i : Instr) (s : State) : Host.Outcome State Fault Refusal :=
  match i with
  | .add c o => Sys2Proof.Machine.execAdd c o s
  | .sub c o => Sys2Proof.Machine.execSub c o s
  | .and c o => Sys2Proof.Machine.execAnd c o s
  | .or c o => Sys2Proof.Machine.execOr c o s
  | .xor c o => Sys2Proof.Machine.execXor c o s
  | .sll c o => Sys2Proof.Machine.execSll c o s
  | .srl c o => Sys2Proof.Machine.execSrl c o s
  | .sra c o => Sys2Proof.Machine.execSra c o s
  | .slt c o => Sys2Proof.Machine.execSlt c o s
  | .sltu c o => Sys2Proof.Machine.execSltu c o s
  | .mul c o => Sys2Proof.Machine.execMul c o s
  | .mulh c o => Sys2Proof.Machine.execMulh c o s
  | .mulhu c o => Sys2Proof.Machine.execMulhu c o s
  | .div c o => Sys2Proof.Machine.execDiv c o s
  | .divu c o => Sys2Proof.Machine.execDivu c o s
  | .rem c o => Sys2Proof.Machine.execRem c o s
  | .remu c o => Sys2Proof.Machine.execRemu c o s
  | .addi c o => Sys2Proof.Machine.execAddi c o s
  | .andi c o => Sys2Proof.Machine.execAndi c o s
  | .ori c o => Sys2Proof.Machine.execOri c o s
  | .xori c o => Sys2Proof.Machine.execXori c o s
  | .slti c o => Sys2Proof.Machine.execSlti c o s
  | .slli c o => Sys2Proof.Machine.execSlli c o s
  | .srli c o => Sys2Proof.Machine.execSrli c o s
  | .srai c o => Sys2Proof.Machine.execSrai c o s
  | .lui c o => Sys2Proof.Machine.execLui c o s
  | .lb c o => Sys2Proof.Machine.execLb c o s
  | .lh c o => Sys2Proof.Machine.execLh c o s
  | .lw c o => Sys2Proof.Machine.execLw c o s
  | .ld c o => Sys2Proof.Machine.execLd c o s
  | .lbu c o => Sys2Proof.Machine.execLbu c o s
  | .lhu c o => Sys2Proof.Machine.execLhu c o s
  | .lwu c o => Sys2Proof.Machine.execLwu c o s
  | .sb c o => Sys2Proof.Machine.execSb c o s
  | .sh c o => Sys2Proof.Machine.execSh c o s
  | .sw c o => Sys2Proof.Machine.execSw c o s
  | .sd c o => Sys2Proof.Machine.execSd c o s
  | .beq c o => Sys2Proof.Machine.execBeq c o s
  | .bne c o => Sys2Proof.Machine.execBne c o s
  | .blt c o => Sys2Proof.Machine.execBlt c o s
  | .bge c o => Sys2Proof.Machine.execBge c o s
  | .bltu c o => Sys2Proof.Machine.execBltu c o s
  | .bgeu c o => Sys2Proof.Machine.execBgeu c o s
  | .jal c o => Sys2Proof.Machine.execJal c o s
  | .jalr c o => Sys2Proof.Machine.execJalr c o s
  | .fadd c o => Sys2Proof.Machine.execFadd c o s
  | .fsub c o => Sys2Proof.Machine.execFsub c o s
  | .fmul c o => Sys2Proof.Machine.execFmul c o s
  | .fdiv c o => Sys2Proof.Machine.execFdiv c o s
  | .fsqrt c o => Sys2Proof.Machine.execFsqrt c o s
  | .fmadd c o => Sys2Proof.Machine.execFmadd c o s
  | .feq c o => Sys2Proof.Machine.execFeq c o s
  | .flt c o => Sys2Proof.Machine.execFlt c o s
  | .fle c o => Sys2Proof.Machine.execFle c o s
  | .fcvtff c o => Sys2Proof.Machine.execFcvtff c o s
  | .fcvtfh c o => Sys2Proof.Machine.execFcvtfh c o s
  | .fcvthf c o => Sys2Proof.Machine.execFcvthf c o s
  | .fcvtif c o => Sys2Proof.Machine.execFcvtif c o s
  | .fcvtuf c o => Sys2Proof.Machine.execFcvtuf c o s
  | .fcvtfi c o => Sys2Proof.Machine.execFcvtfi c o s
  | .fcvtfu c o => Sys2Proof.Machine.execFcvtfu c o s
  | .fmvxf c o => Sys2Proof.Machine.execFmvxf c o s
  | .fmvfx c o => Sys2Proof.Machine.execFmvfx c o s
  | .fstatr c o => Sys2Proof.Machine.execFstatr c o s
  | .fstatw c o => Sys2Proof.Machine.execFstatw c o s
  | .flw c o => Sys2Proof.Machine.execFlw c o s
  | .fld c o => Sys2Proof.Machine.execFld c o s
  | .fsw c o => Sys2Proof.Machine.execFsw c o s
  | .fsd c o => Sys2Proof.Machine.execFsd c o s
  | .lcall c o => Sys2Proof.Machine.execLcall c o s
  | .brk c o => Sys2Proof.Machine.execBrk c o s
  | .qwin c o => Sys2Proof.Machine.execQwin c o s
  | .wfi c o => Sys2Proof.Machine.execWfi c o s
  | .rfe c o => Sys2Proof.Machine.execRfe c o s
  | .fseal c o => Sys2Proof.Machine.execFseal c o s
  | .taskj c o => Sys2Proof.Machine.execTaskj c o s
  | .canreq c o => Sys2Proof.Machine.execCanreq c o s
  | .cstop c o => Sys2Proof.Machine.execCstop c o s
  | .tmma c o => Sys2Proof.Machine.execTmma c o s
  | .tmma4 c o => Sys2Proof.Machine.execTmma4 c o s
  | .tld c o => Sys2Proof.Machine.execTld c o s
  | .tst c o => Sys2Proof.Machine.execTst c o s
  | .tzero c o => Sys2Proof.Machine.execTzero c o s
  | .tfree c o => Sys2Proof.Machine.execTfree c o s
  | .tgetv c o => Sys2Proof.Machine.execTgetv c o s
  | .tputv c o => Sys2Proof.Machine.execTputv c o s
  | .vld c o => Sys2Proof.Machine.execVld c o s
  | .vldff c o => Sys2Proof.Machine.execVldff c o s
  | .vldw c o => Sys2Proof.Machine.execVldw c o s
  | .vst c o => Sys2Proof.Machine.execVst c o s
  | .vstn c o => Sys2Proof.Machine.execVstn c o s
  | .vstns c o => Sys2Proof.Machine.execVstns c o s
  | .vadd c o => Sys2Proof.Machine.execVadd c o s
  | .vsub c o => Sys2Proof.Machine.execVsub c o s
  | .vmul c o => Sys2Proof.Machine.execVmul c o s
  | .vmulhu c o => Sys2Proof.Machine.execVmulhu c o s
  | .vand c o => Sys2Proof.Machine.execVand c o s
  | .vor c o => Sys2Proof.Machine.execVor c o s
  | .vxor c o => Sys2Proof.Machine.execVxor c o s
  | .vsll c o => Sys2Proof.Machine.execVsll c o s
  | .vsrl c o => Sys2Proof.Machine.execVsrl c o s
  | .vsra c o => Sys2Proof.Machine.execVsra c o s
  | .vmin c o => Sys2Proof.Machine.execVmin c o s
  | .vmax c o => Sys2Proof.Machine.execVmax c o s
  | .vminu c o => Sys2Proof.Machine.execVminu c o s
  | .vmaxu c o => Sys2Proof.Machine.execVmaxu c o s
  | .vabsdu c o => Sys2Proof.Machine.execVabsdu c o s
  | .vfadd c o => Sys2Proof.Machine.execVfadd c o s
  | .vfsub c o => Sys2Proof.Machine.execVfsub c o s
  | .vfmul c o => Sys2Proof.Machine.execVfmul c o s
  | .vfdiv c o => Sys2Proof.Machine.execVfdiv c o s
  | .vfsqrt c o => Sys2Proof.Machine.execVfsqrt c o s
  | .vfmax c o => Sys2Proof.Machine.execVfmax c o s
  | .vfmin c o => Sys2Proof.Machine.execVfmin c o s
  | .vfabs c o => Sys2Proof.Machine.execVfabs c o s
  | .vfneg c o => Sys2Proof.Machine.execVfneg c o s
  | .vfexp c o => Sys2Proof.Machine.execVfexp c o s
  | .vflog c o => Sys2Proof.Machine.execVflog c o s
  | .vfrsqrt c o => Sys2Proof.Machine.execVfrsqrt c o s
  | .vfrecip c o => Sys2Proof.Machine.execVfrecip c o s
  | .vfceq c o => Sys2Proof.Machine.execVfceq c o s
  | .vfclt c o => Sys2Proof.Machine.execVfclt c o s
  | .vfcle c o => Sys2Proof.Machine.execVfcle c o s
  | .vfma c o => Sys2Proof.Machine.execVfma c o s
  | .vfms c o => Sys2Proof.Machine.execVfms c o s
  | .vfnma c o => Sys2Proof.Machine.execVfnma c o s
  | .vredsum c o => Sys2Proof.Machine.execVredsum c o s
  | .vredmax c o => Sys2Proof.Machine.execVredmax c o s
  | .vredmin c o => Sys2Proof.Machine.execVredmin c o s
  | .vfredsum c o => Sys2Proof.Machine.execVfredsum c o s
  | .vfredmax c o => Sys2Proof.Machine.execVfredmax c o s
  | .vfredmin c o => Sys2Proof.Machine.execVfredmin c o s
  | .vfdot c o => Sys2Proof.Machine.execVfdot c o s
  | .vsad c o => Sys2Proof.Machine.execVsad c o s
  | .vsadf c o => Sys2Proof.Machine.execVsadf c o s
  | .vsetvl c o => Sys2Proof.Machine.execVsetvl c o s
  | .vmv c o => Sys2Proof.Machine.execVmv c o s
  | .vsplat c o => Sys2Proof.Machine.execVsplat c o s
  | .vceq c o => Sys2Proof.Machine.execVceq c o s
  | .vclt c o => Sys2Proof.Machine.execVclt c o s
  | .vcltu c o => Sys2Proof.Machine.execVcltu c o s
  | .vmand c o => Sys2Proof.Machine.execVmand c o s
  | .vmor c o => Sys2Proof.Machine.execVmor c o s
  | .vmxor c o => Sys2Proof.Machine.execVmxor c o s
  | .vmandn c o => Sys2Proof.Machine.execVmandn c o s
  | .vmpop c o => Sys2Proof.Machine.execVmpop c o s
  | .vmfirst c o => Sys2Proof.Machine.execVmfirst c o s
  | .vcvtfw c o => Sys2Proof.Machine.execVcvtfw c o s
  | .vcvtwf c o => Sys2Proof.Machine.execVcvtwf c o s
  | .vcvtwfs c o => Sys2Proof.Machine.execVcvtwfs c o s
  | .vcvtif c o => Sys2Proof.Machine.execVcvtif c o s
  | .vcvtfi c o => Sys2Proof.Machine.execVcvtfi c o s
  | .vcvtb c o => Sys2Proof.Machine.execVcvtb c o s
  | .vcvtbf c o => Sys2Proof.Machine.execVcvtbf c o s
  | .vrand c o => Sys2Proof.Machine.execVrand c o s
  | .vrseed c o => Sys2Proof.Machine.execVrseed c o s
  | .vmom c o => Sys2Proof.Machine.execVmom c o s
  | .vbias c o => Sys2Proof.Machine.execVbias c o s
  | .vsign c o => Sys2Proof.Machine.execVsign c o s
  | .vsrnd c o => Sys2Proof.Machine.execVsrnd c o s
  | .fence c o => Sys2Proof.Machine.execFence c o s
  | .fenceG c o => Sys2Proof.Machine.execFenceG c o s
  | .amoadd c o => Sys2Proof.Machine.execAmoadd c o s
  | .amoswap c o => Sys2Proof.Machine.execAmoswap c o s
  | .amoand c o => Sys2Proof.Machine.execAmoand c o s
  | .amoor c o => Sys2Proof.Machine.execAmoor c o s
  | .amoxor c o => Sys2Proof.Machine.execAmoxor c o s
  | .amomax c o => Sys2Proof.Machine.execAmomax c o s
  | .amomin c o => Sys2Proof.Machine.execAmomin c o s
  | .amomaxu c o => Sys2Proof.Machine.execAmomaxu c o s
  | .amominu c o => Sys2Proof.Machine.execAmominu c o s
  | .amocas c o => Sys2Proof.Machine.execAmocas c o s
  | .rget c o => Sys2Proof.Machine.execRget c o s
  | .rput c o => Sys2Proof.Machine.execRput c o s
  | .ratom c o => Sys2Proof.Machine.execRatom c o s
  | .rexsum c o => Sys2Proof.Machine.execRexsum c o s
  | .rexsumsq c o => Sys2Proof.Machine.execRexsumsq c o s
  | .rservice c o => Sys2Proof.Machine.execRservice c o s
  | .bsig c o => Sys2Proof.Machine.execBsig c o s
  | .bwait c o => Sys2Proof.Machine.execBwait c o s
  | .takeInterrupt b => Sys2Proof.Machine.execTakeInterrupt b s
  | .fetchLineFill c line => Sys2Proof.Machine.execFetchLineFill c line s
  | .tileRetire c => Sys2Proof.Machine.execTileRetire c s
  | .mergePerform c idx => Sys2Proof.Machine.execMergePerform c idx s
  | .l2FillComplete slice line => Sys2Proof.Machine.execL2FillComplete slice line s
  | .stackAccess addr errs => Sys2Proof.Machine.execStackAccess addr errs s
  | .marchRunEnd rep fail => Sys2Proof.Machine.execMarchRunEnd rep fail s
  | .pteSetComplete st => Sys2Proof.Machine.execPteSetComplete st s
  | .subCloseEffect k => Sys2Proof.Machine.execSubCloseEffect k s
  | .poolWaitResume idx => Sys2Proof.Machine.execPoolWaitResume idx s
  | .claimResponse p => Sys2Proof.Machine.execClaimResponse p s
  | .voteReady p => Sys2Proof.Machine.execVoteReady p s
  | .voteDoom p => Sys2Proof.Machine.execVoteDoom p s
  | .voteRefuse p => Sys2Proof.Machine.execVoteRefuse p s
  | .voteFlipped p => Sys2Proof.Machine.execVoteFlipped p s
  | .voteClaim p => Sys2Proof.Machine.execVoteClaim p s
  | .voteMirrored p => Sys2Proof.Machine.execVoteMirrored p s
  | .recvCommit p => Sys2Proof.Machine.execRecvCommit p s
  | .recvDiscard p => Sys2Proof.Machine.execRecvDiscard p s
  | .recvRetire p => Sys2Proof.Machine.execRecvRetire p s
  | .xferCopy e => Sys2Proof.Machine.execXferCopy e s
  | .xferGet e => Sys2Proof.Machine.execXferGet e s
  | .xferPut e => Sys2Proof.Machine.execXferPut e s
  | .xferZero e => Sys2Proof.Machine.execXferZero e s
  | .xferExsum e => Sys2Proof.Machine.execXferExsum e s
  | .xferExsumsq e => Sys2Proof.Machine.execXferExsumsq e s
  | .xferSignal e => Sys2Proof.Machine.execXferSignal e s
  | .requestIssue e => Sys2Proof.Machine.execRequestIssue e s
  | .requestComplete e id => Sys2Proof.Machine.execRequestComplete e id s
  | .descriptorComplete e desc => Sys2Proof.Machine.execDescriptorComplete e desc s
  | .flitReceive port f => Sys2Proof.Machine.execFlitReceive port f s
  | .trainingComplete port errs syms ok => Sys2Proof.Machine.execTrainingComplete port errs syms ok s
  | .joinAccept port => Sys2Proof.Machine.execJoinAccept port s
  | .rideGet p => Sys2Proof.Machine.execRideGet p s
  | .ridePut p => Sys2Proof.Machine.execRidePut p s
  | .rideAtom p => Sys2Proof.Machine.execRideAtom p s
  | .rideExsum p => Sys2Proof.Machine.execRideExsum p s
  | .rideExsumsq p => Sys2Proof.Machine.execRideExsumsq p s
  | .rideSignal p => Sys2Proof.Machine.execRideSignal p s
  | .rideWait p => Sys2Proof.Machine.execRideWait p s
  | .rideService p => Sys2Proof.Machine.execRideService p s
  | .rideMirrorPut p => Sys2Proof.Machine.execRideMirrorPut p s
  | .rideResponse p => Sys2Proof.Machine.execRideResponse p s
  | .busyResend id => Sys2Proof.Machine.execBusyResend id s
  | .holdTimeout src cls psn => Sys2Proof.Machine.execHoldTimeout src cls psn s
  | .failover id => Sys2Proof.Machine.execFailover id s
  | .remoteCompletion id => Sys2Proof.Machine.execRemoteCompletion id s
  | .bwaitRetire c => Sys2Proof.Machine.execBwaitRetire c s
  | .post v => Sys2Proof.Machine.execPost v s
  | .taskDone c => Sys2Proof.Machine.execTaskDone c s
  | .holdEntry c => Sys2Proof.Machine.execHoldEntry c s
  | .holdWake c => Sys2Proof.Machine.execHoldWake c s
  | .activityStart k => Sys2Proof.Machine.execActivityStart k s
  | .coreRestWake c => Sys2Proof.Machine.execCoreRestWake c s
  | .deviceWake source b => Sys2Proof.Machine.execDeviceWake source b s
  | .avsFrame m ok vdone => Sys2Proof.Machine.execAvsFrame m ok vdone s
  | .poreset b => Sys2Proof.Machine.execPoreset b s
  | .warmrst b => Sys2Proof.Machine.execWarmrst b s
  | .wdnReset b => Sys2Proof.Machine.execWdnReset b s
  | .mgmtFrame f => Sys2Proof.Machine.execMgmtFrame f s
  | .faultRecord e => Sys2Proof.Machine.execFaultRecord e s
  | .registerWrite m a v => Sys2Proof.Machine.execRegisterWrite m a v s
  | .timer c => Sys2Proof.Machine.execTimer c s
  | .vectorRetire c => Sys2Proof.Machine.execVectorRetire c s
  | .quietWindowEnd c => Sys2Proof.Machine.execQuietWindowEnd c s
  | .wardenStopTaken c => Sys2Proof.Machine.execWardenStopTaken c s
  | .coreSwiWrite c v => Sys2Proof.Machine.execCoreSwiWrite c v s
  | .numModeApply c => Sys2Proof.Machine.execNumModeApply c s
  | .arrayRampStep c => Sys2Proof.Machine.execArrayRampStep c s
  | .vecVlApply c => Sys2Proof.Machine.execVecVlApply c s
  | .quiescentApply c => Sys2Proof.Machine.execQuiescentApply c s
  | .prefetch c idx => Sys2Proof.Machine.execPrefetch c idx s
  | .deadfall c v => Sys2Proof.Machine.execDeadfall c v s
  | .thrashWindow slice => Sys2Proof.Machine.execThrashWindow slice s
  | .marchGo v => Sys2Proof.Machine.execMarchGo v s
  | .pteSet st v => Sys2Proof.Machine.execPteSet st v s
  | .accClear st idx v => Sys2Proof.Machine.execAccClear st idx v s
  | .accAdd st idx v => Sys2Proof.Machine.execAccAdd st idx v s
  | .accAddsq st idx v => Sys2Proof.Machine.execAccAddsq st idx v s
  | .subOpen k => Sys2Proof.Machine.execSubOpen k s
  | .subCloseKeep k => Sys2Proof.Machine.execSubCloseKeep k s
  | .subCloseDiscard k => Sys2Proof.Machine.execSubCloseDiscard k s
  | .silenceTimeout member => Sys2Proof.Machine.execSilenceTimeout member s
  | .outcomeTimeout ring => Sys2Proof.Machine.execOutcomeTimeout ring s
  | .resolveRetry ring lead => Sys2Proof.Machine.execResolveRetry ring lead s
  | .voteAlive p => Sys2Proof.Machine.execVoteAlive p s
  | .ringNextWrite v => Sys2Proof.Machine.execRingNextWrite v s
  | .ringGstepWrite v => Sys2Proof.Machine.execRingGstepWrite v s
  | .xferPost m e v => Sys2Proof.Machine.execXferPost m e v s
  | .xferAbort e => Sys2Proof.Machine.execXferAbort e s
  | .replayRequest port ack => Sys2Proof.Machine.execReplayRequest port ack s
  | .replayTimeout port => Sys2Proof.Machine.execReplayTimeout port s
  | .portFailure port => Sys2Proof.Machine.execPortFailure port s
  | .fecThreshold port ended => Sys2Proof.Machine.execFecThreshold port ended s
  | .retrain port => Sys2Proof.Machine.execRetrain port s
  | .joinRefuse port => Sys2Proof.Machine.execJoinRefuse port s
  | .streamExpiry src cls => Sys2Proof.Machine.execStreamExpiry src cls s
  | .duplicateWaitExpiry id => Sys2Proof.Machine.execDuplicateWaitExpiry id s
  | .blzValueWrite b v => Sys2Proof.Machine.execBlzValueWrite b v s
  | .blzAddWrite b v => Sys2Proof.Machine.execBlzAddWrite b v s
  | .cancel v => Sys2Proof.Machine.execCancel v s
  | .sensorReading q t => Sys2Proof.Machine.execSensorReading q t s
  | .activityEnd k mon => Sys2Proof.Machine.execActivityEnd k mon s
  | .forActWrite k v => Sys2Proof.Machine.execForActWrite k v s
  | .coreRest c => Sys2Proof.Machine.execCoreRest c s
  | .thermalTrip q t => Sys2Proof.Machine.execThermalTrip q t s
  | .railAck k => Sys2Proof.Machine.execRailAck k s
  | .avsTimeout k => Sys2Proof.Machine.execAvsTimeout k s
  | .clockStep c => Sys2Proof.Machine.execClockStep c s
  | .ageMeasure mon => Sys2Proof.Machine.execAgeMeasure mon s
  | .mailboxPost v => Sys2Proof.Machine.execMailboxPost v s
  | .svcqBaseWrite v => Sys2Proof.Machine.execSvcqBaseWrite v s
  | .wtSeedWrite v => Sys2Proof.Machine.execWtSeedWrite v s
  | .wtPointWrite k v => Sys2Proof.Machine.execWtPointWrite k v s
  | .pmbusPoll r => Sys2Proof.Machine.execPmbusPoll r s
  | .gpioEdge pin => Sys2Proof.Machine.execGpioEdge pin s
  | .updFallbackSet c v => Sys2Proof.Machine.execUpdFallbackSet c v s
  | .updCountInc c k => Sys2Proof.Machine.execUpdCountInc c k s
  | .claimResend ring lead => Sys2Proof.Machine.execClaimResend ring lead s
  | .wtXportHoldRelease idx => Sys2Proof.Machine.execWtXportHoldRelease idx s
  | .bankModeChange => Sys2Proof.Machine.execBankModeChange s
  | .ringOpen => Sys2Proof.Machine.execRingOpen s
  | .openAccept => Sys2Proof.Machine.execOpenAccept s
  | .seal => Sys2Proof.Machine.execSeal s
  | .ringCtrlDiscard => Sys2Proof.Machine.execRingCtrlDiscard s
  | .prepareComplete => Sys2Proof.Machine.execPrepareComplete s
  | .mirrorDrainComplete => Sys2Proof.Machine.execMirrorDrainComplete s
  | .aliveTimer => Sys2Proof.Machine.execAliveTimer s
  | .recoverResolve => Sys2Proof.Machine.execRecoverResolve s
  | .resetQuietEnd => Sys2Proof.Machine.execResetQuietEnd s
  | .postAccept => Sys2Proof.Machine.execPostAccept s
  | .foresterTick => Sys2Proof.Machine.execForesterTick s
  | .fcapAdjust => Sys2Proof.Machine.execFcapAdjust s
  | .heatInAssert => Sys2Proof.Machine.execHeatInAssert s
  | .heatInRelease => Sys2Proof.Machine.execHeatInRelease s
  | .domainPowerDownDone => Sys2Proof.Machine.execDomainPowerDownDone s
  | .wakeComplete => Sys2Proof.Machine.execWakeComplete s
  | .oscCalibration => Sys2Proof.Machine.execOscCalibration s
  | .agePlan => Sys2Proof.Machine.execAgePlan s
  | .agePlanPeriod => Sys2Proof.Machine.execAgePlanPeriod s
  | .launchDrained => Sys2Proof.Machine.execLaunchDrained s
  | .drainTimeout => Sys2Proof.Machine.execDrainTimeout s
  | .wdnInfo => Sys2Proof.Machine.execWdnInfo s
  | .wdnQuote => Sys2Proof.Machine.execWdnQuote s
  | .wdnCert => Sys2Proof.Machine.execWdnCert s
  | .wdnLaunch => Sys2Proof.Machine.execWdnLaunch s
  | .wdnStop => Sys2Proof.Machine.execWdnStop s
  | .wdnRelease => Sys2Proof.Machine.execWdnRelease s
  | .wdnRest => Sys2Proof.Machine.execWdnRest s
  | .wdnOff => Sys2Proof.Machine.execWdnOff s
  | .wdnFlashRead => Sys2Proof.Machine.execWdnFlashRead s
  | .wdnFlashWrite => Sys2Proof.Machine.execWdnFlashWrite s
  | .wdnAgeRead => Sys2Proof.Machine.execWdnAgeRead s
  | .wdnLimits => Sys2Proof.Machine.execWdnLimits s
  | .wdnEnroll => Sys2Proof.Machine.execWdnEnroll s
  | .wdnFloorRaise => Sys2Proof.Machine.execWdnFloorRaise s
  | .wdnFaultRead => Sys2Proof.Machine.execWdnFaultRead s
  | .wdnMboxService => Sys2Proof.Machine.execWdnMboxService s
  | .wdnTelemetry => Sys2Proof.Machine.execWdnTelemetry s
  | .smbStatus => Sys2Proof.Machine.execSmbStatus s
  | .smbJunctionTemp => Sys2Proof.Machine.execSmbJunctionTemp s
  | .smbModulePower => Sys2Proof.Machine.execSmbModulePower s
  | .smbWdnBoot => Sys2Proof.Machine.execSmbWdnBoot s
  | .smbDieid => Sys2Proof.Machine.execSmbDieid s
  | .tapBypass => Sys2Proof.Machine.execTapBypass s
  | .tapIdcode => Sys2Proof.Machine.execTapIdcode s
  | .tapSamplePreload => Sys2Proof.Machine.execTapSamplePreload s
  | .tapExtest => Sys2Proof.Machine.execTapExtest s
  | .tapClamp => Sys2Proof.Machine.execTapClamp s
  | .tapHighz => Sys2Proof.Machine.execTapHighz s
  | .tapExtestPulse => Sys2Proof.Machine.execTapExtestPulse s
  | .tapExtestTrain => Sys2Proof.Machine.execTapExtestTrain s
  | .poresetNAssert => Sys2Proof.Machine.execPoresetNAssert s
  | .vddAonRemoval => Sys2Proof.Machine.execVddAonRemoval s
  | .mgmtPortModeAlternate => Sys2Proof.Machine.execMgmtPortModeAlternate s

end Sys2Proof.Machine
end

