-- ==== Sys2Proof/Machine/Step.lean ====
section
/-! DEFINITION. One step of the block: the command at the front of the queue, or one cycle of REFCLK_CORE where none waits. -/
namespace Sys2Proof.Machine

/-- A core over one cycle of REFCLK_CORE: out of Hold its cycle count and free-running generators advance by its clock's cycles (R49,
R142); TIMER, in its register block, follows its comparison in Hold too (R51, Table 14.2). A core in Rest or Off stands still. -/
def coreTick (s : State) (c : CoreId) : State :=
  if 3 ≤ s.fld (PWR_CORE c) fldPWR_CORE_STATE then s
  else if inHold s c then timerUpdate s c
  else
    let n := s.fld (PWR_CORE c) fldPWR_CORE_FREQ
    let s := s.setReg (CORE_CYCLE c) (s.reg (CORE_CYCLE c) + BitVec.ofNat 64 n)
    timerUpdate (freeRun s c n) c

/-- REFCLK_CORE cycles of one hour. -/
def hourTicks : Nat := 360000000000

/-- One cycle of REFCLK_CORE: REFTIME counts and powered hours with it; where other clocks than the Warden's run, cores run on, page-kind commands go on, ports send their flits, and
held requests that can be performed are performed (R49, R281, R309, R318, R319, R382). -/
def tick (s : State) : State :=
  let s := s.setReg (CORE_REFTIME 0) (s.reg (CORE_REFTIME 0) + 1)
  let s := if refTime s % hourTicks = 0 then countSat s AGE_HOURS fldAGE_HOURS_HOURS 1 else s
  if s.still then s
  else
    let s := allCores.foldl restTry (allCores.foldl coreTick s)
    let s := (upFrom 0 12).foldl (fun s st => pteRun s st 12) s
    drainHeld (pathCheck (flitTick s))

/-- One step: the command at the front of the queue has its effect on a state whose queue is the rest; on an empty queue time passes. -/
def step (s : State) : Host.Outcome State Fault Refusal :=
  match s.pending with
  | c :: rest => exec c { s with pending := rest }
  | [] => next s (tick s)

/-- The state with the command that a word spells put at the front of its queue: no row of the table has bits, so no word spells one. -/
def State.withFetchWord (s : State) (nbits w : Nat) : State :=
  match decodeTableWord nbits w with
  | some c => { s with pending := c :: s.pending }
  | none => s

end Sys2Proof.Machine
end

