-- ==== Sys2Proof/Safety.lean ====
section
/-! DEFINITION. What a safe run is: every step answers a next state. The spec gives every command an effect, so a run of this block that
ends otherwise has met a command without a meaning. -/
namespace Sys2Proof.Machine
open Host

/-- A step that goes on. -/
def stepsOn (s : State) : Prop := ∃ t, step s = .next t

/-- A run of `n` steps that goes on throughout. -/
def runsSafely : Nat → State → Prop
  | 0, _ => True
  | n + 1, s => ∃ t, step s = .next t ∧ runsSafely n t

/-- The commands of a queue are all well formed. -/
def queueWf (s : State) (wf : Instr → Bool) : Prop := ∀ i ∈ s.pending, wf i = true

/-! ### Where an instruction completes -/

/-- A core at an instruction boundary at which nothing else is due: its clock runs, it is neither stopped nor waiting, the instruction at
its PC can be fetched, and nothing waits for the boundary or is unretired ahead of an instruction that needs `n`. -/
structure Ready (s : State) (c : CoreId) (n : Need) : Prop where
  runs : canRun s c = true
  issues : mayIssue s c n = true
  idle : boundaryIdle (s.core c) = true
  noStep : (s.core c).stepDue = none
  noTiles : (s.core c).tileQ = []
  stepOff : s.test (CORE_STATUS c) fldCORE_STATUS_STEP = false
  fetch : fetchable s (s.core c).pc.toNat = true
  noCheck : (s.core c).mcDue = []
  noSpill : (s.core c).spilled = false

/-- A core at Ranger level. -/
def atRanger (s : State) (c : CoreId) : Prop := s.fld (CORE_STATUS c) fldCORE_STATUS_LEVEL ≠ 0

/-- The state in which a core has gone on to the next instruction with its registers changed. -/
def advance (s : State) (c : CoreId) (f : CoreSt → CoreSt) : State := s.modCore c fun k => { f k with pc := k.pc + 4 }

/-- An instruction that takes an exception of its own: vector, fault address and saved PC; its word goes to CORE_CAUSE. -/
def takes (s : State) (c : CoreId) (w : IWord) (vector faddr : Nat) (pc : Word) : Outcome State Fault Refusal :=
  next s (enter s c { vector := vector, faddr := faddr, word := w.toNat, pc := pc, seq := none })

/-- No read meets an error: no unit of memory or of an L1, no register word and no residue check is upset, and Windthrow does not act. -/
def errorFree (s : State) : Prop :=
  wtOn s = false ∧ memClean s.mem = true ∧ ∀ c, (s.core c).bad = [] ∧ (s.core c).badRes = [] ∧ (s.core c).l1Bad = []

/-- `n` bytes from an address lie in one core's array, from an offset upward, and no write waits for any of them. -/
def inArray (s : State) (k off a n : Nat) : Prop := (∀ i < n, regionOf s (a + i) = some (.array k (off + i))) ∧ behindWait s a n = false

/-- `n` bytes from an address lie in one bank, which no destructive test and no change of mode holds, and for which no
write waits. -/
def inBank (s : State) (b a n : Nat) : Prop :=
  (∀ i < n, regionOf s (a + i) = some (.bank b)) ∧ marchWait s (.bank b) = false ∧ behindWait s a n = false

/-- A vector or update instruction can run whole: its core is ready, no register word or result is upset, and no interrupt or stop is due
at a beat boundary, whatever boundary its command names. -/
structure VecReady (s : State) (c : CoreId) : Prop where
  ready : Ready s c .vector
  quiet : wtOn s = false
  sound : (s.core c).bad = [] ∧ (s.core c).badRes = []
  uncut : cutDue s c = false

/-- Whether an instruction acts on element `e` of width `g`: those from VPROG.DONE up to `min (VL, 8192 / g)` that its mask makes active. -/
def acts (s : State) (c : CoreId) (g : Nat) (men : Bool) (km : BitVec 3) (e : Nat) : Bool :=
  decide (s.fld (VEC_VPROG c) fldVEC_VPROG_DONE ≤ e) && decide (e < min (s.fld (VEC_VL c) fldVEC_VL_VL) (8192 / g)) &&
    (!men || ((s.core c).getM km).getLsbD e)

/-- How often a lane has stepped as element `e` draws from it: once for each element before it that has drawn from it (R141); in
free-running mode each beat of `1024 / g` elements that has ended has stepped every lane as often as the lane that drew most (R142). -/
def laneSteps (s : State) (c : CoreId) (g : Nat) (act : Nat → Bool) (l e : Nat) : Nat :=
  let drew := fun (lo hi l : Nat) => (upFrom lo (hi - lo)).countP fun i => act i && i % 32 == l
  if s.test (VEC_RNG c) fldVEC_RNG_MODE then drew 0 e l
  else
    let epb := 1024 / g
    ((upFrom 0 (e / epb)).map fun b => (upFrom 0 32).foldl (fun n l => max n (drew (b * epb) (b * epb + epb) l)) 0).sum +
      drew (e / epb * epb) e l

/-- The state of a lane as element `e` draws from it. -/
def laneAt (s : State) (c : CoreId) (g : Nat) (act : Nat → Bool) (l e : Nat) : Word :=
  Nat.repeat (rngNext l) (laneSteps s c g act l e) (s.reg (VEC_RNG_STATE c l))

/-- The draw of element `e`. -/
def drawOf (s : State) (c : CoreId) (g : Nat) (act : Nat → Bool) (e : Nat) : Nat := rngOut (laneAt s c g act (e % 32) e)

/-- What every completed vector or update instruction with at least one element leaves: the next PC, VPROG 0, the instruction as the
youngest unretired one, and tiles and every other core as they were. -/
structure VecCompleted (s t : State) (c : CoreId) : Prop where
  pc : (t.core c).pc = (s.core c).pc + 4
  vprog : t.reg (VEC_VPROG c) = 0
  unret : ∃ op, (t.core c).vecQ = (s.core c).vecQ ++ [op] ∧ op.pc = (s.core c).pc
  tiles : (t.core c).tiles = (s.core c).tiles
  others : ∀ d, d ≠ c → (t.core d).x = (s.core d).x ∧ (t.core d).f = (s.core d).f ∧ (t.core d).v = (s.core d).v ∧
    (t.core d).m = (s.core d).m ∧ (t.core d).tiles = (s.core d).tiles

/-- The vector registers after a write of the acting elements of one: `f e` in element `e`, every other element and register unchanged. -/
def writesElems (s t : State) (c : CoreId) (vd : BitVec 5) (w : Nat) (act : Nat → Bool) (f : Nat → Nat) : Prop :=
  (∀ e, e < 8192 / w → elemV ((t.core c).getV vd) w e = if act e then f e % 2 ^ w else elemV ((s.core c).getV vd) w e) ∧
  ∀ r, r ≠ vd → (t.core c).getV r = (s.core c).getV r

/-- The mask registers after a write of the acting bits of one. -/
def writesBits (s t : State) (c : CoreId) (md : BitVec 3) (act : Nat → Bool) (f : Nat → Bool) : Prop :=
  (∀ e, e < 1024 → ((t.core c).getM md).getLsbD e = if act e then f e else ((s.core c).getM md).getLsbD e) ∧
  ∀ r, r ≠ md → (t.core c).getM r = (s.core c).getM r

/-- The bytes a core sees from an address upward: its own buffered stores, the newest first, over memory. -/
def sees (s : State) (c : CoreId) (a n : Nat) : List Byte :=
  (upFrom a n).map fun b =>
    ((s.core c).mbuf.foldl (fun acc e => (mapFind e.bytes b).or acc) none).getD (memByte s (coreSub s c) b)

/-- The state's maps are in canonical form: no register is listed that reads as its reset value does, and memory is as `Memory.wf` says;
and no active descriptor of an engine has a number that is still to be given out. -/
def Canonical (s : State) : Prop :=
  mapWf regReset s.regs = true ∧ Memory.wf s.mem = true ∧ ∀ e : Fin 16, ∀ d ∈ (s.xfer.get e).active, d.id ≤ (s.xfer.get e).nextReq

/-- A performance event counter can count `n` more without saturating. -/
def counts (s : State) (a n : Nat) : Prop := (s.reg a).toNat % 2 ^ 48 + n ≤ max48

/-- The registers that two states may differ in. -/
def sameRegs (s t : State) (as : List Nat) : Prop := ∀ a, a ∉ as → t.reg a = s.reg a

/-! ### The fabric -/

/-- A packet leaves the endpoint: it waits for a port, or stands whole among those that a port is to send. -/
def leaves (t : State) (k : Packet) : Prop := k ∈ t.ride.outbox ∨ ∃ q : Fin 36, (k, 0) ∈ (t.ride.ports.get q).txq

/-- A request from another device that is next in its stream stands first of its like in a receive buffer of an endpoint whose clocks
run, that holds no request, with no write waiting in a stack and Windthrow idle; its ADDR and STATUS are as every request's. -/
structure Arrives (s : State) (p : Packet) (op : Nat) : Prop where
  live : s.still = false
  came : ∃ q, (q, p) ∈ s.ride.inbox
  isOp : p.op = op ∧ p.resp = false
  here : p.dst = ownDevice s
  other : p.src ≠ ownDevice s
  up : ∃ i : Fin 36, portState s i = 3
  idle : s.ride.held = [] ∧ s.mem.poolWait = [] ∧ wtOn s = false
  fresh : p.psn < 2 ^ 32 ∧ rxFind s p.src p.cls = some { src := p.src, cls := p.cls, mark := p.psn, done := [] }
  sound : p.addr < 2 ^ 44 ∧ p.status = 0 ∧ p.rsv = false

/-- A request has been answered and its PSN counts as performed: the response, with its status and payload, has left for its source. -/
def answered (s t : State) (p : Packet) (status : Nat) (data : List Byte) : Prop :=
  leaves t { p with resp := true, seq := false, mirror := false, retx := false, new := false, src := ownDevice s, dst := p.src, rsv := false,
                    addr := 0, arg := 0, status := status, data := data ++ List.replicate ((32 - data.length % 32) % 32) 0 } ∧
  rxFind t p.src p.cls = some { src := p.src, cls := p.cls, mark := (p.psn + 1) % 2 ^ 32, done := [] } ∧ t.ride.held = []

/-! ### The Warden's mailbox -/

/-- The Warden serves the mailbox, and the request at the head, of command `cmd`, is one it serves in its mode and waits for nothing. -/
structure Asks (s : State) (cmd : Nat) (r : Req) : Prop where
  serves : mboxServes s = true
  head : ∃ m rest, s.wdn.mbox = m :: rest ∧ readReq s m = some r ∧ blockWaits s m = false ∧ reqWaits s r = false
  code : r.cmd = cmd
  mode : s.test WDN_BOOT fldWDN_BOOT_RECOVERY = false ∨ recoveryCmd r = true

/-- The request at the head has been answered: it has left the queue and counts as served; a frame goes back to its sender with STATUS,
OUT_LEN and the output, a block in a bank has STATUS and OUT_LEN written where no write waits, and MAILBOX is raised on a REPLY_CORE whose
domain is up. -/
def finished (s t : State) (r : Req) (status : Nat) (out : List Byte) : Prop :=
  t.wdn.mbox = s.wdn.mbox.drop 1 ∧
  t.fld WDN_MBOX_STATUS fldWDN_MBOX_STATUS_SERVED = min (2 ^ 48 - 1) (s.fld WDN_MBOX_STATUS fldWDN_MBOX_STATUS_SERVED + 1) ∧
  (∀ f, r.src = .frame f → ∃ g, t.wdn.mgmtOut = s.wdn.mgmtOut ++ [g] ∧ g.mac = f.mac ∧ g.etype = f.etype ∧ at' g.block 3 1 = status ∧
    at' g.block 28 4 = out.length % 2 ^ 32 ∧ g.data = out.take (min r.bufLen 1408)) ∧
  (∀ a b sub, r.src = .block a → inBank s b a 64 → s.mem.poolWait = [] →
    natOfBytes (memBytes t sub (a + 3) 1) = status ∧ natOfBytes (memBytes t sub (a + 28) 4) = out.length % 2 ^ 32) ∧
  ((∀ c a, r.src ≠ .canreq c a) → r.core < 48 → t.still = false → t.fld (PWR_CORE r.core) fldPWR_CORE_STATE < 3 →
    (t.reg (CORE_IPEND (coreOf r.core))).getLsbD 19 = true)

/-- Every core in service has been released at vector 0; one that is out of service is as stopped as it was. -/
def released (s t : State) : Prop := ∀ c : CoreId,
  if c.val ∈ s.wdn.coresOut then isStopped t c = isStopped s c
  else isStopped t c = false ∧ (t.core c).pc = BitVec.ofNat 64 (coreLocal c 0)

end Sys2Proof.Machine
end

