-- ==== Sys2Proof/WellFormed.lean ====
section
/-! DEFINITION. Which commands are well formed: every number a command carries fits the field that the spec gives it, so that a
well-formed command is one that the outside of the block can really send. -/
namespace Sys2Proof

/-- Whether a number fits `w` bits. -/
def fitsBits (n w : Nat) : Bool := decide (n < 2 ^ w)

/-- A packet whose fields fit Table 12.3, its payload in whole units, at most 256 of them. -/
def packetWf (p : Packet) : Bool :=
  fitsBits p.op 8 && fitsBits p.cls 2 && fitsBits p.src 18 && fitsBits p.dst 18 && fitsBits p.psn 32 && fitsBits p.addr 48 &&
    fitsBits p.arg 8 && fitsBits p.status 8 && fitsBits p.tag 64 && p.data.length % 32 == 0 && decide (p.data.length ≤ 8192)

/-- A fault record whose fields fit Table 16.3. -/
def recWf (r : FaultRec) : Bool :=
  fitsBits r.seq 64 && fitsBits r.time 64 && fitsBits r.cls 16 && fitsBits r.sev 8 && fitsBits r.kind 8 && fitsBits r.flags 8 &&
    fitsBits r.cause 8 && fitsBits r.unit 16 && fitsBits r.phys 16 && fitsBits r.sub 16 && fitsBits r.culprit 32 &&
    fitsBits r.addr 64 && fitsBits r.ring 64 && fitsBits r.arg 64

/-- A word of a register that exists: 2,048 of a tile, 128 of its scale column, 128 of a vector register, 16 of a mask register. -/
def regWordWf : RegWord → Bool
  | .tile _ i => decide (i < 2048)
  | .scale _ i => decide (i < 128)
  | .vec _ i => decide (i < 128)
  | .mask _ i => decide (i < 16)

/-- An upset of a word that exists. -/
def upsetWf : Upset → Bool
  | .reg _ w => regWordWf w
  | .residue _ _ array unit => decide (array < 4) && decide (unit < 65)
  | .word a => decide (a < 2 ^ 44)
  | .l1 _ a => decide (a < 2 ^ 44)
  | .sap _ a => decide (a < 2 ^ 44)
  | .version sub a => decide (sub < 64) && decide (a < 2 ^ 44)
  | .soft a => decide (a < 2 ^ 44)

/-- The symbol errors of one DRAM access: at most one to a die, each of them an error (R276). -/
def errsWf (l : List SymErr) : Bool := l.all (fun e => decide (e.die < 19) && e.bits != 0) && decide ((l.map SymErr.die).Nodup)

/-- What a march run finds (R263, R270): physical banks 0 to 67. -/
def marchWf (rep : List MarchRepair) (fail : List MarchFail) : Bool :=
  rep.all (fun r => decide (r.bank < 68)) && fail.all fun f => decide (f.bank < 68)

/-- What a boot meets outside the Warden's own steps: units that exist. -/
def bootWf (b : BootIn) : Bool :=
  b.coreFail.all (fun n => decide (n < 52)) && b.wayFail.all (fun p => decide (p.1 < 8) && decide (p.2 < 17)) &&
    b.tsvFail.all (fun p => decide (p.1 < 12)) && marchWf b.rep b.fail && b.mon.all (fun m => fitsBits m.value 32) &&
    decide (b.straps < 4)

/-- What a regulator answers fits its PMBus words (R441). -/
def pmWf (r : PmRead) : Bool :=
  decide (r.addr < 128) && match r.vals with
    | some (v, i, t, st) => fitsBits v 16 && fitsBits i 16 && fitsBits t 16 && fitsBits st 16
    | none => true

/-- A management frame whose addresses fit, with its 64-byte request block (R406). -/
def frameWf (f : MgmtFrame) : Bool := fitsBits f.mac 48 && fitsBits f.etype 16 && f.block.length == 64

/-- Whether a command is well formed. An operand that its type already bounds needs no check. -/
def wellFormed (i : Instr) : Bool :=
  match i with
  | .registerWrite m a _ => decide (m < 79) && fitsBits a 44
  | .xferPost m _ _ => decide (m < 79)
  | .fetchLineFill _ line => fitsBits line 37
  | .l2FillComplete slice line => decide (slice < 8) && fitsBits line 37
  | .stackAccess addr errs => fitsBits addr 44 && errsWf errs
  | .marchRunEnd rep fail => marchWf rep fail
  | .silenceTimeout member => fitsBits member 18
  | .outcomeTimeout ring => fitsBits ring 64
  | .resolveRetry ring _ => fitsBits ring 64
  | .claimResend ring _ => fitsBits ring 64
  | .claimResponse p => packetWf p
  | .voteAlive p => packetWf p
  | .voteReady p => packetWf p
  | .voteDoom p => packetWf p
  | .voteRefuse p => packetWf p
  | .voteFlipped p => packetWf p
  | .voteClaim p => packetWf p
  | .voteMirrored p => packetWf p
  | .recvCommit p => packetWf p
  | .recvDiscard p => packetWf p
  | .recvRetire p => packetWf p
  | .replayRequest _ ack => fitsBits ack 32
  | .trainingComplete _ errs syms _ => errs.length == 5 && syms.length == 5 && (errs.zip syms).all fun e => decide (e.1 ≤ e.2)
  | .rideGet p => packetWf p
  | .ridePut p => packetWf p
  | .rideAtom p => packetWf p
  | .rideExsum p => packetWf p
  | .rideExsumsq p => packetWf p
  | .rideSignal p => packetWf p
  | .rideWait p => packetWf p
  | .rideService p => packetWf p
  | .rideMirrorPut p => packetWf p
  | .rideResponse p => packetWf p
  | .holdTimeout src cls psn => fitsBits src 18 && fitsBits cls 2 && fitsBits psn 32
  | .streamExpiry src cls => fitsBits src 18 && fitsBits cls 2
  | .deviceWake _ b => bootWf b
  | .poreset b => bootWf b
  | .warmrst b => bootWf b
  | .wdnReset b => bootWf b
  | .mgmtFrame f => frameWf f
  | .faultRecord (.record r) => recWf r
  | .faultRecord (.upset u) => upsetWf u
  | .pmbusPoll r => r.all pmWf
  | _ => true

end Sys2Proof
end

