-- ==== Sys2Proof/Certificates/Slice0/Obligations.lean ====
section
/-! DEFINITION. What is claimed of the model: one definition a statement, each from the rules of spec/ that its docstring names. -/
open Sys2Proof Sys2Proof.Machine Host

/-- A step performs the command at the front of the queue. With a command at the front of its queue the block does what that command does, on the state whose queue is the rest. On an empty queue one cycle of REFCLK_CORE passes and the queue stays empty; what an empty queue does is the model's choice (assumption 8), not the spec's. Where no clock but the Warden's runs, that cycle changes CORE_REFTIME, which counts one, and AGE_HOURS alone. (spec/00_scope.md, What the specification covers) -/
def Obligations.StepTakesFrontCommand : Prop :=
  (∀ (i : Instr) (rest : List Instr) (s : State), step { s with pending := i :: rest } = exec i { s with pending := rest }) ∧
    (∀ s : State, s.pending = [] → step s = .next { tick s with pending := [] }) ∧
    ∀ s : State, s.pending = [] → s.still = true → ∃ t, step s = .next t ∧ t.reg (CORE_REFTIME 0) = s.reg (CORE_REFTIME 0) + 1 ∧
      t.cores = s.cores ∧ t.mem = s.mem ∧ t.pending = [] ∧ ∀ a, a ≠ CORE_REFTIME 0 → a ≠ AGE_HOURS → t.reg a = s.reg a

/-- Every command goes on, in every state, and leaves the queue behind it alone. Whatever the state, a command answers a next state: no command faults and none is refused; its effect is on everything but the queue of commands waiting behind it. So a run of any number of steps from any state goes on. (R3, R28, spec/02_core_and_exceptions.md, spec/12_ride_fabric.md) -/
def Obligations.EveryCommandAnswersNext : Prop :=
  (∀ (i : Instr) (s : State), ∃ t, exec i s = .next t ∧ t.pending = s.pending) ∧ ∀ (n : Nat) (s : State), runsSafely n s

/-- Decoding and encoding of instruction words agree. For every instruction of a core, with every operand at every value, decoding its word gives the instruction back, apart from the beat boundary of a cut, which is no part of a word; and a word that decodes to an instruction is that instruction's word, so no two words decode to one instruction and no bit of a word is dropped. (R26, R27, R28, Table 2.1 of spec/02_core_and_exceptions.md, Tables 4.4, 4.5 and 4.8 of spec/04_tiles_and_arrays.md, Tables 5.1, 5.2 and 5.6 of spec/05_long_vectors.md, Table 7.3 of spec/07_consistency.md, Tables 12.7 and 12.9 of spec/12_ride_fabric.md) -/
def Obligations.DecodeOfEncode : Prop :=
  (∀ (i : Instr) (c : CoreId) (w : IWord), wordOf i = some (c, w) → decodeCore c w = some (uncut i)) ∧
    ∀ (i : Instr) (c : CoreId) (w : IWord), decodeCore c w = some i → wordOf i = some (c, w) ∧ uncut i = i

/-- Every step keeps registers and memory in canonical form. From every state whose registers and memory are in canonical form (keys rising, nothing listed that reads as an unlisted key does), every step answers a state of that form, whatever command is at the front: so states that read alike in registers, stacked memory and bank memory are equal data there. With it no active descriptor of an engine ever has a number still to be given out. (R2, R4, R212, R213, R235, spec/00_scope.md, Registers) -/
def Obligations.StepKeepsTheCanonicalForm : Prop :=
  ∀ s t : State, Canonical s → step s = .next t → Canonical t

/-- The state after PORESET_N. The state after PORESET_N is in canonical form. Every core is stopped, its tile, vector and mask registers read 0; every byte of stacked memory that lies outside the pool reads 0 to every sub-ring and every granule is PLAIN; every exact accumulator is 0 with STATUS 0; no ring is open, RING_VISIBLE is 0 and RING_NEXT is 1; no command waits. (R4, R83, R119, R231, R283, R284, R394) -/
def Obligations.ResetState : Prop :=
  let s := State.reset
  Canonical s ∧ s.pending = [] ∧
    (∀ c : CoreId, isStopped s c = true ∧ (∀ r, (s.core c).getV r = 0) ∧ (∀ r, (s.core c).getM r = 0) ∧
      ∀ r, (s.core c).getT r = Tile.zero) ∧
    (∀ sub a, a < stackTop → inPool s (granule a) = false → kindAt s a = 0 ∧ stackByte s sub a = 0) ∧
    (∀ k, accGet s k = { val := 0, st := 0 }) ∧ runningRing s = 0 ∧ s.reg RING_VISIBLE = 0 ∧ s.reg RING_NEXT = 1

/-- Stopped, waiting and unclocked cores issue nothing; unfetchable instructions take FETCH_ADDR. A core that is stopped, waits, is in Hold or has no clock issues no instruction: the command changes nothing. At an instruction boundary at which nothing else is due, every instruction of a core whose PC names no populated memory takes FETCH_ADDR, vector 5, with the PC as fault address and saved PC, before anything else the instruction might raise; where vector instructions are unretired it waits for them, and nothing changes. (R41, R355, R452, Table 14.1 of spec/14_power_clocks_ageing.md, Table 2.7 of spec/02_core_and_exceptions.md) -/
def Obligations.CoresThatCannotRunIssueNothing : Prop :=
  ∀ (i : Instr) (c : CoreId) (w : IWord) (s : State), wordOf i = some (c, w) →
    (canRun s c = false → exec i s = .next s) ∧
    (canRun s c = true → boundaryIdle (s.core c) = true → (s.core c).stepDue = none → (s.core c).mcDue = [] →
      (s.core c).tileQ = [] → fetchable s (s.core c).pc.toNat = false →
      exec i s = if (s.core c).vecQ = [] then takes s c w 5 (s.core c).pc.toNat (s.core c).pc else .next s)

/-- Results of the integer register and immediate operations. At a ready boundary each operation of opcode 0x00 answers the state in which rd holds the operation on rs1 and rs2 (wrapping modulo 2^64, shifts by bits [5:0], high halves of the 128-bit products, division toward zero with the values R23 gives for a zero divisor), the PC is the next instruction, and nothing else of the device has changed. A written register then reads as written, x0 excepted: x0 reads 0 always, and a write of it leaves everything alone. ADDI, ANDI, ORI, XORI and SLTI take the immediate sign-extended; SLLI, SRLI and SRAI with imm[15:8] = 0 shift by imm[5:0]; LUI with rs1 = 0 writes imm << 16 sign-extended. At a ready boundary each writes rd alone and goes on to the next instruction. (R22, R23, R449, R450, Table 2.2a of spec/02_core_and_exceptions.md, R27) -/
def Obligations.IntegerResults : Prop :=
  (
    ∀ (c : CoreId) (o : OpR) (s : State), Ready s c .scalar →
      let a := (s.core c).getX o.rs1
      let b := (s.core c).getX o.rs2
      let gives := fun (i : Instr) (v : Word) => exec i s = .next (advance s c fun k => k.setX o.rd v)
      gives (.add c o) (a + b) ∧
      gives (.sub c o) (a - b) ∧
      gives (.and c o) (a &&& b) ∧
      gives (.or c o) (a ||| b) ∧
      gives (.xor c o) (a ^^^ b) ∧
      gives (.sll c o) (a <<< (b.extractLsb' 0 6).toNat) ∧
      gives (.srl c o) (a >>> (b.extractLsb' 0 6).toNat) ∧
      gives (.sra c o) (a.sshiftRight (b.extractLsb' 0 6).toNat) ∧
      gives (.slt c o) (if a.toInt < b.toInt then 1 else 0) ∧
      gives (.sltu c o) (if a.toNat < b.toNat then 1 else 0) ∧
      gives (.mul c o) (a * b) ∧
      gives (.mulh c o) (((a.signExtend 128 * b.signExtend 128) >>> 64).setWidth 64) ∧
      gives (.mulhu c o) (((a.setWidth 128 * b.setWidth 128) >>> 64).setWidth 64) ∧
      gives (.div c o) (if b = 0 then BitVec.allOnes 64 else a.sdiv b) ∧
      gives (.divu c o) (if b = 0 then BitVec.allOnes 64 else a / b) ∧
      gives (.rem c o) (a.srem b) ∧
      gives (.remu c o) (a % b) ∧
      ∀ (k : CoreSt) (r q : BitVec 5) (w : Word), (k.setX r w).getX q = (if q = 0 then 0 else if q = r then w else k.getX q) ∧ k.setX 0 w = k) ∧
  (
    ∀ (c : CoreId) (o : OpI) (p : OpSh) (s : State), Ready s c .scalar →
      let a := (s.core c).getX o.rs1
      let i : Word := o.imm.signExtend 64
      let b := (s.core c).getX p.rs1
      let gives := fun (j : Instr) (rd : BitVec 5) (v : Word) => exec j s = .next (advance s c fun k => k.setX rd v)
      gives (.addi c o) o.rd (a + i) ∧
      gives (.andi c o) o.rd (a &&& i) ∧
      gives (.ori c o) o.rd (a ||| i) ∧
      gives (.xori c o) o.rd (a ^^^ i) ∧
      gives (.slti c o) o.rd (if a.toInt < i.toInt then 1 else 0) ∧
      (o.rs1 = 0 → gives (.lui c o) o.rd (((o.imm ++ (0 : BitVec 16)) : BitVec 32).signExtend 64)) ∧
      (p.hi = 0 → gives (.slli c p) p.rd (b <<< p.sh.toNat) ∧ gives (.srli c p) p.rd (b >>> p.sh.toNat) ∧
        gives (.srai c p) p.rd (b.sshiftRight p.sh.toNat)))

/-- Integer division and remainder. DIV and REM: a zero divisor gives all ones and the dividend; −2^63 by −1 gives −2^63 and 0; otherwise quotient × divisor + remainder is the dividend, the remainder is smaller than the divisor in magnitude (the quotient is rounded toward zero) and has the sign of the dividend. DIVU and REMU divide as unsigned numbers, with the same values for a zero divisor. No case raises an exception. (R23) -/
def Obligations.DivisionLaw : Prop :=
  ∀ (c : CoreId) (o : OpR) (s : State), Ready s c .scalar →
    let a := (s.core c).getX o.rs1
    let b := (s.core c).getX o.rs2
    let gives := fun (i : Instr) (v : Word) => exec i s = .next (advance s c fun k => k.setX o.rd v)
    (∃ q r : Word, gives (.div c o) q ∧ gives (.rem c o) r ∧
      (b = 0 → q = BitVec.allOnes 64 ∧ r = a) ∧
      (a.toInt = -2 ^ 63 ∧ b.toInt = -1 → q.toInt = -2 ^ 63 ∧ r = 0) ∧
      (b ≠ 0 ∧ ¬(a.toInt = -2 ^ 63 ∧ b.toInt = -1) → q.toInt * b.toInt + r.toInt = a.toInt ∧ r.toInt.natAbs < b.toInt.natAbs ∧
        (0 ≤ a.toInt → 0 ≤ r.toInt) ∧ (a.toInt ≤ 0 → r.toInt ≤ 0))) ∧
    (∃ q r : Word, gives (.divu c o) q ∧ gives (.remu c o) r ∧
      (b = 0 → q = BitVec.allOnes 64 ∧ r = a) ∧
      (b ≠ 0 → q.toNat * b.toNat + r.toNat = a.toNat ∧ r.toNat < b.toNat))

/-- Branches, JAL and JALR. Each conditional branch goes to PC + 4 × off where its comparison holds and to the next instruction otherwise, and changes nothing else; JAL and JALR (whose target is a multiple of 4) write PC + 4 to rd and jump, JALR to rs1 + imm with rs1 read before rd is written. (R27, R449, Table 2.2a of spec/02_core_and_exceptions.md) -/
def Obligations.BranchesAndJumps : Prop :=
  ∀ (c : CoreId) (o : OpB) (j : OpJ) (r : OpI) (s : State), Ready s c .scalar →
    let a := (s.core c).getX o.rs1
    let b := (s.core c).getX o.rs2
    let pc := (s.core c).pc
    let goes := fun (i : Instr) (p : Bool) =>
      exec i s = .next (s.modCore c fun k => { k with pc := if p then pc + (o.off.signExtend 64 <<< 2) else pc + 4 })
    goes (.beq c o) (decide (a = b)) ∧ goes (.bne c o) (decide (a ≠ b)) ∧
    goes (.blt c o) (decide (a.toInt < b.toInt)) ∧ goes (.bge c o) (decide (b.toInt ≤ a.toInt)) ∧
    goes (.bltu c o) (decide (a.toNat < b.toNat)) ∧ goes (.bgeu c o) (decide (b.toNat ≤ a.toNat)) ∧
    exec (.jal c j) s = .next (s.modCore c fun k => { k.setX j.rd (pc + 4) with pc := pc + (j.off.signExtend 64 <<< 2) }) ∧
    (let t := (s.core c).getX r.rs1 + r.imm.signExtend 64
     t.toNat % 4 = 0 → exec (.jalr c r) s = .next (s.modCore c fun k => { k.setX r.rd (pc + 4) with pc := t }))

/-- Loads from a core array or a bank. A scalar load of an aligned address whose bytes lie in a core array or in one bank, and meet no error, on a core whose buffered stores are all of its sub-ring, writes to rd the bytes the core sees there, little-endian, sign- or zero-extended as Table 2.2a gives for LB to LWU; FLW writes bits [31:0] and sets bits [63:32], FLD all 64 bits, of an f register, from rs1 + the immediate with bit 0 taken as 0. No byte of memory and nothing else of the device changes, but for one beat counted of a home bank's group outside single-bank mode. (R22, R24, R449, Table 2.2a of spec/02_core_and_exceptions.md, R184, R262) -/
def Obligations.LoadsFromArrayAndBank : Prop :=
  ∀ (c : CoreId) (o : OpI) (p : OpFI) (s : State), Ready s c .retired → errorFree s →
    let a := ((s.core c).getX o.rs1 + o.imm.signExtend 64).toNat
    let b := ((s.core c).getX p.rs1 + (p.immHi ++ (0 : BitVec 1)).signExtend 64).toNat
    let loads := fun (i : Instr) (x n : Nat) (f : Nat → CoreSt → CoreSt) => x % n = 0 → (∀ e ∈ (s.core c).mbuf, e.sub = coreSub s c) →
      (∀ k off, inArray s k off x n → exec i s = .next (advance s c (f (natOfBytes (sees s c x n))))) ∧
      ∀ k, inBank s k x n → exec i s = .next (advance (if s.test BANK_MODE fldBANK_MODE_NOW = false ∧ isHome s c k = true then
        count s (BANK_HOME_BEATS (k / 4)) 1 else s) c (f (natOfBytes (sees s c x n))))
    loads (.lb c o) a 1 (fun v k => k.setX o.rd (sextN 8 v)) ∧
    loads (.lh c o) a 2 (fun v k => k.setX o.rd (sextN 16 v)) ∧
    loads (.lw c o) a 4 (fun v k => k.setX o.rd (sextN 32 v)) ∧
    loads (.ld c o) a 8 (fun v k => k.setX o.rd (BitVec.ofNat 64 v)) ∧
    loads (.lbu c o) a 1 (fun v k => k.setX o.rd (BitVec.ofNat 64 v)) ∧
    loads (.lhu c o) a 2 (fun v k => k.setX o.rd (BitVec.ofNat 64 v)) ∧
    loads (.lwu c o) a 4 (fun v k => k.setX o.rd (BitVec.ofNat 64 v)) ∧
    loads (.flw c p) b 4 (fun v k => k.setF p.rd (0xFFFFFFFF00000000 ||| BitVec.ofNat 64 v)) ∧
    loads (.fld c p) b 8 (fun v k => k.setF p.rd (BitVec.ofNat 64 v))

/-- Scalar stores to the own array and through the merging buffer. Where no two cores map to one physical core, a store of an aligned address in the core's own array writes the low 1, 2, 4 or 8 bytes of rs2 (FSW and FSD: of f[rs2]) there, little-endian; every other byte of memory reads as before, the core goes on to the next instruction, and no register of any core changes. A store of an aligned address in a bank or in another core's array, FSW and FSD among them, where the merging buffer already holds the line for the core's sub-ring, or has room and does not hold the line, changes no byte of memory: the issuing core sees the bytes it stored, and every other byte as before. (R24, R184, R449, R451, Table 2.2a of spec/02_core_and_exceptions.md, spec/07_consistency.md, Stores and the merging buffer) -/
def Obligations.ScalarStores : Prop :=
  (
    ∀ (c : CoreId) (o : OpS) (p : OpFS) (s : State), Ready s c .retired → (∀ d : CoreId, d ≠ c → physOf s d ≠ physOf s c) →
      let a := ((s.core c).getX o.rs1 + o.imm.signExtend 64).toNat
      let b := ((s.core c).getX p.rs1 + (p.immHi ++ (0 : BitVec 1)).signExtend 64).toNat
      let x := (s.core c).getX o.rs2
      let y := (s.core c).getF p.rs2
      let stores := fun (i : Instr) (at_ n : Nat) (v : Word) => ∀ off, at_ % n = 0 → inArray s c.val off at_ n →
        ∃ t, exec i s = .next t ∧
          (∀ j, ∀ sub, j < n → memByte t sub (at_ + j) = (v >>> (8 * j)).setWidth 8) ∧
          (∀ sub d, (d < at_ ∨ at_ + n ≤ d) → memByte t sub d = memByte s sub d) ∧
          t.regs = s.regs ∧ (t.core c).pc = (s.core c).pc + 4 ∧
          (∀ d, (t.core d).x = (s.core d).x ∧ (t.core d).f = (s.core d).f ∧ (t.core d).v = (s.core d).v ∧ (t.core d).m = (s.core d).m ∧
            (t.core d).tiles = (s.core d).tiles ∧ (t.core d).mbuf = (s.core d).mbuf)
      stores (.sb c o) a 1 x ∧ stores (.sh c o) a 2 x ∧ stores (.sw c o) a 4 x ∧ stores (.sd c o) a 8 x ∧
      stores (.fsw c p) b 4 y ∧ stores (.fsd c p) b 8 y) ∧
  (
    ∀ (c : CoreId) (o : OpS) (p : OpFS) (s : State), Ready s c .retired →
      let b := ((s.core c).getX o.rs1 + o.imm.signExtend 64).toNat
      let d := ((s.core c).getX p.rs1 + (p.immHi ++ (0 : BitVec 1)).signExtend 64).toNat
      let stores := fun (i : Instr) (a n : Nat) (x : Word) =>
        let line := a / 128
        a % n = 0 →
        ((∃ k off, k ≠ c.val ∧ inArray s k off a n) ∨ ∃ k, inBank s k a n) →
        ((∃ e ∈ (s.core c).mbuf, e.line = line) ∧ (∀ e ∈ (s.core c).mbuf, e.line = line → e.sub = coreSub s c) ∧
            (s.core c).mbuf.countP (fun e => e.line == line) = 1 ∨
          ((s.core c).mbuf.length < 8 ∧ ∀ e ∈ (s.core c).mbuf, e.line ≠ line)) →
        (∀ e ∈ (s.core c).mbuf, ∀ d v, (d, v) ∈ e.bytes → d / 128 = e.line) →
        ∃ t, exec i s = .next t ∧ t.mem = s.mem ∧ t.regs = s.regs ∧ (t.core c).pc = (s.core c).pc + 4 ∧ (t.core c).x = (s.core c).x ∧
          sees t c a n = bytesOfNat n x.toNat ∧
          (∀ d, (d < a ∨ a + n ≤ d) → sees t c d 1 = sees s c d 1) ∧ ∀ d, d ≠ c → t.core d = s.core d
      stores (.sb c o) b 1 ((s.core c).getX o.rs2) ∧ stores (.sh c o) b 2 ((s.core c).getX o.rs2) ∧
      stores (.sw c o) b 4 ((s.core c).getX o.rs2) ∧ stores (.sd c o) b 8 ((s.core c).getX o.rs2) ∧
      stores (.fsw c p) d 4 ((s.core c).getF p.rs2) ∧ stores (.fsd c p) d 8 ((s.core c).getF p.rs2))

/-- A misaligned scalar load or store raises DATA_ALIGN. A scalar load or store of 2, 4 or 8 bytes (floating ones included) whose address is not a multiple of its size takes DATA_ALIGN, vector 9, with that address as fault address and the instruction itself as saved PC; the exception entry is its only effect. (R24) -/
def Obligations.MisalignedScalarAccessTraps : Prop :=
  ∀ (c : CoreId) (o : OpI) (q : OpS) (p : OpFI) (r : OpFS) (s : State), Ready s c .retired →
    let pc := (s.core c).pc
    let al := ((s.core c).getX o.rs1 + o.imm.signExtend 64).toNat
    let as_ := ((s.core c).getX q.rs1 + q.imm.signExtend 64).toNat
    let bl := ((s.core c).getX p.rs1 + (p.immHi ++ (0 : BitVec 1)).signExtend 64).toNat
    let bs := ((s.core c).getX r.rs1 + (r.immHi ++ (0 : BitVec 1)).signExtend 64).toNat
    let traps := fun (i : Instr) (a n : Nat) => a % n ≠ 0 → ∀ w, wordOf i = some (c, w) → exec i s = takes s c w 9 a pc
    traps (.lh c o) al 2 ∧ traps (.lhu c o) al 2 ∧ traps (.lw c o) al 4 ∧ traps (.lwu c o) al 4 ∧ traps (.ld c o) al 8 ∧
    traps (.sh c q) as_ 2 ∧ traps (.sw c q) as_ 4 ∧ traps (.sd c q) as_ 8 ∧
    traps (.flw c p) bl 4 ∧ traps (.fld c p) bl 8 ∧ traps (.fsw c r) bs 4 ∧ traps (.fsd c r) bs 8

/-- Illegal encodings raise ILLEGAL. Every word that no instruction of the core has is an illegal encoding, and TAKE_INTERRUPT with an illegal encoding at the PC of a core that has nothing else due takes ILLEGAL, vector 4, fault address 0, at that word; so does every instruction whose word is an illegal encoding (a reserved value of a field, or an unused field that is not 0), and it has no other effect. Among them: LUI with rs1 ≠ 0, a shift immediate with imm[15:8] ≠ 0, a floating operation with fn[4:0] ≠ 0, and a system instruction with a nonzero unused field. That such a word comes with TAKE_INTERRUPT is the model's choice (assumption 94). (R28, R449, R450, R451, Table 2.3 of spec/02_core_and_exceptions.md) -/
def Obligations.UnusedFieldsAreIllegal : Prop :=
  ∀ (c : CoreId) (o : OpI) (p : OpSh) (f : OpF) (r : OpR) (s : State), Ready s c .scalar → Ready s c .retired →
    let bad := fun (i : Instr) => ∀ w, wordOf i = some (c, w) → exec i s = takes s c w 4 0 (s.core c).pc
    (∀ w, decodeCore c w = none → wordBad w.toNat = true) ∧
    (∀ i w, wordOf i = some (c, w) → wordBad w.toNat = true → bad i) ∧
    (∀ w, wordBad w.toNat = true → (s.core c).stepDue = none → exec (.takeInterrupt ⟨c, some w⟩) s = takes s c w 4 0 (s.core c).pc) ∧
    (o.rs1 ≠ 0 → bad (.lui c o)) ∧
    (p.hi ≠ 0 → bad (.slli c p) ∧ bad (.srli c p) ∧ bad (.srai c p)) ∧
    (f.lo ≠ 0 → bad (.fadd c f) ∧ bad (.fsub c f) ∧ bad (.fmul c f) ∧ bad (.fdiv c f) ∧ bad (.fmadd c f) ∧ bad (.feq c f) ∧ bad (.flt c f) ∧
      bad (.fle c f)) ∧
    (f.lo ≠ 0 ∨ f.rs2 ≠ 0 → bad (.fsqrt c f) ∧ bad (.fcvtff c f) ∧ bad (.fcvtfh c f) ∧ bad (.fcvthf c f) ∧ bad (.fcvtif c f) ∧
      bad (.fcvtuf c f) ∧ bad (.fcvtfi c f) ∧ bad (.fcvtfu c f) ∧ bad (.fmvxf c f) ∧ bad (.fmvfx c f) ∧ bad (.fstatr c f) ∧ bad (.fstatw c f)) ∧
    (r.rs2 ≠ 0 → bad (.qwin c r)) ∧ (r.rd ≠ 0 ∨ r.rs1 ≠ 0 ∨ r.rs2 ≠ 0 → bad (.wfi c r) ∧ bad (.rfe c r) ∧ bad (.cstop c r) ∧ bad (.fenceG c r)) ∧
    (r.rd ≠ 0 ∨ r.rs2 ≠ 0 → bad (.fseal c r) ∧ bad (.taskj c r) ∧ bad (.canreq c r))

/-- A Ranger instruction at Task level raises ILLEGAL. RFE, FSEAL, TASKJ, CANREQ and CSTOP executed at Task level take ILLEGAL, vector 4, at the instruction itself, and nothing else happens; LCALL, BRK, QWIN and WFI run at Task level as at Ranger level: what they answer does not depend on LEVEL being 0 (LCALL and BRK take their exceptions, QWIN with n = 0 and no window open writes 0, WFI with an enabled interrupt pending goes on). (R30) -/
def Obligations.RangerInstructionsNeedRanger : Prop :=
  ∀ (c : CoreId) (r : OpR) (k : OpCode) (s : State), Ready s c .retired → ¬ atRanger s c →
    let pc := (s.core c).pc
    let bad := fun (i : Instr) => ∀ w, wordOf i = some (c, w) → exec i s = takes s c w 4 0 pc
    bad (.rfe c r) ∧ bad (.fseal c r) ∧ bad (.taskj c r) ∧ bad (.canreq c r) ∧ bad (.cstop c r) ∧
    (∀ w, wordOf (.lcall c k) = some (c, w) → exec (.lcall c k) s = takes s c w 12 0 (pc + 4)) ∧
    (∀ w, wordOf (.brk c k) = some (c, w) → exec (.brk c k) s = takes s c w 13 0 pc) ∧
    (r.rs2 = 0 → (s.core c).getX r.rs1 = 0 → qwOpen s c = false → exec (.qwin c r) s = .next (advance s c fun q => q.setX r.rd 0)) ∧
    (enabledPending s c ≠ 0 → exec (.wfi c ⟨0, 0, 0⟩) s = .next (advance s c id))

/-- LCALL, BRK, QWIN, WFI, TASKJ and CANREQ. LCALL takes vector 12 with the next instruction as saved PC, BRK vector 13 with itself; QWIN opens a window of min(n, 4,096) cycles unless one is open or ended less than 256 cycles ago, writing the granted length, or 0 and counting the refusal; n = 0 closes an open window; WFI goes on where an enabled interrupt is pending and otherwise waits; TASKJ to a multiple of 4 sets LEVEL to Task and jumps; CANREQ, with an empty merging buffer, posts the address in rs1 to the Warden mailbox, once no store of the core waits in a stack or a bank. (R30, R48, Table 2.3 of spec/02_core_and_exceptions.md, R401, R403) -/
def Obligations.SystemInstructionResults : Prop :=
  ∀ (c : CoreId) (r : OpR) (k : OpCode) (s : State), Ready s c .retired →
    let pc := (s.core c).pc
    let n := ((s.core c).getX r.rs1).toNat
    let now := (s.reg (CORE_CYCLE c)).toNat
    let refused := ∃ e, (s.core c).qwEnd = some e ∧ now < e.toNat + 256
    exec (.lcall c k) s = takes s c (32#6 ++ k.code ++ 1#11) 12 0 (pc + 4) ∧
    exec (.brk c k) s = takes s c (32#6 ++ k.code ++ 2#11) 13 0 pc ∧
    (r.rs2 = 0 → n = 0 → qwOpen s c = true →
      exec (.qwin c r) s = .next (advance s c fun q => { q.setX r.rd 0 with qwEnd := some (s.reg (CORE_CYCLE c)) })) ∧
    (r.rs2 = 0 → n = 0 → qwOpen s c = false → exec (.qwin c r) s = .next (advance s c fun q => q.setX r.rd 0)) ∧
    (r.rs2 = 0 → 1 ≤ n → n ≤ 4096 → ¬ refused → exec (.qwin c r) s =
      .next (advance s c fun q => { q.setX r.rd (BitVec.ofNat 64 n) with qwEnd := some (BitVec.ofNat 64 (now + n)) })) ∧
    (r.rs2 = 0 → 4096 < n → ¬ refused → exec (.qwin c r) s = .next (advance (s.setReg (CORE_QWIN c) (s.reg (CORE_QWIN c) ||| 0x4000)) c
      fun q => { q.setX r.rd 4096 with qwEnd := some (BitVec.ofNat 64 (now + 4096)) })) ∧
    (r.rs2 = 0 → 1 ≤ n → refused → (s.reg (CORE_QREFUSE c)).toNat % 2 ^ 48 < 2 ^ 48 - 1 → ∃ t, exec (.qwin c r) s = .next t ∧
      t.reg (CORE_QREFUSE c) = s.reg (CORE_QREFUSE c) + 1 ∧ t.core c = { (s.core c).setX r.rd 0 with pc := pc + 4 }) ∧
    (enabledPending s c ≠ 0 → exec (.wfi c ⟨0, 0, 0⟩) s = .next (advance s c id)) ∧
    (enabledPending s c = 0 → exec (.wfi c ⟨0, 0, 0⟩) s = .next (s.modCore c fun q => { q with wait := .wfi })) ∧
    (atRanger s c → r.rd = 0 → r.rs2 = 0 → n % 4 = 0 → ∃ t, exec (.taskj c r) s = .next t ∧
      t.reg (CORE_STATUS c) = s.reg (CORE_STATUS c) &&& ~~~ 3 ∧ t.core c = { s.core c with pc := BitVec.ofNat 64 n } ∧ t.mem = s.mem ∧
      ∀ a, a ≠ CORE_STATUS c → t.reg a = s.reg a) ∧
    (atRanger s c → r.rd = 0 → r.rs2 = 0 → (s.core c).mbuf = [] → exec (.canreq c r) s = .next (if storesWait s c then s
      else advance { s with wdn := { s.wdn with mbox := s.wdn.mbox ++ [.canreq c.val n] } } c id))

/-- CSTOP and a Warden stop request. CSTOP at Ranger level stops its core with reason 1 and the next instruction as stop PC; a Warden stop request, taken on a core whose clock runs and that has no instruction unretired, stops it with reason 3 at its PC, whatever IE and the quiet window. Either sets CORE_STATUS.STOPPED, writes CORE_STOPINFO, keeps VPROG and the general registers, and sends a CORE_STOP record (class 9) with the stop PC. Where vector instructions are unretired the stop is taken at the oldest: its PC is the stop PC, registers and VPROG are as it left them. No stop lands while an atomic of the core waits in a stack. (R41, R42, R133, R187, Tables 2.6 and 2.21 of spec/02_core_and_exceptions.md, Table 16.4 of spec/16_faults_and_windthrow.md) -/
def Obligations.StoppingACore : Prop :=
  ∀ (c : CoreId) (s : State),
    let stops := fun (i : Instr) (reason : Nat) (pc : Word) => ∃ t r, exec i s = .next t ∧ isStopped t c = true ∧
      t.fld (CORE_STOPINFO c) fldCORE_STOPINFO_REASON = reason ∧ t.fld (CORE_STOPINFO c) fldCORE_STOPINFO_VECTOR2 = 0 ∧
      t.fld (CORE_STOPINFO c) fldCORE_STOPINFO_PC = pc.toNat % 2 ^ 44 ∧ t.reg (VEC_VPROG c) = s.reg (VEC_VPROG c) ∧
      (t.core c).x = (s.core c).x ∧ (t.core c).f = (s.core c).f ∧ (t.core c).v = (s.core c).v ∧ (t.core c).m = (s.core c).m ∧
      (t.core c).tiles = (s.core c).tiles ∧ (t.core c).stopReq = 0 ∧ t.mem = s.mem ∧
      t.flt.log.getLast? = some r ∧ r.cls = 9 ∧ r.unit = c.val ∧ r.phys = physOf s c ∧ r.addr = pc.toNat ∧ r.arg = reason
    (Ready s c .retired → atRanger s c → stops (.cstop c ⟨0, 0, 0⟩) 1 ((s.core c).pc + 4)) ∧
    (alive s c = true → (s.core c).stopReq ≠ 0 → (s.core c).tileQ = [] → (s.core c).vecQ = [] → (s.core c).wait = .running →
      stops (.wardenStopTaken c) 3 (s.core c).pc) ∧
    (∀ op later, alive s c = true → (s.core c).stopReq ≠ 0 → (s.core c).tileQ = [] → (s.core c).vecQ = op :: later → (s.core c).wait = .running →
      op.words.all (fun e => e.1 ≠ CORE_STATUS c ∧ e.1 ≠ CORE_STOPINFO c ∧ e.1 ≠ VEC_VPROG c) = true →
      ∃ t, exec (.wardenStopTaken c) s = .next t ∧ isStopped t c = true ∧ t.fld (CORE_STOPINFO c) fldCORE_STOPINFO_REASON = 3 ∧
        t.fld (CORE_STOPINFO c) fldCORE_STOPINFO_PC = op.pc.toNat % 2 ^ 44 ∧ t.fld (VEC_VPROG c) fldVEC_VPROG_DONE = op.done % 2 ^ 11 ∧
        (t.core c).pc = op.pc ∧ (t.core c).x = op.x ∧ (t.core c).f = op.f ∧ (t.core c).v = op.v ∧ (t.core c).m = op.m ∧
        (t.core c).mbuf = op.mbuf ∧ (t.core c).vecQ = []) ∧
    ((alive s c = false ∨ (s.core c).stopReq = 0 ∨ (s.core c).wait = .atom) → exec (.wardenStopTaken c) s = .next s)

/-- Exception entry with a sound frame. At a boundary with nothing unretired and nothing held for it, where RSV is clear, CORE_RSP is a multiple of 64 and the 256 bytes below it lie in the core's own array, entry for vector v writes there the frame of Table 2.5 with its seal, lowers CORE_RSP by 256, writes CORE_CAUSE and CORE_FADDR, sets LEVEL to Ranger and clears IE and STEP, sets the PC to core-local 32 × v, and clears VPROG; no general, floating, vector, mask or tile register, no other byte of memory and no other register but the counter of entries (and what its saturation raises) changes. (R29, R34, R36, Tables 2.5 and 2.10 of spec/02_core_and_exceptions.md) -/
def Obligations.ExceptionEntry : Prop :=
  ∀ (c : CoreId) (r : Trap) (off : Nat) (s : State),
    let rsp := (s.reg (CORE_RSP c)).toNat
    let fp := rsp - 256
    1 ≤ r.vector → r.vector < 64 → r.faddr < 2 ^ 64 → r.word < 2 ^ 32 → r.seq = none → (s.core c).tileQ = [] → (s.core c).vecQ = [] →
    boundaryIdle (s.core c) = true → (s.core c).wait = .running →
    s.test (CORE_STATUS c) fldCORE_STATUS_RSV = false → rsp % 64 = 0 → 256 ≤ rsp → inArray s c.val off fp 256 →
    (∀ d : CoreId, d ≠ c → physOf s d ≠ physOf s c) →
    let t := enter s c r
    let slotAt := fun (sub j : Nat) => natOfBytes (memBytes t sub (fp + 8 * j) 8)
    let st := s.reg (CORE_STATUS c)
    t.reg (CORE_RSP c) = BitVec.ofNat 64 fp ∧ t.reg (CORE_FADDR c) = BitVec.ofNat 64 r.faddr ∧
    t.fld (CORE_CAUSE c) fldCORE_CAUSE_VECTOR = r.vector ∧ t.fld (CORE_CAUSE c) fldCORE_CAUSE_FROM_LEVEL = s.fld (CORE_STATUS c) fldCORE_STATUS_LEVEL ∧
    t.fld (CORE_CAUSE c) fldCORE_CAUSE_INSTR = (if 3 ≤ r.vector ∧ r.vector ≤ 15 ∧ r.vector ≠ 5 then r.word else 0) ∧
    t.reg (CORE_STATUS c) = (st &&& ~~~ 0x1B) ||| 1 ∧ t.reg (VEC_VPROG c) = 0 ∧
    (t.core c).pc = BitVec.ofNat 64 (0xE1000000000 + c.val * 0x1000000 + 32 * r.vector) ∧
    (∀ d, (t.core d).x = (s.core d).x ∧ (t.core d).f = (s.core d).f ∧ (t.core d).v = (s.core d).v ∧ (t.core d).m = (s.core d).m ∧
      (t.core d).tiles = (s.core d).tiles) ∧
    (∀ sub, slotAt sub 1 = r.pc.toNat ∧ fldCORE_STATUS_LEVEL.get (BitVec.ofNat 64 (slotAt sub 2)) = fldCORE_STATUS_LEVEL.get st ∧
      fldCORE_STATUS_IE.get (BitVec.ofNat 64 (slotAt sub 2)) = fldCORE_STATUS_IE.get st ∧
      fldCORE_STATUS_STEP.get (BitVec.ofNat 64 (slotAt sub 2)) = fldCORE_STATUS_STEP.get st ∧
      slotAt sub 3 = (t.reg (CORE_CAUSE c)).toNat ∧ slotAt sub 4 = r.faddr ∧ slotAt sub 5 = (s.reg (VEC_VPROG c)).toNat ∧
      slotAt sub 6 = (s.reg (VEC_VL c)).toNat ∧ slotAt sub 7 = (s.reg (CORE_FSTAT c)).toNat ∧ slotAt sub 8 = (s.reg (CORE_CYCLE c)).toNat ∧
      (∀ j, 9 ≤ j → j < 16 → slotAt sub j = 0) ∧ (∀ j, 16 ≤ j → j < 31 → slotAt sub j = ((s.core c).getX (BitVec.ofNat 5 (j - 15))).toNat) ∧
      slotAt sub 31 = 0 ∧ slotAt sub 0 = (Config.seal (s.core c).sealKey (memBytes t sub (fp + 8) 248)).toNat) ∧
    (∀ sub d, (d < fp ∨ fp + 256 ≤ d) → memByte t sub d = memByte s sub d) ∧
    (∀ a, a ∉ [CORE_RSP c, CORE_CAUSE c, CORE_FADDR c, CORE_STATUS c, VEC_VPROG c, CORE_EXC_COUNT c, CORE_IPEND c] → t.reg a = s.reg a)

/-- A failed push, and an exception while the reserve frame is in use. At a boundary with nothing unretired and nothing held for it: where CORE_RSP is not a multiple of 64, or some of the 256 bytes below it are not populated memory, entry leaves CORE_RSP alone, sets RSV, takes vector 2 with the push address as fault address, and the frame's slot of the cause at core-local 0x818 keeps v; an entry while RSV is set writes no byte of memory and stops the core with reason 2 and v as VECTOR2. (R32, R36, Table 2.6 of spec/02_core_and_exceptions.md) -/
def Obligations.FrameFaultUsesTheReserveFrame : Prop :=
  ∀ (c : CoreId) (r : Trap) (s : State),
    1 ≤ r.vector → r.vector < 64 → r.seq = none → (s.core c).tileQ = [] → (s.core c).vecQ = [] → boundaryIdle (s.core c) = true →
    (s.core c).wait = .running →
    let rsp := s.reg (CORE_RSP c)
    let base := 0xE1000000000 + c.val * 0x1000000
    let t := enter s c r
    (s.test (CORE_STATUS c) fldCORE_STATUS_RSV = false → (rsp.toNat % 64 ≠ 0 ∨ spanRegion s (rsp - 256).toNat 256 = none) → inArray s c.val 0x800 (base + 0x800) 256 →
      t.reg (CORE_RSP c) = rsp ∧ t.test (CORE_STATUS c) fldCORE_STATUS_RSV = true ∧ t.fld (CORE_CAUSE c) fldCORE_CAUSE_VECTOR = 2 ∧
      t.reg (CORE_FADDR c) = rsp - 256 ∧ (t.core c).pc = BitVec.ofNat 64 (base + 64) ∧ t.fld (CORE_STATUS c) fldCORE_STATUS_LEVEL = 1 ∧
      t.test (CORE_STATUS c) fldCORE_STATUS_IE = false ∧ t.test (CORE_STATUS c) fldCORE_STATUS_STEP = false ∧
      ∀ sub, fldCORE_CAUSE_VECTOR.get (BitVec.ofNat 64 (natOfBytes (memBytes t sub (base + 0x818) 8))) = r.vector) ∧
    (s.test (CORE_STATUS c) fldCORE_STATUS_RSV = true →
      t.mem = s.mem ∧ isStopped t c = true ∧ t.fld (CORE_STOPINFO c) fldCORE_STOPINFO_REASON = 2 ∧
      t.fld (CORE_STOPINFO c) fldCORE_STOPINFO_VECTOR2 = r.vector ∧ t.fld (CORE_STOPINFO c) fldCORE_STOPINFO_PC = r.pc.toNat % 2 ^ 44)

/-- RFE restores a frame whose seal verifies, and no other; FSEAL. RFE at Ranger level with a frame in the core's own array, nothing buffered and no error: where the seal verifies, the saved LEVEL is Task or Ranger and the saved PC is a multiple of 4, it restores PC, LEVEL, IE, STEP, VPROG, VL, CORE_FSTAT and x1 to x15, and raises CORE_RSP by 256 (or, for the reserve frame, clears RSV and leaves CORE_RSP); otherwise it restores nothing and takes FRAME_CHECK, vector 3, at itself. The other registers keep their values, and no byte of memory changes in the first case. FSEAL at Ranger level on a frame at a 64-byte-aligned address in the core's own array, nothing buffered and no error, writes to its bytes 0 to 7 the seal over bytes 8 to 255 under the core's key, whatever they hold, and changes no other byte of memory and no register; a misaligned address takes DATA_ALIGN. (R38, R39, Table 2.5 of spec/02_core_and_exceptions.md, R40, R34, spec/02_core_and_exceptions.md, Return) -/
def Obligations.ReturnAndSeal : Prop :=
  (
    ∀ (c : CoreId) (off : Nat) (s : State), Ready s c .retired → atRanger s c → errorFree s → (s.core c).mbuf = [] →
      let rsv := s.test (CORE_STATUS c) fldCORE_STATUS_RSV
      let a := if rsv then 0xE1000000000 + c.val * 0x1000000 + 0x800 else (s.reg (CORE_RSP c)).toNat
      inArray s c.val off a 256 →
      let f := memBytes s (coreSub s c) a 256
      let at_ := fun (j : Nat) => BitVec.ofNat 64 (natOfBytes ((f.drop (8 * j)).take 8))
      let good := at_ 0 = Config.seal (s.core c).sealKey (f.drop 8) ∧ fldCORE_STATUS_LEVEL.get (at_ 2) < 2 ∧ (at_ 1).toNat % 4 = 0
      (good → ∃ t, exec (.rfe c ⟨0, 0, 0⟩) s = .next t ∧ (t.core c).pc = at_ 1 ∧
        (∀ i : BitVec 5, (t.core c).getX i = if 1 ≤ i.toNat ∧ i.toNat ≤ 15 then at_ (15 + i.toNat) else (s.core c).getX i) ∧
        t.fld (CORE_STATUS c) fldCORE_STATUS_LEVEL = fldCORE_STATUS_LEVEL.get (at_ 2) ∧
        t.fld (CORE_STATUS c) fldCORE_STATUS_IE = fldCORE_STATUS_IE.get (at_ 2) ∧
        t.fld (CORE_STATUS c) fldCORE_STATUS_STEP = fldCORE_STATUS_STEP.get (at_ 2) ∧
        t.test (CORE_STATUS c) fldCORE_STATUS_RSV = false ∧
        t.reg (CORE_RSP c) = (if rsv then s.reg (CORE_RSP c) else s.reg (CORE_RSP c) + 256) ∧
        t.fld (VEC_VPROG c) fldVEC_VPROG_DONE = fldVEC_VPROG_DONE.get (at_ 5) ∧ t.fld (VEC_VL c) fldVEC_VL_VL = fldVEC_VL_VL.get (at_ 6) ∧
        t.reg (CORE_FSTAT c) = at_ 7 &&& 0x7F ∧ t.mem = s.mem ∧
        (t.core c).f = (s.core c).f ∧ (t.core c).v = (s.core c).v ∧ (t.core c).m = (s.core c).m ∧ (t.core c).tiles = (s.core c).tiles ∧
        ∀ d, d ∉ [CORE_STATUS c, CORE_RSP c, VEC_VPROG c, VEC_VL c, CORE_FSTAT c] → t.reg d = s.reg d) ∧
      (¬ good → ∀ w, wordOf (.rfe c ⟨0, 0, 0⟩) = some (c, w) → exec (.rfe c ⟨0, 0, 0⟩) s = takes s c w 3 0 (s.core c).pc)) ∧
  (
    ∀ (c : CoreId) (r : OpR) (off : Nat) (s : State), Ready s c .retired → atRanger s c → errorFree s → (s.core c).mbuf = [] →
      r.rd = 0 → r.rs2 = 0 →
      let a := ((s.core c).getX r.rs1).toNat
      (a % 64 = 0 → inArray s c.val off a 256 → (∀ d : CoreId, d ≠ c → physOf s d ≠ physOf s c) → ∃ t, exec (.fseal c r) s = .next t ∧
        (∀ sub, natOfBytes (memBytes t sub a 8) = (Config.seal (s.core c).sealKey (memBytes s sub (a + 8) 248)).toNat) ∧
        (∀ sub d, (d < a ∨ a + 8 ≤ d) → memByte t sub d = memByte s sub d) ∧ t.regs = s.regs ∧
        (t.core c).pc = (s.core c).pc + 4 ∧ (t.core c).x = (s.core c).x ∧ (t.core c).f = (s.core c).f) ∧
      (a % 64 ≠ 0 → ∀ w, wordOf (.fseal c r) = some (c, w) → exec (.fseal c r) s = takes s c w 9 a (s.core c).pc))

/-- RFE undoes an exception entry. A core that enters an exception at a boundary with nothing unretired, held or due, with a sound frame in its own array and a handler in populated memory, and executes RFE at once is back where it was: the PC that was saved, every general, floating, vector, mask and tile register, LEVEL, IE and STEP, CORE_RSP, VL and VPROG. (R34, R36, R38, spec/02_core_and_exceptions.md, The exception frame) -/
def Obligations.EntryThenReturn : Prop :=
  ∀ (c : CoreId) (r : Trap) (off : Nat) (s : State),
    let rsp := (s.reg (CORE_RSP c)).toNat
    1 ≤ r.vector → r.vector < 64 → r.faddr < 2 ^ 64 → r.word < 2 ^ 32 → r.seq = none → r.pc.toNat % 4 = 0 → canRun s c = true →
    boundaryIdle (s.core c) = true → (s.core c).tileQ = [] → (s.core c).vecQ = [] → (s.core c).mcDue = [] → (s.core c).mbuf = [] → errorFree s →
    fetchable s (0xE1000000000 + c.val * 0x1000000 + 32 * r.vector) = true →
    s.test (CORE_STATUS c) fldCORE_STATUS_RSV = false → s.fld (CORE_STATUS c) fldCORE_STATUS_LEVEL < 2 →
    s.fld (VEC_VPROG c) fldVEC_VPROG_DONE ≤ 1024 → rsp % 64 = 0 → 256 ≤ rsp → inArray s c.val off (rsp - 256) 256 →
    ∃ t, exec (.rfe c ⟨0, 0, 0⟩) (enter s c r) = .next t ∧ (t.core c).pc = r.pc ∧ (t.core c).x = (s.core c).x ∧ (t.core c).f = (s.core c).f ∧
      (t.core c).v = (s.core c).v ∧ (t.core c).m = (s.core c).m ∧ (t.core c).tiles = (s.core c).tiles ∧
      t.fld (CORE_STATUS c) fldCORE_STATUS_LEVEL = s.fld (CORE_STATUS c) fldCORE_STATUS_LEVEL ∧
      t.test (CORE_STATUS c) fldCORE_STATUS_IE = s.test (CORE_STATUS c) fldCORE_STATUS_IE ∧
      t.test (CORE_STATUS c) fldCORE_STATUS_STEP = s.test (CORE_STATUS c) fldCORE_STATUS_STEP ∧
      t.reg (CORE_RSP c) = s.reg (CORE_RSP c) ∧ t.fld (VEC_VL c) fldVEC_VL_VL = s.fld (VEC_VL c) fldVEC_VL_VL ∧
      t.fld (VEC_VPROG c) fldVEC_VPROG_DONE = s.fld (VEC_VPROG c) fldVEC_VPROG_DONE

/-- Interrupts, and the events a core meets from outside. On a core whose clock runs, with IE = 1, no quiet window, no MACHINE_CHECK and no STEP due, and no FETCH_ADDR or ILLEGAL due at a boundary with nothing unretired, the pending enabled interrupt with the lowest vector v is taken: its bit of CORE_IPEND is cleared (TIMER's excepted) and entry for v saves the PC of the oldest unretired instruction, or of the next one. A MACHINE_CHECK attributed to the core comes first, whatever IE and the quiet window; then a STEP that is due, then FETCH_ADDR, before the interrupt. With IE = 0, with a quiet window open, or with no pending enabled interrupt, and nothing else due, the device is unchanged; so it is on a stopped core, and while an atomic of the core waits in a stack. On a device whose clocks run: QUIET_WINDOW_END closes an open window; a line of the PC, or the next one, that lies in a core array or a bank, is read without error or a store of another sub-ring and is not held enters the fetch buffer of eight as its newest; NUM_MODE_APPLY, VEC_VL_APPLY and QUIESCENT_BOUNDARY_APPLY make what was held for the core's boundary take effect; VECTOR_RETIRE retires the oldest unretired vector instruction, and reports an NV that waited for that; a write of CORE_SWI sets the pending bits it names; TIMER's bit follows REFTIME ≥ CMP on a core whose domain is up. On a core that neither waits nor is in Hold each changes nothing else of it, and no byte of memory. (R46, R48, R50, R51, R55, R47, R122, R125, R144, R452, Tables 2.4, 2.13 and 2.14 of spec/02_core_and_exceptions.md, Table 5.10 of spec/05_long_vectors.md) -/
def Obligations.InterruptsAndCoreEvents : Prop :=
  (
    ∀ (c : CoreId) (word : Option IWord) (s : State), (s.core c).pendTimer = false →
      let k := s.core c
      let live := fun (v : Nat) => 16 ≤ v ∧ v < 64 ∧ (s.reg (CORE_IPEND c)).getLsbD v = true ∧ (s.reg (CORE_IEN c)).getLsbD v = true
      let trap := fun (v a w : Nat) (seq : Option Nat) => ({ vector := v, faddr := a, word := w, pc := k.pc, seq := seq } : Trap)
      let can := alive s c = true ∧ k.wait ≠ .atom
      let open_ := s.test (CORE_STATUS c) fldCORE_STATUS_IE = true ∧ qwOpen s c = false
      let settled := k.vecQ = [] ∧ k.tileQ = [] ∧ k.wait = .running
      (∀ v, can → open_ → k.mcDue = [] → (k.wait = .running → k.stepDue = none) → live v → (∀ u, u < v → ¬ live u) →
        (settled → fetchable s k.pc.toNat = true ∧ ∀ w, word = some w → illegalDue s c w = false) →
        exec (.takeInterrupt ⟨c, word⟩) s =
          next s (enter (if v = 16 then s else s.setReg (CORE_IPEND c) (s.reg (CORE_IPEND c) &&& ~~~ ((1 : Word) <<< v))) c (trap v 0 0 none))) ∧
      (∀ m rest, can → k.mcDue = m :: rest → k.vecQ = [] → k.tileQ = [] → exec (.takeInterrupt ⟨c, word⟩) s =
        next s (enter (s.modCore c fun q => { q with mcDue := rest }) c (trap 1 (m.1.getD k.pc.toNat) 0 (some m.2)))) ∧
      (∀ v n, can → open_ → k.mcDue = [] → settled → k.stepDue = some n → live v → exec (.takeInterrupt ⟨c, word⟩) s = next s (enter s c (trap 14 0 n none))) ∧
      (∀ v, can → open_ → k.mcDue = [] → settled → k.stepDue = none → live v → fetchable s k.pc.toNat = false →
        exec (.takeInterrupt ⟨c, word⟩) s = next s (enter s c (trap 5 k.pc.toNat 0 none))) ∧
      (k.mcDue = [] → word = none → (s.test (CORE_STATUS c) fldCORE_STATUS_IE = false ∨ qwOpen s c = true ∨ ∀ v, ¬ live v) →
        exec (.takeInterrupt ⟨c, word⟩) s = .next s) ∧
      (isStopped s c = true ∨ k.wait = .atom → exec (.takeInterrupt ⟨c, word⟩) s = .next s)) ∧
  (
    ∀ (c : CoreId) (v : Word) (line : Nat) (s : State), s.still = false → (s.core c).wait = .running → inHold s c = false →
      let k := s.core c
      let sameRest := fun (t : State) => t.mem = s.mem ∧ (∀ d, d ≠ c → t.core d = s.core d) ∧ (t.core c).pc = k.pc ∧ (t.core c).x = k.x ∧
        (t.core c).f = k.f ∧ (t.core c).v = k.v ∧ (t.core c).m = k.m ∧ (t.core c).tiles = k.tiles
      (exec (.quietWindowEnd c) s = .next (if qwOpen s c then s.modCore c fun q => { q with qwEnd := some (s.reg (CORE_CYCLE c)) } else s)) ∧
      (alive s c = true → line = k.pc.toNat / 128 ∨ line = k.pc.toNat / 128 + 1 → line ∉ k.fetch → errorFree s → (∀ e ∈ k.mbuf, e.sub = coreSub s c) →
        (∀ j d, inArray s j d (line * 128) 128 →
          exec (.fetchLineFill c line) s = .next (s.modCore c fun q => { q with fetch := (line :: k.fetch).take 8 })) ∧
        ∀ j, inBank s j (line * 128) 128 → ∃ t, exec (.fetchLineFill c line) s = .next t ∧ t.mem = s.mem ∧
          (t.core c).fetch = (line :: k.fetch).take 8) ∧
      (∀ w, k.pendMode = some w → exec (.numModeApply c) s = .next ((s.setReg (NUM_MODE c) w).modCore c fun q => { q with pendMode := none })) ∧
      (k.pendMode = none → exec (.numModeApply c) s = .next s) ∧
      (k.vecQ = [] → ∃ t, exec (.vecVlApply c) s = .next t ∧ t.reg (VEC_VL c) = k.pendVL.getD (s.reg (VEC_VL c)) ∧
        t.reg (VEC_VPROG c) = k.pendVprog.getD (s.reg (VEC_VPROG c)) ∧ t.core c = { k with pendVL := none, pendVprog := none } ∧ t.mem = s.mem ∧
        ∀ a, a ≠ VEC_VL c → a ≠ VEC_VPROG c → t.reg a = s.reg a) ∧
      (k.vecQ ≠ [] → exec (.vecVlApply c) s = .next s ∧ exec (.quiescentApply c) s = .next s) ∧
      (k.vecQ = [] → k.tileQ = [] → ∃ t, exec (.quiescentApply c) s = .next t ∧
        t.core c = { k with pendSeed := none, pendRngMode := none, pendRng := [] } ∧ t.mem = s.mem ∧
        (k.pendRng = [] → k.pendSeed = none → k.pendRngMode = none → ∀ a, t.reg a = s.reg a) ∧
        (∀ b, k.pendRngMode = some b → t.test (VEC_RNG c) fldVEC_RNG_MODE = b) ∧
        (∀ j w, j < 32 → k.pendRng = [(j, w)] → t.reg (VEC_RNG_STATE c j) = w) ∧
        ∀ r j, j < 32 → k.pendRng = [] → k.pendSeed = some r → t.reg (VEC_RNG_STATE c j) = (seedRing s c r).reg (VEC_RNG_STATE c j)) ∧
      (k.vecQ = [] → exec (.vectorRetire c) s = .next s) ∧
      (∀ op later, k.vecQ = op :: later → exec (.vectorRetire c) s =
        let t := s.modCore c fun q => { q with vecQ := later }
        next s (match op.nv with | some sub => reportNV t sub | none => t)) ∧
      (∃ t, exec (.coreSwiWrite c v) s = .next t ∧ sameRest t ∧ t.reg (CORE_IPEND c) = s.reg (CORE_IPEND c) ||| (v &&& 0xFFFFFFFF00000000) ∧
        ∀ a, a ≠ CORE_IPEND c → t.reg a = s.reg a) ∧
      (s.fld (PWR_CORE c) fldPWR_CORE_STATE < 3 → ∃ t, exec (.timer c) s = .next t ∧ sameRest t ∧ t.reg (CORE_IPEND c) =
          (if (s.reg (CORE_TIMER_CMP c)).toNat ≤ (s.reg (CORE_REFTIME 0)).toNat then s.reg (CORE_IPEND c) ||| 0x10000
            else s.reg (CORE_IPEND c) &&& ~~~ 0x10000) ∧ ∀ a, a ≠ CORE_IPEND c → t.reg a = s.reg a))

/-- Results of the floating instructions of opcode 0x1C. With fn[4:0] = 0, and rs2 = 0 where the operation does not use it, each operation writes its destination and ORs the flags it raises into CORE_FSTAT, in the precision P and the direction CORE_FSTAT.RM selects: a binary32 or binary16 result has ones above it; comparisons write 1 or 0 and set NV for a signalling operand (FEQ) or any not-a-number (FLT, FLE); conversions to integers hold the range; moves copy bits; FSTATR and FSTATW read CORE_FSTAT, and FSTATW then writes its bits [6:0] from rs1, read before rd is written. Nothing else changes. (R25, R28, R451, Tables 2.2b and 2.22 of spec/02_core_and_exceptions.md) -/
def Obligations.FloatingResults : Prop :=
  ∀ (c : CoreId) (o : OpF) (s : State), Ready s c .scalar → o.lo = 0 →
    let m := if o.p then f64 else f32
    let n := if o.p then f32 else f64
    let rm := rmOf (s.fld (CORE_FSTAT c) fldCORE_FSTAT_RM)
    let rd := fun (f : Fmt) (r : BitVec 5) => ((s.core c).getF r).toNat % 2 ^ f.width
    let a := rd m o.rs1
    let b := rd m o.rs2
    let d := rd m o.rd
    let x := (s.core c).getX o.rs1
    let y := (s.core c).getF o.rs1
    let st := s.reg (CORE_FSTAT c)
    let flags := fun (fl : Fl) => st ||| BitVec.ofNat 64
      ((if fl.nv then 16 else 0) + (if fl.dz then 8 else 0) + (if fl.ov then 4 else 0) + (if fl.uf then 2 else 0) + (if fl.nx then 1 else 0))
    let toF := fun (i : Instr) (f : Fmt) (r : FRes) => exec i s = .next (advance (s.setReg (CORE_FSTAT c) (flags r.2)) c fun k =>
      k.setF o.rd (BitVec.ofNat 64 (r.1 + (2 ^ 64 - 2 ^ f.width))))
    let toX := fun (i : Instr) (w : Word) (fl : Fl) => exec i s = .next (advance (s.setReg (CORE_FSTAT c) (flags fl)) c fun k => k.setX o.rd w)
    let cmp := compareFV (unpack m a) (unpack m b)
    let signalling := fun (v : Nat) => unpack m v = .nan true
    let nan := fun (v : Nat) => isNan m v
    toF (.fadd c o) m (scalarAdd m rm a b) ∧
    toF (.fsub c o) m (if isNan m b then scalarAdd m rm a b else scalarAdd m rm a (b ^^^ 2 ^ (m.width - 1))) ∧
    toF (.fmul c o) m (scalarMul m rm a b) ∧
    toF (.fdiv c o) m (scalarDiv m rm a b) ∧
    toF (.fmadd c o) m (scalarFma m rm d a b) ∧
    toX (.feq c o) (if cmp = some .eq then 1 else 0) { nv := decide (signalling a ∨ signalling b) } ∧
    toX (.flt c o) (if cmp = some .lt then 1 else 0) { nv := nan a || nan b } ∧
    toX (.fle c o) (if cmp = some .lt ∨ cmp = some .eq then 1 else 0) { nv := nan a || nan b } ∧
    (o.rs2 = 0 →
      toF (.fsqrt c o) m (scalarSqrt m rm a) ∧
      toF (.fcvtff c o) m (scalarConvert n m rm (rd n o.rs1)) ∧
      toF (.fcvtfh c o) f16 (scalarConvert m f16 rm a) ∧
      toF (.fcvthf c o) m (scalarConvert f16 m rm (rd f16 o.rs1)) ∧
      toF (.fcvtif c o) m (scalarFromInt m rm x.toInt) ∧
      toF (.fcvtuf c o) m (scalarFromInt m rm x.toNat) ∧
      (let r := scalarToInt m rm (-2 ^ 63) (2 ^ 63 - 1) a
       toX (.fcvtfi c o) (BitVec.ofInt 64 r.1) r.2) ∧
      (let r := scalarToInt m rm 0 (2 ^ 64 - 1) a
       toX (.fcvtfu c o) (BitVec.ofInt 64 r.1) r.2) ∧
      exec (.fmvxf c o) s = .next (advance s c fun k => k.setX o.rd (if o.p then y else (y.setWidth 32).signExtend 64)) ∧
      exec (.fmvfx c o) s = .next (advance s c fun k => k.setF o.rd (if o.p then x else 0xFFFFFFFF00000000 ||| (x &&& 0xFFFFFFFF))) ∧
      (o.p = false → o.rs1 = 0 → exec (.fstatr c o) s = .next (advance s c fun k => k.setX o.rd st)) ∧
      (o.p = false → exec (.fstatw c o) s = .next (advance (s.setReg (CORE_FSTAT c) (x &&& 0x7F)) c fun k => k.setX o.rd st)))

/-- Addition, multiplication, fused multiply-add and comparison are of the exact values. For finite binary32 and binary64 operands: where the exact sum, product, or sum of the addend and the product is not zero, FADD, FMUL and FMADD answer one rounding of a number of exactly that value; FEQ, FLT and FLE compare the exact values, zeros of both signs being equal. (R25, R451, Table 2.2b of spec/02_core_and_exceptions.md) -/
def Obligations.FloatingOperationsRoundTheExactResult : Prop :=
  ∀ (f : Fmt) (rm : RM) (a b d : Nat) (n1 n2 n3 : Bool) (m1 m2 m3 : Nat) (e1 e2 e3 : Int), f = f32 ∨ f = f64 →
    unpack f a = .fin n1 m1 e1 → unpack f b = .fin n2 m2 e2 → unpack f d = .fin n3 m3 e3 →
    let val := fun (n : Bool) (m : Nat) (e : Int) => (if n then -1 else 1) * (m : ℚ) * (2 : ℚ) ^ e
    let x := val n1 m1 e1
    let y := val n2 m2 e2
    let z := val n3 m3 e3
    let rounds := fun (r : FRes) (q : ℚ) => q ≠ 0 → ∃ v : Exact, v.sticky = false ∧ v.m ≠ 0 ∧ val v.neg v.m v.e = q ∧ r = scalarRound f rm v
    rounds (scalarAdd f rm a b) (x + y) ∧ rounds (scalarMul f rm a b) (x * y) ∧ rounds (scalarFma f rm d a b) (z + x * y) ∧
    (compareFV (unpack f a) (unpack f b) = some .lt ↔ x < y) ∧ (compareFV (unpack f a) (unpack f b) = some .eq ↔ x = y) ∧
    (compareFV (unpack f a) (unpack f b) = some .gt ↔ y < x)

/-- Rounding to a format is correct rounding in the four directions. For binary16, binary32 and binary64, an exact nonzero value whose rounding does not overflow: the scalar result is finite and has the sign of the value or is zero; no finite encoding of the format is nearer to the value (nearest-even), or lies between the result and the value on the side the direction excludes (toward zero: not beyond the value, and none between; down: the greatest encoding not above; up: the least not below); NX is set exactly where the result differs from the value. (R25, R56, R66, Table 2.22 of spec/02_core_and_exceptions.md) -/
def Obligations.RoundingIsCorrect : Prop :=
  ∀ (f : Fmt) (rm : RM) (x : Exact), f = f16 ∨ f = f32 ∨ f = f64 → x.m ≠ 0 → x.sticky = false →
    let val := fun (n : Bool) (m : Nat) (e : Int) => (if n then -1 else 1) * (m : ℚ) * (2 : ℚ) ^ e
    let q := val x.neg x.m x.e
    let r := scalarRound f rm x
    r.2.ov = false → ∃ n m e, unpack f r.1 = .fin n m e ∧ r.1 < 2 ^ f.width ∧ n = x.neg ∧
      (let v := val n m e
       (r.2.nx = true ↔ v ≠ q) ∧
       ∀ w n' m' e', w < 2 ^ f.width → unpack f w = .fin n' m' e' →
        let u := val n' m' e'
        match rm with
        | .rne => |v - q| ≤ |u - q| ∧ (|v - q| = |u - q| → u ≠ v → r.1 % 2 = 0)
        | .rtz => |v| ≤ |q| ∧ (|u| ≤ |q| → 0 ≤ u * q → |u| ≤ |v|)
        | .rdn => v ≤ q ∧ (u ≤ q → u ≤ v)
        | .rup => q ≤ v ∧ (q ≤ u → v ≤ u))

/-- A scalar operation that returns a not-a-number returns the canonical one. FADD, FSUB, FMUL, FDIV, FSQRT, FMADD and FCVTFF complete with a value of their precision in f[rd], and where that value is a not-a-number (exponent all ones, fraction nonzero) it is 0x7FC0_0000 in binary32 and 0x7FF8_0000_0000_0000 in binary64. (R26) -/
def Obligations.ScalarNanIsCanonical : Prop :=
  ∀ (c : CoreId) (o : OpF) (s : State), Ready s c .scalar → o.lo = 0 →
    let canonical := fun (i : Instr) => ∃ t, exec i s = .next t ∧ (t.core c).pc = (s.core c).pc + 4 ∧
      (let w := ((t.core c).getF o.rd).toNat
       if o.p then w / 2 ^ 52 % 2 ^ 11 = 2 ^ 11 - 1 → w % 2 ^ 52 ≠ 0 → w = 0x7FF8000000000000
       else w / 2 ^ 32 = 2 ^ 32 - 1 ∧ (w / 2 ^ 23 % 2 ^ 8 = 2 ^ 8 - 1 → w % 2 ^ 23 ≠ 0 → w % 2 ^ 32 = 0x7FC00000))
    canonical (.fadd c o) ∧ canonical (.fsub c o) ∧ canonical (.fmul c o) ∧ canonical (.fdiv c o) ∧ canonical (.fmadd c o) ∧
    (o.rs2 = 0 → canonical (.fsqrt c o) ∧ canonical (.fcvtff c o))

/-- TMMA and TMMA4, from issue to retirement. On a device whose clocks run, with a legal word and shape, arrays in service, nothing upset and outside any ring, TMMA issues: the PC moves on, the accumulator's in-use flag is set and no tile changes; TILE_RETIRE then writes element (i, j) of the accumulator, i < M and j < N, with the defined dot product of row i of TA and row j of TB (scale rows for block formats) added to the old element, or to +0 with Z, and leaves every other element, row, scale row and tile. TMMA4 does the same for TD to TD + 3, with rows of the four images in its own scratchpad, read without error, in place of TA. (R44, R71, R72, R74, R86, R87, R89, R90, R101, R103, Tables 4.3 and 4.4 of spec/04_tiles_and_arrays.md) -/
def Obligations.TileComputeResults : Prop :=
  ∀ (c : CoreId) (o : OpMma) (s : State), Ready s c .tile → s.still = false → errorFree s → runningRing s = 0 → o.fmt.toNat < 5 → o.lo = 0 →
    let k := s.core c
    let f := o.fmt.toNat
    let sh := (k.getX o.rs2).toNat
    let m := sh % 64 + 1
    let n := sh / 256 % 64 + 1
    let r := sh / 65536 % 512 + 1
    let legal := sh < 2 ^ 25 ∧ sh / 2 ^ 14 % 4 = 0 ∧ sh / 2 ^ 6 % 4 = 0 ∧ r ≤ rowCap f ∧ (3 ≤ f → r % 32 = 0)
    let served := ¬(s.fld (TILE_CFG c) fldTILE_CFG_OUT % 4 ≠ 0 ∧ s.fld (TILE_CFG c) fldTILE_CFG_OUT / 4 ≠ 0)
    let runs := fun (i : Instr) (d : Nat) (dst : Nat → BitVec 3) (op : Nat → Nat → Nat × Nat) => ∃ t u, exec i s = .next t ∧
      exec (.tileRetire c) t = .next u ∧ (t.core c).pc = k.pc + 4 ∧ (t.core c).tiles = k.tiles ∧ (t.core c).x = k.x ∧ t.mem = s.mem ∧
      (∀ q, q < d → bitOf (t.fld (TILE_INUSE c) fldTILE_INUSE_INUSE) (dst q).toNat = true) ∧
      (u.core c).tileQ = [] ∧ (u.core c).pc = k.pc + 4 ∧ (u.core c).x = k.x ∧ (u.core c).v = k.v ∧ u.mem = s.mem ∧
      (∀ q i j, q < d → i < m → j < n → rowElem 32 (((u.core c).getT (dst q)).row i) j =
        (mmaElem f (s.test (NUM_MODE c) fldNUM_MODE_TILE_FTZ) r (op q i) ((k.getT o.tb).row j, (k.getT o.tb).scale j)
          (if o.z then 0 else rowElem 32 ((k.getT (dst q)).row i) j)).1 % 2 ^ 32) ∧
      (∀ q i j, q < d → i < 64 → j < 64 → (m ≤ i ∨ n ≤ j) →
        rowElem 32 (((u.core c).getT (dst q)).row i) j = rowElem 32 ((k.getT (dst q)).row i) j) ∧
      (∀ q, q < d → ((u.core c).getT (dst q)).scales = (k.getT (dst q)).scales) ∧
      (∀ p, (∀ q, q < d → p ≠ dst q) → (u.core c).getT p = k.getT p)
    (legal → served → o.rs1 = 0 → runs (.tmma c o) 1 (fun _ => o.td) (fun _ i => ((k.getT o.ta).row i, (k.getT o.ta).scale i))) ∧
    (legal → served → o.ta = 0 → o.td.toNat % 4 = 0 → (k.getX o.rs1).toNat % 256 = 0 →
      (∃ off, inArray s c.val off (k.getX o.rs1).toNat (if 3 ≤ f then 69632 else 65536)) →
      let base := (k.getX o.rs1).toNat
      runs (.tmma4 c o) 4 (fun q => o.td + BitVec.ofNat 3 q) (fun q i =>
        (natOfBytes (memBytes s 0 (base + q * 16384 + i * 256) (r * tfBits f / 8)),
         natOfBytes (memBytes s 0 (base + 65536 + q * 1024 + i * 16) (if 3 ≤ f then r / 32 else 0)))))

/-- TLD and TST without block formats. On a device whose clocks run, with a legal descriptor between FP32, BF16 and FP16 that draws nothing, nothing upset, no interrupt or stop due, outside any ring: TLD, on a core whose buffered stores are all of its sub-ring, from rows in arrays or banks sets the tile's in-use flag and, once retired, holds in element (r, i) the memory element of row r and column i (of row i and column r when transposing), converted where the formats differ, every other element and tile unchanged; TST to rows of its own array that do not overlap writes memory element i of row r from element (r, i), or (i, r), and no other byte of memory, and changes no tile. (R92, R94, R96, R98, R99, R101, R103, R453, Tables 4.5 to 4.7 of spec/04_tiles_and_arrays.md) -/
def Obligations.TileMoveResults : Prop :=
  ∀ (c : CoreId) (o : OpMov) (s : State), s.still = false → errorFree s → runningRing s = 0 → o.cut = none ∨ cutDue s c = false → o.lo = 0 → o.rs3 = 0 →
    (∀ d : CoreId, d ≠ c → physOf s d ≠ physOf s c) →
    let k := s.core c
    let w := (k.getX o.rs2).toNat
    let rows := w % 64 + 1
    let cols := w / 64 % 512 + 1
    let mf := w / 2 ^ 15 % 8
    let tf := w / 2 ^ 18 % 8
    let tr := w / 2 ^ 21 % 2 = 1
    let stride := w / 2 ^ 32
    let base := (k.getX o.rs1).toNat
    let legal := w / 2 ^ 22 % 2 ^ 10 = 0 ∧ mf < 3 ∧ tf < 3 ∧ cols ≤ rowCap tf ∧ (mf = tf ∨ mf = 0 ∨ tf = 0)
    let len := if tr then rows else cols
    let count_ := if tr then cols else rows
    let bytes := len * tfBits mf / 8
    let addr := fun (r : Nat) => (base + r * stride) % 2 ^ 64
    let cv := fun (a b x : Nat) => if a = b then x else (engConvert (tfFmt a) (tfFmt b) (engMode s c .tile) x).1
    (Ready s c .tile → legal → (∀ e ∈ k.mbuf, e.sub = coreSub s c) → (∀ r, r < count_ → (∃ j off, inArray s j off (addr r) bytes) ∨ ∃ j, inBank s j (addr r) bytes) →
      ∃ t u, exec (.tld c o) s = .next t ∧ exec (.tileRetire c) t = .next u ∧ (t.core c).pc = k.pc + 4 ∧ (t.core c).tiles = k.tiles ∧
        bitOf (t.fld (TILE_INUSE c) fldTILE_INUSE_INUSE) o.t.toNat = true ∧ (u.core c).tileQ = [] ∧ (u.core c).pc = k.pc + 4 ∧
        (u.core c).x = k.x ∧ u.mem = s.mem ∧
        (∀ r i, r < rows → i < cols → rowElem (tfBits tf) (((u.core c).getT o.t).row r) i =
          cv mf tf (rowElem (tfBits mf) (natOfBytes (sees s c (addr (if tr then i else r)) bytes)) (if tr then r else i)) % 2 ^ tfBits tf) ∧
        (∀ r i, r < 64 → i < rowCap tf → (rows ≤ r ∨ cols ≤ i) →
          rowElem (tfBits tf) (((u.core c).getT o.t).row r) i = rowElem (tfBits tf) ((k.getT o.t).row r) i) ∧
        (∀ p, p ≠ o.t → (u.core c).getT p = k.getT p)) ∧
    (Ready s c .retired → legal → bytes ≤ stride → base + count_ * stride + bytes < 2 ^ 64 →
      (∀ r, r < count_ → ∃ off, inArray s c.val off (addr r) bytes) →
      ∃ t, exec (.tst c o) s = .next t ∧ (t.core c).pc = k.pc + 4 ∧ (t.core c).tiles = k.tiles ∧ (t.core c).x = k.x ∧ (t.core c).v = k.v ∧
        (∀ r i, ∀ sub, r < count_ → i < len → rowElem (tfBits mf) (natOfBytes (memBytes t sub (addr r) bytes)) i =
          cv tf mf (rowElem (tfBits tf) ((k.getT o.t).row (if tr then i else r)) (if tr then r else i)) % 2 ^ tfBits mf) ∧
        (∀ sub d, (∀ r, r < count_ → d < addr r ∨ addr r + bytes ≤ d) → memByte t sub d = memByte s sub d))

/-- TZERO, TFREE, TGETV, TPUTV and the activity ramp. With their unused bits 0, nothing upset and no interrupt or stop that cuts them short: TZERO clears a tile and its scale column and sets its in-use flag; TFREE clears the in-use flags its mask names and leaves every tile; TGETV writes rows 4G to 4G + 3 to a vector register; TPUTV writes them from one, with the flag set, and leaves the other rows and the scale column. No other register and no memory changes. Cut short by an interrupt or a stop that is due, TZERO, TGETV and TPUTV stay at their PC, to restart, and leave every register but their destination as it was. ARRAY_RAMP_STEP climbs from level 1 to 4, then goes down from 3 to 0, unless a compute instruction follows whose rows are ready. (R83, R100, R101, Table 4.8 of spec/04_tiles_and_arrays.md, Table 4.10 of spec/04_tiles_and_arrays.md) -/
def Obligations.TileClearsFlagsAndGroups : Prop :=
  ∀ (c : CoreId) (z : OpTz) (f : OpTf) (v : OpTv) (s : State),
    s.still = false →
    let k := s.core c
    let whole := fun (b : Bool) => b = false ∨ cutDue s c = false
    let inuse := s.fld (TILE_INUSE c) fldTILE_INUSE_INUSE
    let rest := fun (t : State) => (t.core c).pc = k.pc + 4 ∧ (t.core c).x = k.x ∧ (t.core c).f = k.f ∧ (t.core c).m = k.m ∧ t.mem = s.mem ∧
      ∀ a, a ≠ TILE_INUSE c → t.reg a = s.reg a
    let flag_ := fun (t : State) (b : Nat → Bool) => ∀ i, i < 8 → bitOf (t.fld (TILE_INUSE c) fldTILE_INUSE_INUSE) i = b i
    (Ready s c .retired → z.rest = 0 → whole z.cut → ∃ t, exec (.tzero c z) s = .next t ∧ rest t ∧ (t.core c).v = k.v ∧
      flag_ t (fun i => bitOf inuse i || i == z.t.toNat) ∧ (∀ i, i < 64 → ((t.core c).getT z.t).row i = 0 ∧ ((t.core c).getT z.t).scale i = 0) ∧
      ∀ p, p ≠ z.t → (t.core c).getT p = k.getT p) ∧
    (Ready s c .scalar → f.rest = 0 → ∃ t, exec (.tfree c f) s = .next t ∧ rest t ∧ (t.core c).v = k.v ∧ (t.core c).tiles = k.tiles ∧
      flag_ t (fun i => bitOf inuse i && !f.mask.getLsbD i)) ∧
    (Ready s c .retired → wtOn s = false → k.bad = [] → v.rest = 0 → whole v.cut → ∃ t, exec (.tgetv c v) s = .next t ∧ rest t ∧ (t.core c).tiles = k.tiles ∧
      t.reg (TILE_INUSE c) = s.reg (TILE_INUSE c) ∧
      (∀ i, i < 4 → elemV ((t.core c).getV v.v) 2048 i = (k.getT v.t).row (4 * v.g.toNat + i)) ∧ ∀ r, r ≠ v.v → (t.core c).getV r = k.getV r) ∧
    (Ready s c .retired → wtOn s = false → k.bad = [] → v.rest = 0 → whole v.cut → ∃ t, exec (.tputv c v) s = .next t ∧ rest t ∧ (t.core c).v = k.v ∧
      flag_ t (fun i => bitOf inuse i || i == v.t.toNat) ∧
      (∀ i, i < 64 → ((t.core c).getT v.t).row i =
        if 4 * v.g.toNat ≤ i ∧ i < 4 * v.g.toNat + 4 then elemV (k.getV v.v) 2048 (i - 4 * v.g.toNat) else (k.getT v.t).row i) ∧
      ((t.core c).getT v.t).scales = (k.getT v.t).scales ∧ ∀ p, p ≠ v.t → (t.core c).getT p = k.getT p) ∧
    (let restarts := fun (i : Instr) => ∃ t, exec i s = .next t ∧ (t.core c).pc = k.pc ∧ (t.core c).x = k.x ∧ (t.core c).f = k.f ∧
        (t.core c).m = k.m ∧ t.mem = s.mem
     Ready s c .retired → cutDue s c = true →
      (z.rest = 0 → z.cut = true → restarts (.tzero c z)) ∧
      (wtOn s = false → k.bad = [] → v.rest = 0 → v.cut = true → restarts (.tgetv c v) ∧ restarts (.tputv c v))) ∧
    (∃ t, exec (.arrayRampStep c) s = .next t ∧ t.cores = s.cores ∧ t.mem = s.mem ∧ (∀ a, a ≠ TILE_RAMP c → t.reg a = s.reg a) ∧
      (let l := s.fld (TILE_RAMP c) fldTILE_RAMP_LEVEL
       let down := s.test (TILE_RAMP c) fldTILE_RAMP_DOWN
       let ready := 2 ≤ k.tileQ.countP TileOp.computes ∧ (l = 4 ∨ down = true)
       t.fld (TILE_RAMP c) fldTILE_RAMP_LEVEL = (if l = 0 ∨ ready then l else if down then l - 1 else if l < 4 then l + 1 else 3) ∧
       (l ≠ 0 → t.test (TILE_RAMP c) fldTILE_RAMP_DOWN = (if ready then false else if down then decide (l ≠ 1) else decide (4 ≤ l)))))

/-- Integer vector instructions. With W not 3, an instruction of opcode 0x31 that can run whole on at least one element writes in every acting element of VD its operation on the elements of VS1 and of VS2 (with S: on x[VS2]), modulo 2^w for the element width w, and completes; every other element, the other vector, mask, integer and floating registers, the tiles, memory and every other core stay as they were. (R119, R120, R121, R123, R125, R134, Table 5.3 of spec/05_long_vectors.md) -/
def Obligations.VectorIntegerResults : Prop :=
  ∀ (c : CoreId) (o : OpV) (s : State), VecReady s c → o.w ≠ 3 → 0 < s.fld (VEC_VL c) fldVEC_VL_VL →
    let w := 8 * 2 ^ o.w.toNat
    let k := s.core c
    let sg := fun (a : Nat) => signedOf w a
    let does := fun (i : Instr) (f : Nat → Nat → Nat) => ∃ t, exec i s = .next t ∧ VecCompleted s t c ∧ t.mem = s.mem ∧
      writesElems s t c o.vd w (acts s c w o.men o.km)
        (fun e => f (elemV (k.getV o.vs1) w e) (if o.s then (k.getX o.vs2).toNat % 2 ^ w else elemV (k.getV o.vs2) w e)) ∧
      (t.core c).x = k.x ∧ (t.core c).f = k.f ∧ (t.core c).m = k.m
    does (.vadd c o) (fun a b => a + b) ∧
    does (.vsub c o) (fun a b => a + 2 ^ w - b) ∧
    does (.vmul c o) (fun a b => a * b) ∧
    does (.vmulhu c o) (fun a b => a * b / 2 ^ w) ∧
    does (.vand c o) (fun a b => a &&& b) ∧
    does (.vor c o) (fun a b => a ||| b) ∧
    does (.vxor c o) (fun a b => a ^^^ b) ∧
    does (.vsll c o) (fun a b => a <<< (b % w)) ∧
    does (.vsrl c o) (fun a b => a >>> (b % w)) ∧
    does (.vsra c o) (fun a b => wrapInt w (sg a / 2 ^ (b % w))) ∧
    does (.vmin c o) (fun a b => if sg b < sg a then b else a) ∧
    does (.vmax c o) (fun a b => if sg a < sg b then b else a) ∧
    does (.vminu c o) (fun a b => min a b) ∧
    does (.vmaxu c o) (fun a b => max a b) ∧
    does (.vabsdu c o) (fun a b => max a b - min a b)

/-- Floating vector instructions and fused multiply-adds. With W not 3 (and VS2 = S = 0 where there is one operand), an instruction of opcodes 0x32 and 0x33 that can run whole on at least one element, outside any ring, writes in every acting element of VD its engine operation on the elements in the format W names, under NUM_MODE.VEC_FTZ, ORs the flags of the acting elements into NUM_FLAGS.VEC, and completes; everything else named in VecCompleted, memory, and the other registers stay as they were. VFABS and VFNEG change the sign alone of what is not a not-a-number. (R56, R57, R77, R119, R121, R123, R134, Table 5.3 of spec/05_long_vectors.md) -/
def Obligations.VectorFloatingResults : Prop :=
  ∀ (c : CoreId) (o : OpV) (s : State), VecReady s c → o.w ≠ 3 → 0 < s.fld (VEC_VL c) fldVEC_VL_VL → runningRing s = 0 →
    let fm := if o.w = 0 then f32 else if o.w = 1 then bf16 else f16
    let w := if o.w = 0 then 32 else 16
    let k := s.core c
    let z := s.test (NUM_MODE c) fldNUM_MODE_VEC_FTZ
    let act := acts s c w o.men o.km
    let does := fun (i : Instr) (f : Nat → Nat → Nat → FRes) => ∃ t, exec i s = .next t ∧ VecCompleted s t c ∧ t.mem = s.mem ∧
      (let r := fun e => f (elemV (k.getV o.vd) w e) (elemV (k.getV o.vs1) w e)
         (if o.s then (k.getF o.vs2).toNat % 2 ^ w else elemV (k.getV o.vs2) w e)
       writesElems s t c o.vd w act (fun e => (r e).1) ∧
       (∀ b, b < 5 → (bitOf (t.fld (NUM_FLAGS c) fldNUM_FLAGS_VEC) b = true ↔
         bitOf (s.fld (NUM_FLAGS c) fldNUM_FLAGS_VEC) b = true ∨ ∃ e, act e = true ∧ bitOf (flagBits (r e).2) b = true))) ∧
      (t.core c).x = k.x ∧ (t.core c).f = k.f ∧ (t.core c).m = k.m
    let one := o.vs2 = 0 ∧ o.s = false
    let signed := fun (g : Nat → Nat) (a : Nat) =>
      if isNan fm (flushOp fm z a).1 then (fm.nan, { (flushOp fm z a).2 with nv := true }) else (g (flushOp fm z a).1, (flushOp fm z a).2)
    does (.vfadd c o) (fun _ a b => (engAdd) fm z a b) ∧
    does (.vfsub c o) (fun _ a b => (engSub) fm z a b) ∧
    does (.vfmul c o) (fun _ a b => (engMul) fm z a b) ∧
    does (.vfdiv c o) (fun _ a b => (engDiv) fm z a b) ∧
    does (.vfmax c o) (fun _ a b => (fun f z a b => engMaxMin f z true a b) fm z a b) ∧
    does (.vfmin c o) (fun _ a b => (fun f z a b => engMaxMin f z false a b) fm z a b) ∧
    (one → does (.vfsqrt c o) (fun _ a _ => engSqrt fm z a)) ∧
    (one → does (.vfexp c o) (fun _ a _ => engExp fm z a)) ∧
    (one → does (.vflog c o) (fun _ a _ => engLog fm z a)) ∧
    (one → does (.vfrsqrt c o) (fun _ a _ => engRsqrt fm z a)) ∧
    (one → does (.vfrecip c o) (fun _ a _ => engRecip fm z a)) ∧
    (one → does (.vfabs c o) (fun _ a _ => signed (fun v => v % 2 ^ (w - 1)) a)) ∧
    (one → does (.vfneg c o) (fun _ a _ => signed (fun v => v ^^^ 2 ^ (w - 1)) a)) ∧
    does (.vfma c o) (fun d a b => engFma fm z false false d a b) ∧
    does (.vfms c o) (fun d a b => engFma fm z false true d a b) ∧
    does (.vfnma c o) (fun d a b => engFma fm z true false d a b)

/-- Compares and mask operations write a mask register. An integer or floating compare into m0 to m7, and a logical operation of two masks, that can run whole on at least one element, outside any ring, writes in every acting bit of the destination mask the comparison (false where an operand is a not-a-number) or the operation, leaves every other bit and register alone, and completes. (R119, R123, R134, R135, Table 5.3 of spec/05_long_vectors.md) -/
def Obligations.VectorComparesAndMasks : Prop :=
  ∀ (c : CoreId) (o : OpV) (s : State), VecReady s c → o.w ≠ 3 → o.vd.toNat < 8 → 0 < s.fld (VEC_VL c) fldVEC_VL_VL → runningRing s = 0 →
    let k := s.core c
    let does := fun (i : Instr) (g : Nat) (men : Bool) (f : Nat → Bool) => ∃ t, exec i s = .next t ∧ VecCompleted s t c ∧ t.mem = s.mem ∧
      writesBits s t c (o.vd.setWidth 3) (acts s c g men o.km) f ∧ (t.core c).x = k.x ∧ (t.core c).f = k.f ∧ (t.core c).v = k.v
    let w := 8 * 2 ^ o.w.toNat
    let int := fun (p : Nat → Nat → Bool) (e : Nat) =>
      p (elemV (k.getV o.vs1) w e) (if o.s then (k.getX o.vs2).toNat % 2 ^ w else elemV (k.getV o.vs2) w e)
    let fm := if o.w = 0 then f32 else if o.w = 1 then bf16 else f16
    let fw := if o.w = 0 then 32 else 16
    let z := s.test (NUM_MODE c) fldNUM_MODE_VEC_FTZ
    let flt := fun (p : Ordering → Bool) (e : Nat) =>
      match compareFV (unpack fm (flushOp fm z (elemV (k.getV o.vs1) fw e)).1)
          (unpack fm (flushOp fm z (if o.s then (k.getF o.vs2).toNat % 2 ^ fw else elemV (k.getV o.vs2) fw e)).1) with
      | some r => p r
      | none => false
    let msk := fun (p : Bool → Bool → Bool) (e : Nat) =>
      p ((k.getM (o.vs1.setWidth 3)).getLsbD e) ((k.getM (o.vs2.setWidth 3)).getLsbD e)
    does (.vceq c o) w o.men (int fun a b => a == b) ∧
    does (.vclt c o) w o.men (int fun a b => decide (signedOf w a < signedOf w b)) ∧
    does (.vcltu c o) w o.men (int fun a b => decide (a < b)) ∧
    does (.vfceq c o) fw o.men (flt fun r => r == .eq) ∧
    does (.vfclt c o) fw o.men (flt fun r => r == .lt) ∧
    does (.vfcle c o) fw o.men (flt fun r => r == .lt || r == .eq) ∧
    (o.men = false → o.km = 0 → o.s = false → o.vs1.toNat < 8 → o.vs2.toNat < 8 →
      does (.vmand c o) w false (msk fun a b => a && b) ∧ does (.vmor c o) w false (msk fun a b => a || b) ∧
      does (.vmxor c o) w false (msk fun a b => a ^^ b) ∧ does (.vmandn c o) w false (msk fun a b => a && !b))

/-- VSETVL, VMV, VSPLAT, VMPOP and VMFIRST. VSETVL sets VL and rd to min (x[VS1], 8192 / w); VMV copies and VSPLAT spreads a scalar into the acting elements; VMPOP and VMFIRST write to rd the number of set bits below n and the lowest one (n if none). Each, where it can run whole on at least one element, completes and leaves every other register and memory alone. (R119, R121, R122, R138, Table 5.3 of spec/05_long_vectors.md) -/
def Obligations.VectorLengthMovesAndCounts : Prop :=
  ∀ (c : CoreId) (o : OpV) (s : State), VecReady s c → o.w ≠ 3 → 0 < s.fld (VEC_VL c) fldVEC_VL_VL →
    let k := s.core c
    let w := 8 * 2 ^ o.w.toNat
    let n := min (s.fld (VEC_VL c) fldVEC_VL_VL) (8192 / w)
    let plain := o.men = false ∧ o.km = 0 ∧ o.vs2 = 0 ∧ o.s = false
    let mask := k.getM (o.vs1.setWidth 3)
    (plain → ∃ t, exec (.vsetvl c o) s = .next t ∧ VecCompleted s t c ∧ t.mem = s.mem ∧
      t.reg (VEC_VL c) = BitVec.ofNat 64 (min (k.getX o.vs1).toNat (8192 / w)) ∧
      (t.core c).x = (k.setX o.vd (BitVec.ofNat 64 (min (k.getX o.vs1).toNat (8192 / w)))).x ∧
      (t.core c).v = k.v ∧ (t.core c).f = k.f ∧ (t.core c).m = k.m) ∧
    (o.vs2 = 0 → o.s = false → ∃ t, exec (.vmv c o) s = .next t ∧ VecCompleted s t c ∧ t.mem = s.mem ∧
      writesElems s t c o.vd w (acts s c w o.men o.km) (fun e => elemV (k.getV o.vs1) w e) ∧
      (t.core c).x = k.x ∧ (t.core c).f = k.f ∧ (t.core c).m = k.m) ∧
    (o.vs1 = 0 → ∃ t, exec (.vsplat c o) s = .next t ∧ VecCompleted s t c ∧ t.mem = s.mem ∧
      writesElems s t c o.vd w (acts s c w o.men o.km) (fun _ => (if o.s then k.getF o.vs2 else k.getX o.vs2).toNat) ∧
      (t.core c).x = k.x ∧ (t.core c).f = k.f ∧ (t.core c).m = k.m) ∧
    (plain → o.vs1.toNat < 8 → ∃ t, exec (.vmpop c o) s = .next t ∧ VecCompleted s t c ∧ t.mem = s.mem ∧
      (t.core c).x = (k.setX o.vd (BitVec.ofNat 64 ((List.range n).countP fun e => mask.getLsbD e))).x ∧
      (t.core c).v = k.v ∧ (t.core c).f = k.f ∧ (t.core c).m = k.m) ∧
    (plain → o.vs1.toNat < 8 → ∃ t j, exec (.vmfirst c o) s = .next t ∧ VecCompleted s t c ∧ t.mem = s.mem ∧
      (t.core c).x = (k.setX o.vd (BitVec.ofNat 64 j)).x ∧ j ≤ n ∧ (j < n → mask.getLsbD j = true) ∧ (∀ i, i < j → mask.getLsbD i = false) ∧
      (t.core c).v = k.v ∧ (t.core c).f = k.f ∧ (t.core c).m = k.m)

/-- Reductions, dot products and sums of absolute differences. Outside any ring, an instruction of opcode 0x34 that can run whole on at least one element completes with: for the signed reductions, the sum (modulo 2^64), maximum or minimum of the active elements in rd, 0 where none is active; for the FP32 reductions and VFDOT, the pairwise reduction of the active elements and the defined dot product from +0 in bits [31:0] of f[rd] with ones above; for VSAD, each acting 32-bit element of VD raised by the sum of absolute differences of the narrow elements within it, saturating; for VSADF, the group sums added to the first elements of VD. (R137, R138, R139, R140, R72, R74, Table 5.3 of spec/05_long_vectors.md) -/
def Obligations.VectorReductions : Prop :=
  ∀ (c : CoreId) (o : OpV) (s : State), VecReady s c → o.w ≠ 3 → 0 < s.fld (VEC_VL c) fldVEC_VL_VL → runningRing s = 0 →
    s.fld (VEC_VPROG c) fldVEC_VPROG_DONE = 0 →
    let k := s.core c
    let z := s.test (NUM_MODE c) fldNUM_MODE_VEC_FTZ
    let vl := s.fld (VEC_VL c) fldVEC_VL_VL
    let on := fun (e : Nat) => !o.men || (k.getM o.km).getLsbD e
    let live := fun (g : Nat) => (List.range (min vl (8192 / g))).filter on
    let w := 8 * 2 ^ o.w.toNat
    let vals := (live w).map fun e => signedOf w (elemV (k.getV o.vs1) w e)
    let intoX := fun (i : Instr) (r : Int) => ∃ t, exec i s = .next t ∧ VecCompleted s t c ∧ t.mem = s.mem ∧
      (t.core c).x = (k.setX o.vd (BitVec.ofInt 64 r)).x ∧ (t.core c).f = k.f ∧ (t.core c).v = k.v ∧ (t.core c).m = k.m
    let fm := if o.w = 0 then f32 else if o.w = 1 then bf16 else f16
    let fw := if o.w = 0 then 32 else 16
    let up := fun (a : Nat) => if o.w = 0 then (flushOp fm z a).1 else (engConvert fm f32 (engMode s c .vec) (flushOp fm z a).1).1
    let el := fun (e : Nat) => if e ∈ live fw then some (up (elemV (k.getV o.vs1) fw e)) else none
    let intoF := fun (i : Instr) (r : Nat) => ∃ t, exec i s = .next t ∧ VecCompleted s t c ∧ t.mem = s.mem ∧
      (t.core c).f = (k.setF o.vd (0xFFFFFFFF00000000 ||| BitVec.ofNat 64 (r % 2 ^ 32))).f ∧
      (t.core c).x = k.x ∧ (t.core c).v = k.v ∧ (t.core c).m = k.m
    let tree := fun (op : Nat → Nat → FRes) =>
      match (pairwise op (if o.w = 0 then 8 else 9) ((List.range (8192 / fw)).map el)).1 with
      | some v => if isNan f32 v then 0x7FC00000 else v
      | none => 0
    (o.vs2 = 0 → o.s = false →
      intoX (.vredsum c o) vals.sum ∧
      (∃ r, intoX (.vredmax c o) r ∧ (vals = [] → r = 0) ∧ (vals ≠ [] → r ∈ vals ∧ ∀ v ∈ vals, v ≤ r)) ∧
      (∃ r, intoX (.vredmin c o) r ∧ (vals = [] → r = 0) ∧ (vals ≠ [] → r ∈ vals ∧ ∀ v ∈ vals, r ≤ v)) ∧
      intoF (.vfredsum c o) (tree fun a b => engAdd f32 z a b) ∧
      intoF (.vfredmax c o) (tree fun a b => engMaxMin f32 z true a b) ∧
      intoF (.vfredmin c o) (tree fun a b => engMaxMin f32 z false a b)) ∧
    intoF (.vfdot c o) (accumulate z 0 ((List.range ((min vl (8192 / fw) + 7) / 8)).map fun g =>
      groupFloat fm z (((live fw).filter fun e => e / 8 == g).map fun e =>
        (elemV (k.getV o.vs1) fw e, if o.s then (k.getF o.vs2).toNat % 2 ^ fw else elemV (k.getV o.vs2) fw e)))).1 ∧
    (o.w.toNat < 2 → o.vd ≠ o.vs1 → o.vd ≠ o.vs2 → ∃ t, exec (.vsad c o) s = .next t ∧ VecCompleted s t c ∧ t.mem = s.mem ∧
      writesElems s t c o.vd 32 (acts s c 32 o.men o.km) (fun e => min (2 ^ 32 - 1) (elemV (k.getV o.vd) 32 e +
        ((List.range (32 / w)).map fun i =>
          let a := elemV (k.getV o.vs1) w (32 / w * e + i)
          let b := elemV (k.getV o.vs2) w (32 / w * e + i)
          if o.s then (signedOf w a - signedOf w b).natAbs else max a b - min a b).sum)) ∧
      (t.core c).x = k.x ∧ (t.core c).f = k.f ∧ (t.core c).m = k.m) ∧
    (o.w = 0 → ∃ t, exec (.vsadf c o) s = .next t ∧ VecCompleted s t c ∧ t.mem = s.mem ∧
      (let len := if o.s then 256 else 32
       let diff := fun (e : Nat) => if e ∈ live 32 then
         some (let d := (engSub f32 z (flushOp f32 z (elemV (k.getV o.vs1) 32 e)).1 (flushOp f32 z (elemV (k.getV o.vs2) 32 e)).1).1
           if isNan f32 d then d else d % 2 ^ 31) else none
       writesElems s t c o.vd 32 (fun e => decide (e < 256 / len)) (fun j =>
         (engAdd f32 z (flushOp f32 z (elemV (k.getV o.vd) 32 j)).1
           ((pairwise (engAdd f32 z) (if o.s then 8 else 5) ((List.range len).map fun i => diff (len * j + i))).1.getD 0)).1)) ∧
      (t.core c).x = k.x ∧ (t.core c).f = k.f ∧ (t.core c).m = k.m)

/-- Conversions, block conversions and the generators. Outside any ring, an instruction of opcode 0x36 that can run whole on at least one element completes and leaves every other register and memory alone: each acting element is converted between the formats its name and W give (VCVTWFS with the draw of its lane); VCVTB writes block codes and, at byte 256 + b, scale bytes, and no other byte of VD; VCVTBF reads that layout; VRAND writes draws, each advancing its lane once (in free-running mode each beat advances every lane as often as the lane that draws most); VRSEED sets every lane to seed (0, x[VS1], l). (R119, R121, R123, R136, R62, R63, R69, R141, R142, R143, Table 5.3 of spec/05_long_vectors.md) -/
def Obligations.VectorConversions : Prop :=
  ∀ (c : CoreId) (o : OpV) (s : State), VecReady s c → o.w ≠ 3 → 0 < s.fld (VEC_VL c) fldVEC_VL_VL → runningRing s = 0 →
    o.vs2 = 0 → o.s = false →
    let k := s.core c
    let md := engMode s c .vec
    let n := min (s.fld (VEC_VL c) fldVEC_VL_VL) 256
    let act := acts s c 32 o.men o.km
    let fm := if o.w = 1 then bf16 else f16
    let ef := if o.w = 1 then ab8 else ab4
    let ew := if o.w = 1 then 8 else 4
    let rest := fun (t : State) => (t.core c).x = k.x ∧ (t.core c).f = k.f ∧ (t.core c).m = k.m ∧ t.mem = s.mem
    let does := fun (i : Instr) (from_ to_ : Nat) (f : Nat → Nat → FRes) => ∃ t, exec i s = .next t ∧ VecCompleted s t c ∧ rest t ∧
      (∀ e, e < 8192 / to_ → elemV ((t.core c).getV o.vd) to_ e = if act e then (f (drawOf s c 32 act e) (elemV (k.getV o.vs1) from_ e)).1 % 2 ^ to_
        else elemV (k.getV o.vd) to_ e) ∧
      (∀ r, r ≠ o.vd → (t.core c).getV r = k.getV r)
    (o.w ≠ 0 → o.vd ≠ o.vs1 →
      does (.vcvtfw c o) 16 32 (fun _ a => engConvert fm f32 md a) ∧
      does (.vcvtwf c o) 32 16 (fun _ a => engConvert f32 fm md a) ∧
      does (.vcvtwfs c o) 32 16 (fun d a => engConvertSR fm md d a)) ∧
    (o.w = 0 → does (.vcvtif c o) 32 32 (fun _ a => engFromInt (signedOf 32 a)) ∧
      does (.vcvtfi c o) 32 32 (fun _ a => engToInt32 md.ftz a)) ∧
    (o.w ≠ 0 → o.vd ≠ o.vs1 → o.men = false → o.km = 0 → n % 32 = 0 → ∃ t, exec (.vcvtb c o) s = .next t ∧ VecCompleted s t c ∧ rest t ∧
      (∀ b, b < n / 32 →
        (let blk := toBlock ef md ((List.range 32).map fun i => elemV (k.getV o.vs1) 32 (32 * b + i))
         elemV ((t.core c).getV o.vd) 8 (256 + b) = blk.scale % 256 ∧
         ∀ i, i < 32 → elemV ((t.core c).getV o.vd) ew (32 * b + i) = blk.codes.getD i 0 % 2 ^ ew)) ∧
      (∀ j, n * ew / 8 ≤ j → j < 1024 → (j < 256 ∨ 256 + n / 32 ≤ j) → elemV ((t.core c).getV o.vd) 8 j = elemV (k.getV o.vd) 8 j) ∧
      (∀ r, r ≠ o.vd → (t.core c).getV r = k.getV r)) ∧
    (o.w ≠ 0 → o.vd ≠ o.vs1 → o.men = false → o.km = 0 → ∃ t, exec (.vcvtbf c o) s = .next t ∧ VecCompleted s t c ∧ rest t ∧
      writesElems s t c o.vd 32 (fun e => decide (e < n))
        (fun e => (elementToF32 ef md (elemV (k.getV o.vs1) 8 (256 + e / 32)) (elemV (k.getV o.vs1) ew e)).1)) ∧
    (o.w ≠ 0 → o.vs1 = 0 → ∃ t, exec (.vrand c o) s = .next t ∧ VecCompleted s t c ∧ rest t ∧
      (let on := acts s c 16 o.men o.km
       writesElems s t c o.vd 16 on (drawOf s c 16 on) ∧
       ∀ l, l < 32 → t.reg (VEC_RNG_STATE c l) = laneAt s c 16 on l 512)) ∧
    (o.w = 0 → o.men = false → o.km = 0 → o.vd = 0 → ∃ t, exec (.vrseed c o) s = .next t ∧ VecCompleted s t c ∧ rest t ∧ (t.core c).v = k.v ∧
      ∀ l, l < 32 → t.reg (VEC_RNG_STATE c l) = rngSeed 0 (k.getX o.vs1) l)

/-- Vector loads from arrays and banks. A vector load with W and H not reserved, that can run whole on at least one element, on a core whose buffered stores are all of its sub-ring, whose acting elements lie in core arrays or banks and meet no error, writes each acting element of VD from the bytes the core sees at x[RS1] + x[RS2] + e × m, little-endian (VLDW: widened from the 16-bit format W names), completes, and leaves memory, VL and every other register alone. (R119, R121, R127, R128, R130, Table 5.3 of spec/05_long_vectors.md, Table 5.2 of spec/05_long_vectors.md) -/
def Obligations.VectorLoads : Prop :=
  ∀ (c : CoreId) (o : OpM) (s : State), VecReady s c → errorFree s → o.w ≠ 3 → o.h ≠ 3 → 0 < s.fld (VEC_VL c) fldVEC_VL_VL → runningRing s = 0 →
    (∀ e ∈ (s.core c).mbuf, e.sub = coreSub s c) →
    let k := s.core c
    let base := (k.getX o.rs1 + k.getX o.rs2).toNat
    let loads := fun (i : Instr) (m g : Nat) (f : Nat → Nat) =>
      let act := acts s c g o.men o.km
      let at_ := fun (e : Nat) => (base + e * m) % 2 ^ 64
      (∀ e, act e = true → (∃ j off, inArray s j off (at_ e) m) ∨ ∃ j, inBank s j (at_ e) m) →
      ∃ t, exec i s = .next t ∧ VecCompleted s t c ∧ t.mem = s.mem ∧ t.reg (VEC_VL c) = s.reg (VEC_VL c) ∧
        writesElems s t c o.vd g act (fun e => f (natOfBytes (sees s c (at_ e) m))) ∧
        (t.core c).x = k.x ∧ (t.core c).f = k.f ∧ (t.core c).m = k.m ∧ (t.core c).mbuf = k.mbuf
    let m := 2 ^ o.w.toNat
    loads (.vld c o) m (8 * m) id ∧ loads (.vldff c o) m (8 * m) id ∧
    (o.w ≠ 0 → loads (.vldw c o) 2 32 (fun v => (engConvert (if o.w = 1 then bf16 else f16) f32 (engMode s c .vec) v).1))

/-- Vector stores to the own array. A vector store with W and H not reserved, that can run whole on at least one element, whose acting elements lie in the core's own array, writes the bytes of each acting element of the data register (VSTN and VSTNS: rounded to the 16-bit format W names, VSTNS with the draw of the element's lane) at x[RS1] + x[RS2] + e × m; every other byte of memory reads as before, and no register of the core but the generators' lanes changes. (R119, R121, R127, R128, R141, Table 5.3 of spec/05_long_vectors.md, Table 5.2 of spec/05_long_vectors.md) -/
def Obligations.VectorStores : Prop :=
  ∀ (c : CoreId) (o : OpM) (s : State), VecReady s c → o.w ≠ 3 → o.h ≠ 3 → 0 < s.fld (VEC_VL c) fldVEC_VL_VL → runningRing s = 0 →
    (∀ d : CoreId, d ≠ c → physOf s d ≠ physOf s c) →
    let k := s.core c
    let base := (k.getX o.rs1 + k.getX o.rs2).toNat
    let stores := fun (i : Instr) (m g : Nat) (f : (Nat → Bool) → Nat → Nat → Nat) =>
      let act := acts s c g o.men o.km
      let at_ := fun (e : Nat) => (base + e * m) % 2 ^ 64
      (∀ e, act e = true → ∃ off, inArray s c.val off (at_ e) m) →
      ∃ t, exec i s = .next t ∧ VecCompleted s t c ∧ (t.core c).x = k.x ∧ (t.core c).f = k.f ∧ (t.core c).v = k.v ∧ (t.core c).m = k.m ∧
        (∀ e j, ∀ sub, act e = true → j < m →
          memByte t sub (at_ e + j) = BitVec.ofNat 8 (f act e (elemV (k.getV o.vd) g e) / 256 ^ j)) ∧
        (∀ sub d, (∀ e, act e = true → d < at_ e ∨ at_ e + m ≤ d) → memByte t sub d = memByte s sub d)
    let m := 2 ^ o.w.toNat
    let fm := if o.w = 1 then bf16 else f16
    stores (.vst c o) m (8 * m) (fun _ _ v => v) ∧
    (o.w ≠ 0 → stores (.vstn c o) 2 32 (fun _ _ v => (engConvert f32 fm (engMode s c .vec) v).1) ∧
      stores (.vstns c o) 2 32 (fun act e v => (engConvertSR fm (engMode s c .vec) (drawOf s c 32 act e) v).1))

/-- The fault of a vector element. Where no vector instruction is unretired and the lowest acting element e of a vector load or store lies at an address that no region holds, the instruction takes VEC_FAULT, vector 10, at itself with that address as fault address, e is the VPROG.DONE its frame saves, no vector register changes, and no byte of memory outside the frame. (R43, R127, R129, R130, R131, Table 2.4 of spec/02_core_and_exceptions.md) -/
def Obligations.VectorElementFault : Prop :=
  ∀ (c : CoreId) (o : OpM) (e rsp off : Nat) (s : State), VecReady s c → (s.core c).vecQ = [] → o.w ≠ 3 → o.h ≠ 3 →
    s.fld (VEC_VPROG c) fldVEC_VPROG_DONE = 0 → runningRing s = 0 →
    rsp = (s.reg (CORE_RSP c)).toNat → rsp % 64 = 0 → 256 ≤ rsp → inArray s c.val off (rsp - 256) 256 →
    s.test (CORE_STATUS c) fldCORE_STATUS_RSV = false → (∀ d : CoreId, d ≠ c → physOf s d ≠ physOf s c) →
    let k := s.core c
    let faults := fun (i : Instr) (m g : Nat) =>
      let a := ((k.getX o.rs1 + k.getX o.rs2).toNat + e * m) % 2 ^ 64
      acts s c g o.men o.km e = true → (∀ i, i < e → acts s c g o.men o.km i = false) → regionOf s a = none →
      ∃ t, exec i s = .next t ∧ (t.core c).v = k.v ∧ (t.core c).x = k.x ∧
      t.fld (CORE_CAUSE c) fldCORE_CAUSE_VECTOR = 10 ∧ t.reg (CORE_FADDR c) = BitVec.ofNat 64 a ∧
      (t.core c).pc = BitVec.ofNat 64 (0xE1000000000 + c.val * 0x1000000 + 320) ∧
      (∀ sub, natOfBytes (memBytes t sub (rsp - 256 + 8) 8) = k.pc.toNat ∧
        fldVEC_VPROG_DONE.get (BitVec.ofNat 64 (natOfBytes (memBytes t sub (rsp - 256 + 40) 8))) = e) ∧
      ∀ sub d, (d < rsp - 256 ∨ rsp ≤ d) → memByte t sub d = memByte s sub d
    let m := 2 ^ o.w.toNat
    faults (.vld c o) m (8 * m) ∧ faults (.vldff c o) m (8 * m) ∧ faults (.vst c o) m (8 * m) ∧
    (o.w ≠ 0 → faults (.vldw c o) 2 32 ∧ faults (.vstn c o) 2 32 ∧ faults (.vstns c o) 2 32)

/-- The fused update instructions. Outside any ring, a fused update instruction with a legal encoding that can run whole completes: VMOM writes m', v' and with D the direction d, of R147's formulas, in the acting elements of VD, VD + 1 and VD + 2; VSIGN writes the sign as ±1 (zeros kept) and VSRND the stochastic rounding, with the draw of the element's lane, in the acting elements of VD; VBIAS writes the two coefficients of R148 to f[FD] and f[FD + 1], bits [63:32] ones. Memory, tiles and every other register stay as they were. (R146, R147, R148, R149, R150, R141, Table 5.6 of spec/05_long_vectors.md) -/
def Obligations.FusedUpdates : Prop :=
  ∀ (c : CoreId) (o : OpU) (s : State), VecReady s c → 0 < s.fld (VEC_VL c) fldVEC_VL_VL → runningRing s = 0 →
    let k := s.core c
    let md := engMode s c .upd
    let act := acts s c 32 o.men o.km
    let cf := fun (i : Nat) => (k.getF (BitVec.ofNat 5 i)).toNat % 2 ^ 32
    let rest := fun (t : State) => VecCompleted s t c ∧ (t.core c).x = k.x ∧ (t.core c).m = k.m ∧ t.mem = s.mem
    let vd := o.a.toNat
    let top := vd + (if o.p5 then 2 else 1)
    (o.lo = 0 → top ≤ 31 → o.d.toNat + (if o.p5 then 5 else 2) ≤ 31 → (o.b.toNat < vd ∨ top < o.b.toNat) → ∃ t, exec (.vmom c o) s = .next t ∧ rest t ∧
      (t.core c).f = k.f ∧
      (let r := fun e => momElem md o.p6 o.p5 (fun i => cf (o.d.toNat + i)) (elemV (k.getV o.a) 32 e) (elemV (k.getV (o.a + 1)) 32 e) (elemV (k.getV o.b) 32 e)
       (∀ e, e < 256 → act e = true → elemV ((t.core c).getV o.a) 32 e = (r e).1 % 2 ^ 32 ∧ elemV ((t.core c).getV (o.a + 1)) 32 e = (r e).2.1 % 2 ^ 32 ∧
         (o.p5 = true → elemV ((t.core c).getV (o.a + 2)) 32 e = (r e).2.2.1 % 2 ^ 32)) ∧
       (∀ q e, e < 256 → act e = false → elemV ((t.core c).getV q) 32 e = elemV (k.getV q) 32 e) ∧
       (∀ q : BitVec 5, (q.toNat < vd ∨ top < q.toNat) → (t.core c).getV q = k.getV q))) ∧
    (o.d = 0 → o.p6 = false → o.p5 = false → o.lo = 0 → ∃ t, exec (.vsign c o) s = .next t ∧ rest t ∧ (t.core c).f = k.f ∧
      writesElems s t c o.a 32 act (fun e =>
        let g := (flushOp f32 md.ftz (elemV (k.getV o.b) 32 e)).1
        if isNan f32 g then 0x7FC00000 else if g % 2 ^ 31 = 0 then g else if 2 ^ 31 ≤ g then 0xBF800000 else 0x3F800000)) ∧
    ((if o.p6 then o.lo ≠ 31 else o.d = 0 ∧ o.lo = 0) → ∃ t, exec (.vsrnd c o) s = .next t ∧ rest t ∧ (t.core c).f = k.f ∧
      writesElems s t c o.a 32 act (fun e => (srndElem md (if o.p5 then f16 else bf16) o.p6 (drawOf s c 32 act e) (elemV (k.getV o.b) 32 e)
        (elemV (k.getV o.d) 32 e) (cf o.lo.toNat) (cf (o.lo.toNat + 1))).1) ∧
      ∀ l, l < 32 → t.reg (VEC_RNG_STATE c l) = laneAt s c 32 act l 256) ∧
    (o.men = false → o.km = 0 → o.p6 = false → o.p5 = false → o.lo = 0 → o.a ≠ 31 → o.d ≠ 31 → ∃ t k1 k2, exec (.vbias c o) s = .next t ∧ rest t ∧
      (t.core c).v = k.v ∧
      (t.core c).f = ((k.setF o.a (0xFFFFFFFF00000000 ||| BitVec.ofNat 64 (k1 % 2 ^ 32))).setF (o.a + 1) (0xFFFFFFFF00000000 ||| BitVec.ofNat 64 (k2 % 2 ^ 32))).f ∧
      (let q1 := (oneMinusPow md.ftz (cf o.d.toNat) (k.getX o.b)).1
       let q2 := (oneMinusPow md.ftz (cf (o.d.toNat + 1)) (k.getX o.b)).1
       ((positive64 q1 && positive64 q2) = false → k1 = 0x7FC00000 ∧ k2 = 0x7FC00000) ∧
         ((positive64 q1 && positive64 q2) = true → k1 = (engDivV f32 md.ftz (.fin false 1 0) (unpack f64 q1)).1 ∧
           ∀ m e, unpack f64 q2 = .fin false m e → k2 = (engRound f32 md.ftz false (exactRsqrt m e)).1)))

/-- Results and frame of the local atomics. Where no two cores map to one physical core and no read meets an error, an atomic of an aligned 4- or 8-byte operand in a core array or a bank, issued with nothing of the core buffered or waiting, leaves there the value of Table 7.4 made from the old value, rs2's low bits and, for AMOCAS, rd's, writes the old value sign-extended to rd and goes on to the next instruction. No other byte of memory, no register of the device's blocks and no other register of any core changes, but for one beat counted of a home bank's group outside single-bank mode (with what that counter's saturation raises). (R22, R187, R262, R449, Table 7.3 of spec/07_consistency.md, Table 7.4 of spec/07_consistency.md) -/
def Obligations.AtomicResults : Prop :=
  ∀ (c : CoreId) (o : OpAmo) (s : State), Ready s c .retired → errorFree s → (s.core c).mbuf = [] → storesWait s c = false →
    (∀ d e : CoreId, physOf s d = physOf s e → d = e) →
    let a := ((s.core c).getX o.rs1).toNat
    let n := if o.d then 8 else 4
    let old := natOfBytes (memBytes s (coreSub s c) a n)
    let x := ((s.core c).getX o.rs2).toNat % 2 ^ (8 * n)
    let d := ((s.core c).getX o.rd).toNat % 2 ^ (8 * n)
    ∀ u : State, a % n = 0 → ((∃ k off, inArray s k off a n) ∧ u = s ∨ ∃ b, inBank s b a n ∧
      u = if s.test BANK_MODE fldBANK_MODE_NOW = false ∧ isHome s c b = true then count s (BANK_HOME_BEATS (b / 4)) 1 else s) →
    let gives := fun (i : Instr) (v : Nat) => ∃ t, exec i s = .next t ∧
      (∀ j, ∀ sub, j < n → memByte t sub (a + j) = BitVec.ofNat 8 (v >>> (8 * j))) ∧
      (∀ sub b, (b < a ∨ a + n ≤ b) → memByte t sub b = memByte s sub b) ∧
      t.regs = u.regs ∧ (t.core c).pc = (s.core c).pc + 4 ∧ (t.core c).x = ((s.core c).setX o.rd (sextN (8 * n) old)).x ∧
      (∀ e, e ≠ c → (t.core e).x = (s.core e).x ∧ (t.core e).pc = (u.core e).pc) ∧
      ∀ e, (t.core e).f = (s.core e).f ∧ (t.core e).v = (s.core e).v ∧ (t.core e).m = (s.core e).m ∧ (t.core e).tiles = (s.core e).tiles
    gives (.amoadd c o) ((old + x) % 2 ^ (8 * n)) ∧
    gives (.amoswap c o) (x) ∧
    gives (.amoand c o) (old &&& x) ∧
    gives (.amoor c o) (old ||| x) ∧
    gives (.amoxor c o) (old ^^^ x) ∧
    gives (.amomax c o) (if signedOf (8 * n) old < signedOf (8 * n) x then x else old) ∧
    gives (.amomin c o) (if signedOf (8 * n) x < signedOf (8 * n) old then x else old) ∧
    gives (.amomaxu c o) (max old x) ∧
    gives (.amominu c o) (min old x) ∧
    gives (.amocas c o) (if old = d then x else old)

/-- FENCE, FENCE.G and what leaves the merging buffer. FENCE with writes before it empties the core's merging buffer, and completes where no write of the core waits in a stack or a bank; FENCE without writes before it only goes on. FENCE.G goes on where no remote operation of the core is outstanding and none of its writes waits, and else changes nothing. On a device whose clocks run, an entry of the merging buffer that holds no byte stored after an unretired vector instruction leaves the buffer of its own accord and puts its bytes into memory (shown for one in a bank, which loses no other byte and no register but its group's count of home beats changes where that does not saturate), and no instruction of the core is affected; another entry stays. (R43, R133, R184, R185, R186, R214, R262, Table 7.3 of spec/07_consistency.md) -/
def Obligations.FencesAndTheMergingBuffer : Prop :=
  ∀ (c : CoreId) (o : OpFence) (g : OpR) (n : Nat) (s : State),
    (Ready s c .retired → o.rd = 0 → o.rs1 = 0 → o.rs2 = 0 → o.pp ≠ 0 → o.ss ≠ 0 →
      (o.pp.getLsbD 0 = false → exec (.fence c o) s = .next (advance s c id)) ∧
      (o.pp.getLsbD 0 = true → ∃ t, exec (.fence c o) s = .next t ∧ (t.core c).mbuf = [] ∧ (t.core c).x = (s.core c).x ∧
        (t.core c).pc = if storesWait t c then (s.core c).pc else (s.core c).pc + 4)) ∧
    (Ready s c .retired → g.rd = 0 → g.rs1 = 0 → g.rs2 = 0 →
      exec (.fenceG c g) s = .next (if remoteOut s c = 0 ∧ storesWait s c = false then advance s c id else s)) ∧
    (∀ e, s.still = false → (s.core c).mbuf[n]? = some e → entryFirm (s.core c) e = true → mapRising e.bytes = true →
      ∃ t, exec (.mergePerform c n) s = .next t ∧ (t.core c).mbuf = (s.core c).mbuf.eraseIdx n ∧ (t.core c).x = (s.core c).x ∧
        ∀ b, (∀ a v, (a, v) ∈ e.bytes → inBank s b a 1) →
          (∀ sub a, memByte t sub a = (mapFind e.bytes a).getD (memByte s sub a)) ∧
          (counts s (BANK_HOME_BEATS (b / 4)) e.bytes.length → sameRegs s t [BANK_HOME_BEATS (b / 4)] ∧
            (s.test BANK_MODE fldBANK_MODE_NOW = true ∨ isHome s c b = false → t.regs = s.regs))) ∧
    ((s.still = true ∨ (s.core c).mbuf.length ≤ n ∨ ∃ e, (s.core c).mbuf[n]? = some e ∧ entryFirm (s.core c) e = false) →
      exec (.mergePerform c n) s = .next s)

/-- Fills, prefetches, deadfall and the thrash window. On a device whose clocks run, with Windthrow idle: a fill that completes, and that no core in A20 issue mode holds back for an earlier request, leaves the slice's fills, and its line is present for every requester, unless a flip came between, a prefetch alone asked for a deadfall line, or the kind is ACCUM; PLAIN memory reads as before, and where its set has a free way so does all of memory, and no register changes. A prefetch of a line absent from its core's L1 counts a skip, and only that, at either bound of R255; below both, where a miss register and a fill entry are free, it counts an issue, advances its stream to the line and asks for it; where none is free it waits. Deadfall by a core with nothing unretired, buffered or waiting discards the dirty data of every PLAIN line named that its slice holds: such a byte then reads as the stack holds it, every other byte as before. A new thrash window clears the slice's counts and events and nothing else. (R238, R246, R247, R251, R252, R253, R254, R255, R258, R303) -/
def Obligations.CacheEvents : Prop :=
  ∀ (s : State) (c : CoreId) (n : Fin 8) (line idx : Nat) (v : Word), s.still = false →
    (∀ f, wtOn s = false → (s.mem.slices.get n).fills.find? (fun f => f.line == line) = some f → homeSlice s line = n →
      (f.reqs.any fun r => heldBack (s.core (coreOf r.1)) (false, line)) = false →
      let same := (s.mem.slices.get n).lines.filter fun x => l2Set s x.line == l2Set s line && x.line != line
      ∃ t, exec (.l2FillComplete n.val line) s = .next t ∧ (∀ g ∈ (t.mem.slices.get n).fills, g.line ≠ line) ∧
        (∀ d, (t.core d).x = (s.core d).x ∧ (t.core d).mbuf = (s.core d).mbuf) ∧
        (same.length < l2Ways s n → t.regs = s.regs ∧ (∀ d, (t.core d).pc = (s.core d).pc) ∧ ∀ sub a, memByte t sub a = memByte s sub a) ∧
        (Memory.wf s.mem = true → ∀ sub a, kindAt s a = 0 → memByte t sub a = memByte s sub a) ∧
        (kindAt s (line * 128) ≠ 2 → (kindAt s (line * 128) = 1 → f.flipped = false) →
          ((∀ e, l2Find s line = some e → e.marker = false) ∨ ∃ r ∈ f.reqs, r.2.2 < 4) → l2Ways s n ≠ 0 →
          same.length ≤ l2Ways s n → (∀ x ∈ same, x.cls < 3) →
          ∃ e, l2Find t line = some e ∧ e.marker = false ∧ ∀ r ∈ f.reqs, bitOf e.sharers r.1 = true)) ∧
    (∀ f, (s.mem.slices.get n).fills.find? (fun f => f.line == line) = some f →
      (f.reqs.any fun r => heldBack (s.core (coreOf r.1)) (false, line)) = true → exec (.l2FillComplete n.val line) s = .next s) ∧
    (∀ e p, (s.core c).pf[idx]? = some e → pfNext s c e = some p → l1Hit s c p 15 = false →
      let bounded := missMax s c ≤ 8 * prefetchesOf s c ∨ stackCap s c ≤ fillsAt s c (stackOf s (p / 512))
      (bounded → exec (.prefetch c idx) s = .next (count s (CORE_PF_SKIP c) 1)) ∧
      (¬ bounded → linesAccepted s c (missedOf s c [(p, 15)]) = false → exec (.prefetch c idx) s = .next s) ∧
      (¬ bounded → linesAccepted s c (missedOf s c [(p, 15)]) = true →
        ∃ t, exec (.prefetch c idx) s = .next t ∧ t.reg (CORE_PF_SKIP c) = s.reg (CORE_PF_SKIP c) ∧
          t.reg (CORE_PF_ISSUE c) = countWord (s.reg (CORE_PF_ISSUE c)) 1 ∧
          (t.core c).pf = (s.core c).pf.modify idx (fun e => { e with ahead := p }) ∧
          ((∀ e, l2Find s p = some e → e.marker = true) →
            ∃ f ∈ (t.mem.slices.get (homeSlice s p)).fills, f.line = p ∧ (c.val, 15, e.hint + 4) ∈ f.reqs))) ∧
    ((s.core c).mbuf = [] → (s.core c).vecQ = [] → storesWait s c = false →
      let first := fldCORE_DEADFALL_LINE.get v
      let dead := fun l => first ≤ l ∧ l ≤ first + fldCORE_DEADFALL_LM1.get v ∧ l * 128 < stackTop ∧
        regionOf s (l * 128) = some .stack ∧ kindAt s (l * 128) = 0 ∧ (l2Find s l).isSome = true
      ∃ t, exec (.deadfall c v) s = .next t ∧ t.regs = s.regs ∧ t.mem.stk = s.mem.stk ∧
        (∀ l, dead l → ∃ e, l2Find t l = some e ∧ e.marker = true) ∧
        ∀ sub a, (dead (lineOf a) ∧ inPool s (granule a) = false → memByte t sub a = mapGet zeroByte s.mem.stk a) ∧
          (¬ dead (lineOf a) → memByte t sub a = memByte s sub a)) ∧
    ∃ t, exec (.thrashWindow n) s = .next t ∧ t.regs = s.regs ∧ t.cores = s.cores ∧
      (t.mem.slices.get n).counts = [] ∧ (t.mem.slices.get n).fired = [] ∧ (t.mem.slices.get n).lines = (s.mem.slices.get n).lines ∧
      (∀ m, m ≠ n → t.mem.slices.get m = s.mem.slices.get m) ∧ ∀ sub a, memByte t sub a = memByte s sub a

/-- Opening, sealing, sub-rings, discard and prepare at one device. On a device whose clocks run, OPEN takes RING_NEXT where the slots are free or the newer ring is past its running states and the older FREE (then it becomes the older), and else waits for its row, or is refused at the last number, and while one waits another has no effect; SEAL moves a running ring to PREPARING, where a mirrored ring whose writes are performed begins its drain, or to SEAL_WAIT; DISCARD dooms what is undecided with cause 14. Sub-rings open once, close on request, and a close, once no access of the sub-ring is under way, keeps or drops its versions. Prepare ends in VOTED with a READY vote, or the refusal RING_REFUSE asks for; the mirror drain's end sends MIRRORED; votes wait where the endpoint takes none; RING_NEXT and RING_GSTEP take writes only while every ring is FREE. A core's waiting write, first of those to its bytes, is dropped with a doomed ring, else enters its bank or its ring's sapwood, and an atomic then ends with its old value. (R202, R203, R204, R207, R208, R209, R214, R217, R219, R221, R275, Tables 8.1, 8.2 and 8.8 of spec/08_rings.md) -/
def Obligations.RingControl : Prop :=
  ∀ (s : State) (k : Fin 64) (v : Word) (idx : Nat), s.still = false →
    let n := s.reg RING_NEXT
    let pend := s.test RING_STATUS fldRING_STATUS_OPEN_PEND
    let same := fun (i : Instr) => exec i s = .next s
    let opens := fun (i : Instr) => ∃ t, exec i s = .next t ∧ t.reg RING_NEXT = n + 1 ∧ t.reg RING_NEWER = n ∧ newerState t = 1 ∧
      slotDoomed t .newer = false ∧ t.test RING_STATUS fldRING_STATUS_OPEN_PEND = false ∧ t.reg RING_SUBOPEN = 0 ∧ t.reg RING_SUBDOOM = 0 ∧
      (t.reg RING_EVENT).getLsbD 0 = true ∧ t.mem.stk = s.mem.stk ∧ (∀ c, (t.core c).pendSeed = some n ∧ (t.core c).x = (s.core c).x) ∧
      (newerState s = 0 → olderState t = olderState s ∧ t.reg RING_OLDER = s.reg RING_OLDER) ∧
      (newerState s ≠ 0 → olderState t = newerState s ∧ t.reg RING_OLDER = s.reg RING_NEWER ∧ t.mem.sapOld = s.mem.sapNew ∧ t.mem.sapNew = Sap.empty)
    let refuses := fun (i : Instr) => ∃ t, exec i s = .next t ∧ t.test RING_STATUS fldRING_STATUS_NUMEX = true ∧ t.reg RING_NEWER = s.reg RING_NEWER ∧
      newerState t = newerState s ∧ (t.reg RING_EVENT).getLsbD 7 = true
    let voted := fun (t : State) (dst : Nat) (m : RingPayload) =>
      let to_ := fun (q : Packet) => q.op = 8 ∧ q.cls = 3 ∧ q.dst = (if isSelf s dst then ownDevice s else dst) ∧ q.data = ringBytes m
      if endpointTakes s dst = true then ∃ r ∈ t.ride.reqs, r.id = s.ride.nextId ∧ r.issuer = .vote ∧ to_ r.pkt
      else ∃ q g, t.ride.waiting = s.ride.waiting ++ [(q, .vote, g)] ∧ to_ q
    (n ≠ BitVec.allOnes 64 → openable s = true → (pend = false → opens .ringOpen) ∧ (pend = true → opens .openAccept)) ∧
    (pend = true → same .ringOpen) ∧
    (n ≠ BitVec.allOnes 64 → openable s = false → pend = false → exec .ringOpen s = .next (s.setBit RING_STATUS fldRING_STATUS_OPEN_PEND true)) ∧
    (n = BitVec.allOnes 64 → (pend = false → refuses .ringOpen) ∧ (pend = true → openable s = true → refuses .openAccept)) ∧
    ((pend = false ∨ openable s = false) → same .openAccept) ∧
    (newerState s ≠ 1 → same .seal) ∧
    (newerState s = 1 → s.reg RING_SUBOPEN ≠ 0 → exec .seal s = .next (s.setFld RING_STATUS fldRING_STATUS_NEW_STATE 2)) ∧
    (newerState s = 1 → s.reg RING_SUBOPEN = 0 → ∃ t, exec .seal s = .next t ∧ newerState t = 3 ∧ t.mem = s.mem ∧
      (mirrored s = false → t = s.setFld RING_STATUS fldRING_STATUS_NEW_STATE 3) ∧
      (mirrored s = true → writesWait s (newerRing s) = false → t.ring.newer.draining = true)) ∧
    (∃ t, exec .ringCtrlDiscard s = .next t ∧ t.mem = s.mem ∧ newerState t = newerState s ∧ olderState t = olderState s ∧
      ∀ sl, (undecidedState (slotState s sl) = true → slotDoomed t sl = true ∧
          (slotOf t sl).cause = some (((slotOf s sl).cause).getD (14, ownDevice s, true))) ∧
        (undecidedState (slotState s sl) = false → slotDoomed t sl = slotDoomed s sl ∧ slotOf t sl = slotOf s sl)) ∧
    (k.val ≠ 0 → newerState s = 1 → bitOf s.ring.used k = false → exec (.subOpen k) s =
      .next ({ s with ring := { s.ring with used := s.ring.used ||| 2 ^ k.val } }.setReg RING_SUBOPEN (s.reg RING_SUBOPEN ||| BitVec.ofNat 64 (2 ^ k.val)))) ∧
    (k.val = 0 ∨ newerState s ≠ 1 ∨ bitOf s.ring.used k = true → exec (.subOpen k) s = .next (s.setBit RING_SUBCTRL fldRING_SUBCTRL_ERR true)) ∧
    (subIsOpen s k = false → exec (.subCloseKeep k) s = .next (s.setBit RING_SUBCTRL fldRING_SUBCTRL_ERR true) ∧
      exec (.subCloseDiscard k) s = .next (s.setBit RING_SUBCTRL fldRING_SUBCTRL_ERR true)) ∧
    (subIsOpen s k = true → (∀ c ∈ s.ring.closing, c.1 ≠ k.val) →
      exec (.subCloseKeep k) s = .next { s with ring := { s.ring with closing := s.ring.closing ++ [(k.val, true)] } } ∧
      exec (.subCloseDiscard k) s = .next { s with ring := { s.ring with closing := s.ring.closing ++ [(k.val, false)] } }) ∧
    (s.ring.closing.find? (fun c => c.1 == k.val) = none ∨ subBusy s k = true → same (.subCloseEffect k)) ∧
    (∀ keep, s.ring.closing.find? (fun c => c.1 == k.val) = some (k.val, keep) → subBusy s k = false →
      ∃ t, exec (.subCloseEffect k) s = .next t ∧ (k.val ≠ 0 → subIsOpen t k = false) ∧ (∀ x ∈ t.mem.accVers, x.sub ≠ k.val) ∧ (t.reg RING_EVENT).getLsbD 6 = true ∧
        (keep = false ∨ wbit (s.reg RING_SUBDOOM) k = true → t.mem.stk = s.mem.stk ∧ wbit (t.reg RING_SUBDOOM) k = true) ∧
        (keep = true → wbit (s.reg RING_SUBDOOM) k = false → Canonical s → ∀ x, s.mem.accVers.filter (fun y => y.sub == k.val) = [x] →
          ∀ a, mapGet zeroByte t.mem.stk a = (mapFind x.bytes a).getD (if granule a = x.gran then 0 else mapGet zeroByte s.mem.stk a))) ∧
    (preparingSlot s = none → same .prepareComplete ∧ same .mirrorDrainComplete) ∧
    (∀ sl, preparingSlot s = some sl →
      let r := slotRing s sl
      let due := writesWait s r = false ∧ (mirrored s = true → (slotOf s sl).drained = true) ∧
        s.fld RING_MODE fldRING_MODE_MIRROR_IN ≤ s.ring.mirrored.countP (fun e => e.1 == r) ∧
        (sl = .newer → olderState s = 0 ∨ olderState s = 5)
      let ends := mirrored s = true ∧ (slotOf s sl).draining = true ∧ (slotOf s sl).mirrorLeft = 0 ∧ (slotOf s sl).drained = false ∧ slotDoomed s sl = false
      (due → ∃ t, exec .prepareComplete s = .next t ∧ slotState t sl = 4 ∧ (slotOf t sl).prepared = true ∧ t.mem = s.mem ∧
        (t.reg RING_EVENT).getLsbD 1 = true ∧ (slotDoomed s sl = false → voted t (leaderDev s)
          (if s.test RING_REFUSE fldRING_REFUSE_VALID then { mkPayload s r 3 0 with
            shard := s.fld RING_REFUSE fldRING_REFUSE_SHARD, step := (s.reg RING_REFUSE_STEP).toNat } else mkPayload s r 1 0))) ∧
      (¬ due → same .prepareComplete) ∧
      (ends → ∃ t, exec .mirrorDrainComplete s = .next t ∧ (slotOf t sl).drained = true ∧ t.mem = s.mem ∧
        voted t (s.fld RING_MIRROR fldRING_MIRROR_DEVICE) (mkPayload s r 6 0)) ∧
      (¬ ends → same .mirrorDrainComplete)) ∧
    exec (.ringNextWrite v) s = .next (if allFree s = true ∧ s.ring.highest < v.toNat then s.setReg RING_NEXT v else s) ∧
    exec (.ringGstepWrite v) s = .next (if allFree s = true then s.setReg RING_GSTEP v else s) ∧
    (allFree s = true → same .aliveTimer) ∧
    (allFree s = false → ∃ t, exec .aliveTimer s = .next t ∧ t.ring = s.ring ∧ t.mem = s.mem ∧ voted t (leaderDev s) (mkPayload s 0 0 0)) ∧
    (s.mem.poolWait.length ≤ idx → same (.poolWaitResume idx)) ∧
    (∀ w, s.mem.poolWait[idx]? = some w → (∃ e ∈ s.mem.poolWait.take idx, e.overlaps w.addr w.bytes.length = true) → same (.poolWaitResume idx)) ∧
    (∀ w, s.mem.poolWait[idx]? = some w → ((∃ c, w.src = .core c) ∨ ∃ c rd old, w.src = .atom c rd old) → w.bytes ≠ [] →
      (∀ e ∈ s.mem.poolWait.take idx, e.overlaps w.addr w.bytes.length = false) →
      let len := w.bytes.length
      let ended := fun (t : State) => exec (.poolWaitResume idx) s = .next t ∧ t.mem.poolWait = s.mem.poolWait.eraseIdx idx ∧
        (∀ c, w.src = .core c → ∀ d, (t.core d).x = (s.core d).x) ∧
        ∀ (c : CoreId) rd old, w.src = .atom c.val rd old → (s.core c).wait = .atom → (t.core c).x = ((s.core c).setX (BitVec.ofNat 5 rd) old).x ∧
          (t.core c).wait = .running ∧ (t.core c).pc = (s.core c).pc + 4
      (waitDoomed s w = true → ∃ t, ended t ∧ t.mem = { s.mem with poolWait := s.mem.poolWait.eraseIdx idx }) ∧
      (∀ b, w.ring = 0 → (∀ j < len, regionOf s (w.addr + j) = some (.bank b)) →
        (marchWait s (.bank b) = true → same (.poolWaitResume idx)) ∧
        (marchWait s (.bank b) = false → ∃ t, ended t ∧
          (∀ sub j, j < len → some (memByte t sub (w.addr + j)) = w.bytes[j]?) ∧
          ∀ sub a, (a < w.addr ∨ w.addr + len ≤ a) → memByte t sub a = memByte s sub a)) ∧
      (∀ sl, w.addr % 128 + len ≤ 128 → regionOf s w.addr = some .stack → inPool s (granule w.addr) = false → kindAt s w.addr = 1 →
        slotOfRing s w.ring = some sl → slotDoomed s sl = false →
        (sapOf s sl).gran.contains (granule w.addr) = true ∨ poolFreeIn s (stackOf s (granule w.addr)) ≠ 0 →
        ∃ t, ended t ∧ t.mem.stk = s.mem.stk ∧ granule w.addr ∈ (sapOf t sl).gran ∧
          (∀ j, j < len → mapFind (sapOf t sl).bytes (w.addr + j) = w.bytes[j]?) ∧
          ∀ a, (a < w.addr ∨ w.addr + len ≤ a) → mapFind (sapOf t sl).bytes a = mapFind (sapOf s sl).bytes a))

/-- Votes, outcomes and resolves between the devices of a group. A sound vote or outcome of this group, next in its stream, is answered OK and acts once: the last READY of every member decides COMMIT, a DOOM vote or a refusal DISCARD with its cause, FLIPPED is noted whatever the leader's state, the last one of an announced COMMIT ending its record, MIRRORED is noted, a CLAIM is answered with the holder's record, made from the proposal where it has none. COMMIT of a VOTED ring makes its sapwood heartwood and moves RING_VISIBLE, RING_PREV and RING_GSTEP; DISCARD drops it; RETIRE frees a COMMITTED ring; a ring left alone in the older place moves with its sapwood to the newer (the model's reading of R202 and R204, assumption 87). A payload of another group acts on nothing. On a device whose clocks run, timeouts blame the silent member or start a resolve, as does the join after a warm reset; an undecided resolve or a lost CLAIM is sent again; a CLAIM waits where the endpoint takes none. (R220, R222, R223, R224, R225, R226, R227, R229, R230, Tables 8.5 and 8.6 of spec/08_rings.md) -/
def Obligations.RingProtocol : Prop :=
  ∀ (s : State) (p : Packet) (r : Nat) (lead : Bool) (m : Nat),
    let v := payloadOf p.data
    let sound := fun (op kind : Nat) => Arrives s p op ∧ p.cls = 3 ∧ p.tag = 0 ∧ p.addr = 0 ∧ p.arg = 0 ∧ p.stamp = false ∧ p.mirror = false ∧
      p.data.length = 64 ∧ v.kind = kind
    let ours := v.group = groupId s
    let live := s.still = false
    let same := fun (i : Instr) => exec i s = .next s
    let does := fun (i : Instr) (data : List Byte) (q : State → Prop) => ∃ t, exec i s = .next t ∧ answered s t p 0 data ∧ q t
    let decided := fun (t : State) (ring outcome cause culprit : Nat) => ∃ d, logFind t (groupId s) ring = some d ∧ d.kind = outcome ∧ d.arg = cause ∧ d.culprit = culprit
    let claims := fun (t : State) (h2 : Bool) =>
      let to_ := fun (k : Packet) => k.op = 8 ∧ k.dst = (if isSelf s (holderDev s h2) then ownDevice s else holderDev s h2)
      (∃ q ∈ t.ride.reqs, q.issuer = .claim r lead h2 ∧ to_ q.pkt) ∨
        endpointTakes s (holderDev s h2) = false ∧ ∃ w ∈ t.ride.waiting, w.2.1 = .claim r lead h2 ∧ to_ w.1
    let moved := fun (t : State) => newerState t = olderState s ∧ newerRing t = olderRing s ∧ t.mem.sapNew = s.mem.sapOld ∧ olderState t = 0 ∧
      t.mem.sapOld = Sap.empty
    let gone := fun (t : State) (sl : Slot) => (sl = .older → olderState t = 0 ∧ t.mem.sapOld = Sap.empty) ∧
      (sl = .newer → if olderState s = 0 then newerState t = 0 ∧ t.mem.sapNew = Sap.empty else moved t)
    (sound 8 0 → does (.voteAlive p) [] fun t => t.ring = s.ring ∧ t.regs = s.regs ∧ t.mem = s.mem) ∧
    (sound 8 1 → ¬ ours → does (.voteReady p) [] fun t => t.ring = s.ring ∧ t.mem = s.mem) ∧
    (sound 8 6 → ours → does (.voteMirrored p) [] fun t => (v.ring, v.source) ∈ t.ring.mirrored ∧ t.mem = s.mem) ∧
    (sound 8 5 → ours → (v.group, v.ring) ∉ s.ring.evicted →
      (∀ d, logFind s v.group v.ring = some d → does (.voteClaim p) (ringBytes d) fun t => t.ring = s.ring ∧ t.mem = s.mem) ∧
      (logFind s v.group v.ring = none → (v.arg = 1 ∨ v.arg = 2) → ∃ d, d.kind = v.arg ∧ d.ring = v.ring ∧ d.source = v.source ∧
        does (.voteClaim p) (ringBytes d) fun t => logFind t v.group v.ring = some d ∧ t.mem = s.mem)) ∧
    (∀ l, isLeader s = true → ours → v.source ∈ membersOf s → v.ring ≠ 0 → leadFind s v.ring = some l → l.state = 1 → l.why = none → leadFind s (v.ring + 1) = none →
      logFind s (groupId s) v.ring = none → (prevRing s v.ring).1 = 1 → (∀ w ∈ l.votes, w.g = v.g) →
      (sound 8 1 → (∀ x ∈ membersOf s, x ≠ v.source → ∃ w ∈ l.votes, w.source = x ∧ w.kind = 1) →
        does (.voteReady p) [] fun t => decided t v.ring 1 0 0) ∧
      (sound 8 1 → (∃ x ∈ membersOf s, x ≠ v.source ∧ ∀ w ∈ l.votes, w.source ≠ x) → does (.voteReady p) [] fun t => t.ring.log = s.ring.log ∧
        ∃ l', leadFind t v.ring = some l' ∧ v ∈ l'.votes ∧ l'.state = 1) ∧
      (sound 8 2 → does (.voteDoom p) [] fun t => decided t v.ring 2 v.arg v.culprit) ∧
      (sound 8 3 → does (.voteRefuse p) [] fun t => decided t v.ring 2 11 v.source)) ∧
    (∀ l, ours → sound 8 4 → leadFind s v.ring = some l →
      (l.state ≠ 3 ∨ (∃ x ∈ membersOf s, x ≠ v.source ∧ x ∉ l.flipped) →
        does (.voteFlipped p) [] fun t => ∃ l', leadFind t v.ring = some l' ∧ v.source ∈ l'.flipped ∧ l'.state = l.state) ∧
      (l.state = 3 → (∀ x ∈ membersOf s, x = v.source ∨ x ∈ l.flipped) → does (.voteFlipped p) [] fun t => leadFind t v.ring = none)) ∧
    (∀ sl, ours → slotOfRing s v.ring = some sl →
      (sound 9 0 → slotState s sl = 4 → Canonical s → does (.recvCommit p) [] fun t => slotState t sl = 5 ∧ t.reg RING_VISIBLE = BitVec.ofNat 64 v.ring ∧
        t.reg RING_PREV = s.reg RING_VISIBLE ∧ t.reg RING_GSTEP = BitVec.ofNat 64 (v.g + 1) ∧ (t.reg RING_EVENT).getLsbD 2 = true ∧ sapOf t sl = Sap.empty ∧
        ∀ a, mapGet zeroByte t.mem.stk a = (mapFind (sapOf s sl).bytes a).getD (mapGet zeroByte s.mem.stk a)) ∧
      (sound 9 0 → slotState s sl ≠ 4 → slotState s sl ≠ 6 → does (.recvCommit p) [] fun t => t.ring = s.ring ∧ t.regs = s.regs ∧ t.mem = s.mem) ∧
      (sound 10 2 → undecidedState (slotState s sl) = true → does (.recvDiscard p) [] fun t => gone t sl ∧
        t.mem.stk = s.mem.stk ∧ (t.reg RING_EVENT).getLsbD 3 = true ∧ t.reg RING_VISIBLE = s.reg RING_VISIBLE ∧
        (sl = .newer → s.ring.newer.cause = none → t.fld RING_CAUSE fldRING_CAUSE_CAUSE = v.arg % 256)) ∧
      (sound 9 1 → slotState s sl = 5 → does (.recvRetire p) [] fun t => (sl = .older → olderState t = 0) ∧
        (sl = .newer → if olderState s = 0 then newerState t = 0 else moved t) ∧ t.reg RING_PREV = 0 ∧ t.mem.retained = Sap.empty ∧
        t.mem.stk = s.mem.stk)) ∧
    (∀ q z, live → wtOn s = false → s.ride.held = [] → p.resp = true → (∃ i, (i, p) ∈ s.ride.inbox) → p.dst = ownDevice s → p.src ≠ ownDevice s → (∃ i : Fin 36, portState s i = 3) → p.status = 0 → 64 ≤ p.data.length →
      respReq s p = some q → q.issuer = .claim r lead false → findResolve s r lead = some z → z.phase = 0 → z.atH2 = false →
      v.ring = r → ours → (v.kind = 1 ∨ v.kind = 2) →
      ∃ t, exec (.claimResponse p) s = .next t ∧ findResolve t r lead = some { z with atH2 := true, v1 := some v } ∧ claims t true) ∧
    (isLeader s = false ∨ allFree s = true ∨ m ∉ membersOf s → same (.silenceTimeout m)) ∧
    (∀ l, live → isLeader s = true → allFree s = false → m ∈ membersOf s → s.ring.leads = [l] → l.state = 1 → l.why = none → l.votes = [] →
      logFind s (groupId s) l.ring = none → (prevRing s l.ring).1 = 1 →
      ∃ t, exec (.silenceTimeout m) s = .next t ∧ decided t l.ring 2 10 m) ∧
    (∀ sl, live → slotOfRing s r = some sl → undecidedState (slotState s sl) = true → ((slotOf s sl).voted.isSome = true ∨ (slotOf s sl).doomSent = true) →
      findResolve s r false = none → lead = false →
      ∃ t z, exec (.outcomeTimeout r) s = .next t ∧ findResolve t r false = some z ∧ z.phase = 0 ∧ z.atH2 = false ∧ z.prop.arg = 2 ∧ claims t false ∧ t.mem = s.mem) ∧
    (slotOfRing s r = none → same (.outcomeTimeout r)) ∧
    (∀ z, live → findResolve s r lead = some z →
      (z.phase = 2 → ∃ t, exec (.resolveRetry r lead) s = .next t ∧ findResolve t r lead = some { z with phase := 0, atH2 := false, v1 := none } ∧ claims t false) ∧
      (z.phase ≠ 2 → same (.resolveRetry r lead)) ∧
      (z.phase = 1 → ∃ t, exec (.claimResend r lead) s = .next t ∧ findResolve t r lead = some { z with phase := 0 } ∧ claims t z.atH2) ∧
      (z.phase ≠ 1 → same (.claimResend r lead))) ∧
    (s.ring.recovering ≠ 1 ∨ s.test RIDE_DEVICE fldRIDE_DEVICE_JOINED = false → same .recoverResolve) ∧
    (live → s.ring.recovering = 1 → s.test RIDE_DEVICE fldRIDE_DEVICE_JOINED = true → ∃ t, exec .recoverResolve s = .next t ∧ t.mem = s.mem ∧
      if newerState s ≠ 6 ∧ olderState s ≠ 6 then t.ring.recovering = 0 ∧ (t.reg RING_EVENT).getLsbD 10 = true
      else t.ring.recovering = 2 ∧ ∀ sl, slotState s sl = 6 → (findResolve t (slotRing s sl) false).isSome = true)

/-- Single-bank mode and the march test. On a device whose clocks run: the requested mode takes effect; between the request and that a core's load from a bank waits, as it does while its bank is under destructive test. GO starts a run over FIRST to LAST where none is under way (during a run a write of BANK_MARCH_CTRL changes nothing). The end of a run clears BUSY and sets DONE; a destructive run leaves every byte of the tested banks 0 and no other byte changed, a preserving run changes none; a bank that could not be repaired, or has no spare left, sets FAIL and goes out of service, and a repair takes one spare; cells outside the run's banks have no part. (R21, R260, R267, R268, R269, R270, Tables 10.4 and 10.5 of spec/10_bank_memory_and_stacks.md) -/
def Obligations.BankModeAndMarchTest : Prop :=
  ∀ (s : State) (v : Word) (rep : List MarchRepair) (fail : List MarchFail), s.still = false →
    (∀ (c : CoreId) (o : OpI) (b : Nat), Ready s c .retired →
      let a := ((s.core c).getX o.rs1 + o.imm.signExtend 64).toNat
      a % 8 = 0 → (∀ i < 8, regionOf s (a + i) = some (.bank b)) →
      (s.test BANK_MODE fldBANK_MODE_SINGLE = true ∧ s.test BANK_MODE fldBANK_MODE_NOW = false ∨
        s.test BANK_MARCH_STATUS fldBANK_MARCH_STATUS_BUSY = true ∧ s.test BANK_MARCH_CTRL fldBANK_MARCH_CTRL_MODE = false ∧
          inRun s (physBank s b) = true) → exec (.ld c o) s = .next s) ∧
    exec .bankModeChange s = .next (s.setBit BANK_MODE fldBANK_MODE_NOW (s.test BANK_MODE fldBANK_MODE_SINGLE)) ∧
    (s.test BANK_MARCH_STATUS fldBANK_MARCH_STATUS_BUSY = true → exec (.marchGo v) s = .next s) ∧
    (s.test BANK_MARCH_STATUS fldBANK_MARCH_STATUS_BUSY = false →
      ∃ t, exec (.marchGo v) s = .next t ∧ t.mem = s.mem ∧ t.cores = s.cores ∧ sameRegs s t [BANK_MARCH_CTRL, BANK_MARCH_STATUS] ∧
        t.fld BANK_MARCH_CTRL fldBANK_MARCH_CTRL_MODE = fldBANK_MARCH_CTRL_MODE.get v ∧
        t.fld BANK_MARCH_CTRL fldBANK_MARCH_CTRL_FIRST = fldBANK_MARCH_CTRL_FIRST.get v ∧
        t.fld BANK_MARCH_CTRL fldBANK_MARCH_CTRL_LAST = fldBANK_MARCH_CTRL_LAST.get v ∧
        t.test BANK_MARCH_STATUS fldBANK_MARCH_STATUS_BUSY = fldBANK_MARCH_CTRL_GO.test v ∧
        (fldBANK_MARCH_CTRL_GO.test v = true → t.fld BANK_MARCH_STATUS fldBANK_MARCH_STATUS_ROW = 0 ∧
          t.fld BANK_MARCH_STATUS fldBANK_MARCH_STATUS_BANK = fldBANK_MARCH_CTRL_FIRST.get v)) ∧
    (s.test BANK_MARCH_STATUS fldBANK_MARCH_STATUS_BUSY = false → exec (.marchRunEnd rep fail) s = .next s) ∧
    (s.test BANK_MARCH_STATUS fldBANK_MARCH_STATUS_BUSY = true →
      ∃ t, exec (.marchRunEnd rep fail) s = .next t ∧ t.test BANK_MARCH_STATUS fldBANK_MARCH_STATUS_BUSY = false ∧
        t.test BANK_MARCH_STATUS fldBANK_MARCH_STATUS_DONE = true ∧
        (∀ f ∈ fail, inRun s f.bank = true → t.test BANK_MARCH_STATUS fldBANK_MARCH_STATUS_FAIL = true ∧ (2, f.bank, 0) ∈ t.nv.retired ∧
          ∀ n, logicalBank s f.bank = some n → n ∈ t.mem.bankOut) ∧
        (∀ r, rep = [r] → inRun s r.bank = true → if sparesUsed s r.bank r.column < (if r.column then 16 else 32)
          then sparesUsed t r.bank r.column = sparesUsed s r.bank r.column + 1
          else t.test BANK_MARCH_STATUS fldBANK_MARCH_STATUS_FAIL = true ∧ (2, r.bank, 0) ∈ t.nv.retired ∧
            ∀ n, logicalBank s r.bank = some n → n ∈ t.mem.bankOut) ∧
        ∀ n off, n < 64 → off < 0x1000000 →
          let p := s.fld (BANK_GRP_CFG (n / 4)) ⟨7 * (n % 4) + 6, 7 * (n % 4)⟩
          mapGet zeroByte t.mem.bank (n * 0x1000000 + off) =
            if s.test BANK_MARCH_CTRL fldBANK_MARCH_CTRL_MODE = false ∧ s.fld BANK_MARCH_CTRL fldBANK_MARCH_CTRL_FIRST ≤ p ∧
              p ≤ s.fld BANK_MARCH_CTRL fldBANK_MARCH_CTRL_LAST then 0
            else mapGet zeroByte s.mem.bank (n * 0x1000000 + off))

/-- DRAM error correction and page-kind commands. On a device whose clocks run: where requests of a sector wait, its DRAM access is made in the sorter's turn alone, and takes them from the queue; an access counts an open page as hit or miss and leaves its row open; of a read, errors in one die are corrected and counted, errors in two dies, or in one or two beside a failed die, poison the 32-byte sector and are counted uncorrectable; no stored byte changes. A page-kind command is refused for the first of the reasons 4, 1, 2, 3 that holds, or starts; when it completes, the granules it names have the new kind and mirror bit, every other granule its own, and what stacked memory holds is unchanged. (R274, R276, R277, R278, R275, R281, Tables 10.14, 10.15 and 10.18 of spec/10_bank_memory_and_stacks.md) -/
def Obligations.StackAccessesAndPageKinds : Prop :=
  ∀ (s : State) (a : Nat) (errs : List SymErr) (n : Fin 12) (v : Word), s.still = false → a < stackTop → (∀ e ∈ errs, e.bits ≠ 0 ∧ e.die < 19) →
    let st := stackOf s (granule a)
    let (_, pc, b, row) := dramRow s a
    let key := (st * 32 + pc) * 48 + b
    let page := if mapFind s.mem.openRows key = some row then STK_PAGE_HIT st else STK_PAGE_MISS st
    let fd := s.fld (STK_CFG st) fldSTK_CFG_DIEFAIL
    let dies := (errs.map SymErr.die).dedup.filter fun d => d + 1 != fd
    let ce := s.fld (STK_ECC st) fldSTK_ECC_CE
    let ue := s.fld (STK_ECC st) fldSTK_ECC_UE
    let queued := s.mem.sorter.any fun r => r.sector == a / 32
    let turn := fun (r : SortReq) => queued = true ∧ sortPick s (channelOf s a) = some r ∧ r.sector = a / 32
    let accesses := fun (t : State) => exec (.stackAccess a errs) s = .next t ∧ t.mem.stk = s.mem.stk ∧ mapFind t.mem.openRows key = some row ∧
      t.reg page = countWord (s.reg page) 1
    (queued = true → (∀ r, ¬ turn r) → exec (.stackAccess a errs) s = .next s) ∧
    (∀ r, turn r → r.wr = true → ∃ t, accesses t ∧ t.mem.sorter = sortDrop r false s.mem.sorter ∧ t.mem.poison = s.mem.poison ∧
      t.reg (STK_ECC st) = s.reg (STK_ECC st)) ∧
    (queued = false ∨ (∃ r, turn r ∧ r.wr = false) → ∃ t, accesses t ∧ (queued = false → t.mem.sorter = s.mem.sorter) ∧
      (∀ r, turn r → t.mem.sorter = sortDrop r false s.mem.sorter) ∧
      (dies = [] → t.mem.poison = s.mem.poison ∧ t.fld (STK_ECC st) fldSTK_ECC_CE = ce ∧ t.fld (STK_ECC st) fldSTK_ECC_UE = ue) ∧
      (dies.length = 1 → fd = 0 → t.mem.poison = s.mem.poison ∧ t.fld (STK_ECC st) fldSTK_ECC_CE = min (ce + 1) (2 ^ 32 - 1) ∧
        t.fld (STK_ECC st) fldSTK_ECC_UE = ue) ∧
      (dies.length = 2 ∨ dies.length = 1 ∧ fd ≠ 0 → mapFind t.mem.poison (alignDown a 32) = some 32 ∧
        t.fld (STK_ECC st) fldSTK_ECC_CE = ce ∧ t.fld (STK_ECC st) fldSTK_ECC_UE = min (ue + 1) (2 ^ 32 - 1))) ∧
    (let first := fldSTK_PTE_SET_FIRST.get v
     let cnt := fldSTK_PTE_SET_COUNTM1.get v + 1
     let kind := fldSTK_PTE_SET_KIND.get v
     let busy := s.test (STK_PTE_STATUS n) fldSTK_PTE_STATUS_BUSY
     ∃ t, exec (.pteSet n v) s = .next t ∧ t.cores = s.cores ∧ t.mem.pte = s.mem.pte ∧ sameRegs s t [STK_PTE_STATUS n] ∧
       if busy = true ∨ allFree s = false ∨ 786432 < first + cnt ∨ kind = 3 then
         t.mem = s.mem ∧ t.test (STK_PTE_STATUS n) fldSTK_PTE_STATUS_ERR = true ∧ t.test (STK_PTE_STATUS n) fldSTK_PTE_STATUS_BUSY = busy ∧
           t.fld (STK_PTE_STATUS n) fldSTK_PTE_STATUS_REASON =
             if busy = true then 4 else if allFree s = false then 1 else if 786432 < first + cnt then 2 else 3
       else t.test (STK_PTE_STATUS n) fldSTK_PTE_STATUS_BUSY = true ∧ t.fld (STK_PTE_STATUS n) fldSTK_PTE_STATUS_NEXT = first ∧
         mapFind t.mem.pteCmd n = some { next := first, left := cnt, entry := kind + 4 * fldSTK_PTE_SET_MIRROR.get v }) ∧
    (mapFind s.mem.pteCmd n = none → exec (.pteSetComplete n) s = .next s) ∧
    (∀ k, mapFind s.mem.pteCmd n = some k → k.left ≤ 786432 → Canonical s →
      ∃ t, exec (.pteSetComplete n) s = .next t ∧ t.cores = s.cores ∧ sameRegs s t [STK_PTE_STATUS n] ∧ mapFind t.mem.pteCmd n = none ∧
        t.test (STK_PTE_STATUS n) fldSTK_PTE_STATUS_BUSY = false ∧
        (∀ q, k.next ≤ q → q < k.next + k.left → pteOf t (granuleIn s n q) = k.entry) ∧
        (∀ g, (∀ q, k.next ≤ q → q < k.next + k.left → g ≠ granuleIn s n q) → pteOf t g = pteOf s g) ∧
        ∀ x, (mapFind t.mem.dirty x).getD (mapGet zeroByte t.mem.stk x) = (mapFind s.mem.dirty x).getD (mapGet zeroByte s.mem.stk x))

/-- Stores to CLEAR, ADD and ADDSQ of an exact accumulator. On a device whose clocks run, a store to CLEAR with bit 0 set makes value and STATUS 0. A store to ADD (ADDSQ) of a finite binary32 adds exactly that number (its square), in units of 2^-298, held at the ends of the 640-bit range with STATUS bit 3; a not-a-number sets STATUS bit 0 and an infinity bit 1 or 2 by its sign (ADDSQ: bit 1), the value staying. No other accumulator, no register, no core and no byte of memory changes. (R284, R285, Table 10.2 of spec/10_bank_memory_and_stacks.md) -/
def Obligations.ExactAccumulators : Prop :=
  ∀ (s : State) (st : Fin 12) (idx : Fin 4096) (v : Word), s.still = false →
    let k := st.val * 4096 + idx.val
    let x := accGet s k
    let w := v.toNat % 2 ^ 32
    let gives := fun (i : Instr) (y : ExAcc) => ∃ t, exec i s = .next t ∧ accGet t k = y ∧ (∀ j, j ≠ k → accGet t j = accGet s j) ∧
      t.regs = s.regs ∧ t.cores = s.cores ∧ ∀ sub a, memByte t sub a = memByte s sub a
    let held := fun (d : ℚ) (y : ExAcc) =>
      ((x.val : ℚ) + d < -2 ^ 639 → y = { val := -2 ^ 639, st := x.st ||| 8 }) ∧
      (2 ^ 639 - 1 < (x.val : ℚ) + d → y = { val := 2 ^ 639 - 1, st := x.st ||| 8 }) ∧
      (-2 ^ 639 ≤ (x.val : ℚ) + d → (x.val : ℚ) + d ≤ 2 ^ 639 - 1 → (y.val : ℚ) = x.val + d ∧ y.st = x.st)
    gives (.accClear st idx v) (if v.getLsbD 0 then { val := 0, st := 0 } else x) ∧
    (∀ neg m e, unpack f32 w = .fin neg m e →
      let q := (if neg then -1 else 1) * (m : ℚ) * (2 : ℚ) ^ e
      (∃ y, gives (.accAdd st idx v) y ∧ held (q * 2 ^ 298) y) ∧ ∃ y, gives (.accAddsq st idx v) y ∧ held (q * q * 2 ^ 298) y) ∧
    (∀ sg, unpack f32 w = .nan sg → gives (.accAdd st idx v) { x with st := x.st ||| 1 } ∧ gives (.accAddsq st idx v) { x with st := x.st ||| 1 }) ∧
    ∀ neg, unpack f32 w = .inf neg → gives (.accAdd st idx v) { x with st := x.st ||| (if neg then 4 else 2) } ∧
      gives (.accAddsq st idx v) { x with st := x.st ||| 2 }

/-- Posting, starting, issuing, completing and aborting descriptors. On a device whose clocks run: a post of a core with nothing unretired, buffered or waiting, or of another master, joins its engine's queue with the running ring and the core's sub-ring; at a full queue a core waits, another master's post waits its turn, and the first of those takes the next entry that is freed. The row that names the head's operation starts it where the engine has a free place and ORD allows: its requests cover its rows exactly, in pieces of at most 256 bytes that do not cross a 256-byte boundary of their local side; a bad descriptor starts failed, one that cannot be read is dropped with code 9. A local request reads its source as it issues and writes it as it completes, its bytes counted. A descriptor with nothing left writes its STATUS record and leaves; before that a live one with SIG sends its SIGNAL once the endpoint takes it. ABORT marks what is queued and active. (R190, R191, R291, R292, R293, R294, R295, R297, R298, R299, R301, Tables 11.1 to 11.4 of spec/11_transfers_and_latency.md) -/
def Obligations.TransferEngines : Prop :=
  ∀ (s : State) (e : Fin 16) (m : Nat) (v : Word) (id : Nat), s.still = false → errorFree s → (∀ d e : CoreId, physOf s d = physOf s e → d = e) →
    let x := s.xfer.get e
    let eng := fun (t : State) => t.xfer.get e
    let others := fun (t : State) => ∀ d, d ≠ e → t.xfer.get d = s.xfer.get d
    let freed := fun (t : State) (rest : List XPost) => (x.posts = [] → (eng t).queue = rest) ∧
      ∀ k w l, x.posts = (k, w) :: l → rest.length < 64 → (eng t).posts = l ∧ ∃ q, (eng t).queue = rest ++ [q] ∧
        q.addr = fldXFER_POST_DESC.get w * 64 ∧ q.tag = runningRing s ∧ q.core = (if k < 48 then some k else none)
    let there := fun (a n : Nat) => (∃ d off, inArray s d off a n) ∨ ∃ d, inBank s d a n
    let starts := fun (i : Instr) (op : Nat) =>
      (x.queue = [] → exec i s = .next s) ∧
      ∀ q rest, x.queue = q :: rest → x.active.length < 8 →
        (spanRegion s q.addr 56 = none → ∃ t, exec i s = .next t ∧ freed t rest ∧ (eng t).active = x.active ∧ others t ∧ t.mem = s.mem ∧
          t.fld (XFER_ERR e) fldXFER_ERR_CODE = 9) ∧
        (there q.addr 56 →
          let b := memBytes s q.sub q.addr 56
          let field := fun (o n : Nat) => natOfBytes ((b.drop o).take n)
          let c := field 0 8
          (c % 16 ≠ op → c % 16 < 7 → exec i s = .next s) ∧
          (bitOf c 5 = true → x.active ≠ [] → exec i s = .next s) ∧
          (c % 16 = op → (bitOf c 5 = false ∨ x.active = []) → (∀ d ∈ x.active, d.id ≤ x.nextReq) → ∃ t, exec i s = .next t ∧ freed t rest ∧ others t ∧ t.mem = s.mem ∧
            (eng t).active.length = x.active.length + 1 ∧ ∃ d, (eng t).active.getLast? = some d ∧ d.post = q ∧ d.ctrl = c ∧
              d.aborted = q.aborted ∧ d.issued = [] ∧
              (badDesc b = true → d.fail = some (0, 3, 0) ∧ d.todo = []) ∧
              (badDesc b = false → d.fail = none ∧ d.src = field 8 8 ∧ d.dst = field 16 8 ∧ d.len = field 24 4 ∧
                ((d.todo.map XReq.len).sum = if q.aborted = true ∨ op = 6 then 0 else ctlRows c * field 24 4) ∧
                ∀ p ∈ d.todo, 1 ≤ p.len ∧ (if op = 1 ∨ op = 3 then p.dst else p.src) % 256 + p.len ≤ 256)))
    (m < 48 → postFull s e = true → exec (.xferPost m e v) s = .next s) ∧
    (48 ≤ m → postFull s e = true → ∃ t, exec (.xferPost m e v) s = .next t ∧ t.xfer = s.xfer.set e { x with posts := x.posts ++ [(m, v)] } ∧ t.mem = s.mem) ∧
    ((48 ≤ m ∨ (s.core (coreOf m)).mbuf = [] ∧ (s.core (coreOf m)).vecQ = [] ∧ storesWait s (coreOf m) = false) → postFull s e = false →
      ∃ t, exec (.xferPost m e v) s = .next t ∧ others t ∧ t.mem = s.mem ∧ t.regs = s.regs ∧
      (eng t).active = x.active ∧ ∃ q, (eng t).queue = x.queue ++ [q] ∧ q.addr = fldXFER_POST_DESC.get v * 64 ∧ q.core = (if m < 48 then some m else none) ∧
        q.tag = runningRing s ∧ q.sub = (if m < 48 then coreSub s (coreOf m) else 0) ∧ q.aborted = false) ∧
    starts (.xferCopy e) 0 ∧ starts (.xferGet e) 1 ∧ starts (.xferPut e) 2 ∧ starts (.xferZero e) 3 ∧ starts (.xferExsum e) 4 ∧
    starts (.xferExsumsq e) 5 ∧ starts (.xferSignal e) 6 ∧
    (∃ t, exec (.xferAbort e) s = .next t ∧ others t ∧ t.mem = s.mem ∧ t.regs = s.regs ∧ (∀ d ∈ (eng t).active, d.aborted = true) ∧
      (∀ q ∈ (eng t).queue, q.aborted = true) ∧ (eng t).queue.length = x.queue.length ∧ (eng t).active.length = x.active.length) ∧
    (pickReq s x = none → exec (.requestIssue e) s = .next s) ∧
    (∀ d r, x.active = [d] → pickReq s x = some (d, r) → d.ctrl % 16 = 0 → d.ctrl / 16 % 2 = 0 → 1 ≤ r.len → there r.src r.len →
      ∃ t d', exec (.requestIssue e) s = .next t ∧ others t ∧ t.mem = s.mem ∧ (eng t).active = [d'] ∧ d'.fail = d.fail ∧
        d'.todo = d.todo.filter (fun q => q.id != r.id) ∧ d'.issued = d.issued ++ [{ r with data := memBytes s d.post.sub r.src r.len }]) ∧
    (findReq s e id = none → exec (.requestComplete e id) s = .next s) ∧
    (∀ d r, x.active = [d] → findReq s e id = some (d, r) → r.wr = false → (d.ctrl % 16 = 0 ∨ d.ctrl % 16 = 3) → r.data.length = r.len → 1 ≤ r.len →
      there r.dst r.len → ∃ t, exec (.requestComplete e id) s = .next t ∧ others t ∧
        (eng t).active = [{ d with issued := d.issued.filter fun q => q.id != r.id }] ∧
        t.reg (XFER_BYTES e) = countWord (s.reg (XFER_BYTES e)) r.len ∧
        (∀ sub j, j < r.len → memByte t sub (r.dst + j) = (r.data[j]?).getD 0) ∧
        ∀ sub b, (b < r.dst ∨ r.dst + r.len ≤ b) → memByte t sub b = memByte s sub b) ∧
    (∀ d, x.active = [d] → d.id = id →
      (d.issued ≠ [] → d.live = false → exec (.descriptorComplete e id) s = .next s) ∧
      (d.issued = [] → d.todo = [] → d.signal = 0 → (bitOf d.ctrl 7 = false ∨ d.live = false) → there (d.post.addr + 56) 8 → ∃ t,
        exec (.descriptorComplete e id) s = .next t ∧ others t ∧ (eng t).active = [] ∧
        t.reg (XFER_DONE_COUNT e) = countWord (s.reg (XFER_DONE_COUNT e)) 1 ∧
        (d.fail = none → d.aborted = false → ∀ sub, natOfBytes (memBytes t sub (d.post.addr + 56) 8) = 2 ^ 63 + if d.stale then 2 else 1) ∧
        (d.fail = none → d.aborted = true → ∀ sub, natOfBytes (memBytes t sub (d.post.addr + 56) 8) = 2 ^ 63 + 8) ∧
        (∀ off code rst, d.fail = some (off, code, rst) → d.aborted = false → off < 2 ^ 32 → 3 ≤ code → code < 256 → rst < 256 →
          (∀ sub, natOfBytes (memBytes t sub (d.post.addr + 56) 8) = 2 ^ 63 + rst * 2 ^ 48 + off * 256 + code) ∧
          t.fld (XFER_ERR e) fldXFER_ERR_CODE = code % 16) ∧
        (bitOf d.ctrl 6 = true → ∀ c : CoreId, d.post.core = some c.val → s.fld (PWR_CORE c) fldPWR_CORE_STATE < 3 → (t.reg (CORE_IPEND c)).getLsbD 22 = true) ∧
        ∀ sub b, (b < d.post.addr + 56 ∨ d.post.addr + 64 ≤ b) → memByte t sub b = memByte s sub b) ∧
      (d.issued = [] → d.todo = [] → d.signal = 0 → bitOf d.ctrl 7 = true → d.live = true → endpointTakes s (gDevice d.sigaddr) = false →
        exec (.descriptorComplete e id) s = .next s) ∧
      (d.issued = [] → d.todo = [] → d.signal = 0 → bitOf d.ctrl 7 = true → d.live = true → endpointTakes s (gDevice d.sigaddr) = true → ∃ t r,
        exec (.descriptorComplete e id) s = .next t ∧ others t ∧ (eng t).active = [{ d with signal := 1 }] ∧ t.mem = s.mem ∧
        t.ride.reqs = s.ride.reqs ++ [r] ∧ r.issuer = .engineSignal e d.id ∧ r.pkt.op = 6 ∧ r.pkt.addr = gLocal d.sigaddr ∧
        natOfBytes (r.pkt.data.take 4) = d.siginc % 2 ^ 32))

/-- Requests that remote instructions issue. A remote instruction in its legal form, with aligned operands, a well-formed global address, a free place at the endpoint and nothing of the core buffered or waiting, issues one request and goes on: the table of outstanding requests gains exactly it, under the next number, with operation, class, device, local address, ARG, tag, stamp and payload as the spec gives them (an operand read from a core array or a bank, errors apart). BSIG and BWAIT to another device issue SIGNAL and WAIT; BWAIT then waits. No byte of memory and no general register changes. (R314, R329, R330, R333, R334, Tables 12.3, 12.5, 12.7 and 12.8 of spec/12_ride_fabric.md) -/
def Obligations.RemoteInstructions : Prop :=
  ∀ (c : CoreId) (o : OpRem) (b : OpBlz) (s : State), Ready s c .retired → errorFree s → (s.core c).mbuf = [] → storesWait s c = false →
    let k := s.core c
    let ra := (k.getX o.ra).toNat
    let ga := (k.getX o.rs1).toNat
    let gb := (k.getX b.rs1).toNat
    let x2 := (k.getX o.rs2).toNat
    let run := runningRing s
    let n := if o.arg = 0 then 8 else if o.arg = 1 then 32 else if o.arg = 2 then 64 else 256
    let w := if o.d then 8 else 4
    let there := fun (a n : Nat) => (∃ d off, inArray s d off a n) ∨ ∃ d, inBank s d a n
    let mem := memBytes s (coreSub s c)
    let padded := fun (l : List Byte) => l ++ List.replicate ((32 - l.length % 32) % 32) 0
    let sends := fun (i : Instr) (g op cls arg tag : Nat) (stamp : Bool) (data : List Byte) (who : Issuer) (wait : CoreWait) =>
      g < 2 ^ 62 → accepts s c (g / 2 ^ 44) = true →
      ∃ t r, exec i s = .next t ∧ t.ride.reqs = s.ride.reqs ++ [r] ∧ t.ride.nextId = s.ride.nextId + 1 ∧ t.mem = s.mem ∧
        (∀ d, (t.core d).x = (s.core d).x ∧ (t.core d).f = (s.core d).f) ∧ (t.core c).wait = wait ∧
        (t.core c).pc = (if wait = .running then k.pc + 4 else k.pc) ∧
        r.id = s.ride.nextId ∧ r.issuer = who ∧ r.gaddr = g ∧ r.answer = none ∧ r.pkt.resp = false ∧ r.pkt.op = op ∧ r.pkt.cls = cls ∧
        r.pkt.src = ownDevice s ∧ r.pkt.dst = (if g / 2 ^ 44 = 0x3FFFF then ownDevice s else g / 2 ^ 44) ∧ r.pkt.addr = g % 2 ^ 44 ∧
        r.pkt.arg = arg ∧ r.pkt.tag = tag ∧ r.pkt.stamp = stamp ∧ r.pkt.mirror = false ∧ r.pkt.data = data
    (o.z = false → o.d = false → o.arg.toNat < 4 → ra % min n 32 = 0 → ga % min n 32 = 0 →
      sends (.rget c o) ga 1 o.cls.toNat (n / 8 - 1) (if x2 = 0 then run else x2) (x2 != 0) [] (.coreGet c.val ra n) .running ∧
      (o.rs2 = 0 → there ra n → sends (.rput c o) ga 2 o.cls.toNat (if n = 8 then 3 else 0) run false (padded (mem ra n)) (.corePost c.val) .running)) ∧
    (o.z = false → ¬(o.d = true ∧ (o.arg = 1 ∨ o.arg = 4 ∨ o.arg = 5)) → ra % w = 0 → ga % w = 0 → (o.arg = 7 → there ra w) →
      sends (.ratom c o) ga 3 o.cls.toNat (o.arg.toNat + if o.d then 8 else 0) run false
        (padded (bytesOfNat 8 x2 ++ if o.arg = 7 then mem ra w ++ List.replicate (8 - w) 0 else List.replicate 8 0)) (.coreAtom c.val ra w) .running) ∧
    (o.z = false → o.d = false → o.arg = 0 → o.ra = 0 → ga % 128 = 0 →
      sends (.rexsum c o) ga 4 o.cls.toNat 0 run false (padded (bytesOfNat 4 x2)) (.corePost c.val) .running ∧
      sends (.rexsumsq c o) ga 5 o.cls.toNat 0 run false (padded (bytesOfNat 4 x2)) (.corePost c.val) .running) ∧
    (o.z = false → o.d = false → o.arg = 0 → o.rs2 = 0 → ga % 2 ^ 44 = 0 → ra % 64 = 0 → there ra 64 →
      sends (.rservice c o) ga 11 o.cls.toNat 0 0 false (mem ra 64) (.corePost c.val) .running) ∧
    (b.lo = 0 → gb % 64 = 0 → isSelf s (gb / 2 ^ 44) = false →
      let v := (k.getX b.rs2).toNat % 2 ^ 32
      (b.rd = 0 → sends (.bsig c b) gb 6 b.cls.toNat 0 run false (padded (bytesOfNat 4 v)) (.corePost c.val) .running) ∧
      sends (.bwait c b) gb 7 b.cls.toNat 0 run false (padded (bytesOfNat 4 v)) (.coreWait c.val)
        (.bwait b.rd.toNat 16384 v run (some s.ride.nextId) none))

/-- Blazes: stores, adds, BSIG and BWAIT. On a device whose clocks run, a store to a blaze replaces its value by bits [31:0]; an add, and a BSIG to a blaze of this device, raises it, saturating at 2^32 - 1 with BLZ_OVF set. No other blaze changes. Every core that waits on the blaze with a threshold the new value meets is to write 0; the others wait on. BWAIT on a blaze of this device whose value meets its threshold writes 0 and goes on, and else waits; a wait whose outcome stands writes it to its register and goes on, and a remote WAIT still out is then abandoned, while one whose outcome does not stand changes nothing. (R331, R332, R333, R334, R339, Tables 12.26 to 12.29 of spec/12_ride_fabric.md) -/
def Obligations.BlazesAndWaits : Prop :=
  ∀ (c : CoreId) (o : OpBlz) (b : Fin 16384) (v : Word) (s : State), s.still = false →
    let old := blzValue s b
    let amount := v.toNat % 2 ^ 32
    let becomes := fun (i : Instr) (n : Nat) => ∃ t, exec i s = .next t ∧ blzValue t b = n ∧ (∀ d, d ≠ b.val → blzValue t d = blzValue s d) ∧
      t.mem = s.mem ∧ (∀ d, (t.core d).x = (s.core d).x) ∧
      ∀ d rd th run, (s.core d).wait = .bwait rd b th run none none →
        (t.core d).wait = .bwait rd b th run none (if th ≤ n then some 0 else none) ∧ (t.core d).pc = (s.core d).pc
    let added := fun (i : Instr) (n : Nat) => becomes i (min (old + n) (2 ^ 32 - 1)) ∧
      (2 ^ 32 ≤ old + n → ∀ t, exec i s = .next t → t.test (BLZ_STATUS b) fldBLZ_STATUS_BLZ_OVF = true)
    becomes (.blzValueWrite b v) amount ∧ added (.blzAddWrite b v) amount ∧
    (Ready s c .retired → (s.core c).mbuf = [] → storesWait s c = false → o.lo = 0 →
      let n := ((s.core c).getX o.rs2).toNat % 2 ^ 32
      let g := ((s.core c).getX o.rs1).toNat
      g < 2 ^ 62 → isSelf s (g / 2 ^ 44) = true → g % 2 ^ 44 = 0xF0100000000 + 64 * b.val →
      (o.rd = 0 → added (.bsig c o) n ∧ ∀ t, exec (.bsig c o) s = .next t → (t.core c).pc = (s.core c).pc + 4) ∧
      (n ≤ old → exec (.bwait c o) s = .next (advance s c fun k => k.setX o.rd 0)) ∧
      (old < n → exec (.bwait c o) s =
        .next (s.modCore c fun k => { k with wait := .bwait o.rd.toNat b n (runningRing s) none none }))) ∧
    (∀ rd d th run x, (s.core c).wait = .bwait rd d th run none (some x) → alive s c = true →
      exec (.bwaitRetire c) s = .next (s.modCore c fun k =>
        { k.setX (BitVec.ofNat 5 rd) (BitVec.ofNat 64 x) with wait := .running, pc := k.pc + 4 })) ∧
    (∀ rd d th run q x, (s.core c).wait = .bwait rd d th run (some q) (some x) → alive s c = true → ∃ t, exec (.bwaitRetire c) s = .next t ∧
      (t.core c).x = ((s.core c).setX (BitVec.ofNat 5 rd) (BitVec.ofNat 64 x)).x ∧ (t.core c).wait = .running ∧ (t.core c).pc = (s.core c).pc + 4 ∧
      t.mem = s.mem ∧ t.regs = s.regs ∧ ∀ r ∈ t.ride.reqs, r.id = q → r.issuer = .abandoned) ∧
    (∀ rd d th run q, (s.core c).wait = .bwait rd d th run q none → exec (.bwaitRetire c) s = .next s)

/-- What a request that arrives does and is answered. A sound request that is next in its stream, with tag 0 unless said otherwise, is performed, answered with the status and payload given, and its PSN counts as performed: GET reads, PUT writes and ATOM updates bytes of a core array or a bank and no other byte, EXSUM and EXSUMSQ add to an accumulator in ascending order, SIGNAL adds to a blaze, WAIT answers the value or is held, SERVICE is queued, where no write to the queue's entry waits, or answered BUSY_QUEUE, a copy of a ring this device does not hold is STALE, and a request with a malformed ARG is BAD_PACKET. A request held too long is answered BUSY; a stream that expires loses its receive state. (R215, R318, R322, R323, R324, R325, R326, R327, R328, Tables 12.4, 12.5 and 12.6 of spec/12_ride_fabric.md) -/
def Obligations.RequestsAtTheDestination : Prop :=
  ∀ (s : State) (p : Packet), errorFree s → (∀ d e : CoreId, physOf s d = physOf s e → d = e) → p.stamp = false →
    let u := p.data.length / 32
    let word := fun (o n : Nat) => natOfBytes ((p.data.drop o).take n)
    let there := fun (n : Nat) => (∃ d off, inArray s d off p.addr n) ∨ ∃ d, inBank s d p.addr n
    let outside := fun (t : State) (n : Nat) => ∀ sub b, (b < p.addr ∨ p.addr + n ≤ b) → memByte t sub b = memByte s sub b
    let puts := fun (t : State) => ∀ n, n = 32 * u - 8 * p.arg → answered s t p 0 [] ∧ outside t n ∧
      ∀ sub j, j < n → memByte t sub (p.addr + j) = (p.data[j]?).getD 0
    let plain := p.tag = 0 ∧ p.mirror = false
    (Arrives s p 1 → plain → p.data = [] → p.arg < 32 →
      let n := 8 * (p.arg + 1)
      p.addr % min n 32 = 0 → there n → ∃ t, exec (.rideGet p) s = .next t ∧ t.mem = s.mem ∧ answered s t p 0 (memBytes s 0 p.addr n)) ∧
    (Arrives s p 2 → p.tag = 0 → p.mirror = false → p.data.length = 32 * u → 1 ≤ u → u ≤ 256 → p.arg < 4 → there (32 * u - 8 * p.arg) →
      ∃ t, exec (.ridePut p) s = .next t ∧ puts t) ∧
    (Arrives s p 2 → p.mirror = true → p.data.length = 32 * u → 1 ≤ u → u ≤ 256 → p.arg < 4 → there (32 * u - 8 * p.arg) →
      (slotOfRing s p.tag = none → ∃ t, exec (.rideMirrorPut p) s = .next t ∧ t.mem = s.mem ∧ answered s t p 9 []) ∧
      (∀ sl, slotOfRing s p.tag = some sl → (1 ≤ slotState s sl ∧ slotState s sl ≤ 3) →
        ∃ t, exec (.rideMirrorPut p) s = .next t ∧ puts t)) ∧
    (Arrives s p 3 → plain → p.data.length = 32 → p.arg < 16 →
      let n := if 8 ≤ p.arg then 8 else 4
      let op := p.arg % 8
      let w := 8 * n
      let old := natOfBytes (memBytes s 0 p.addr n)
      let x := word 0 n
      let new := if op = 0 then (old + x) % 2 ^ w
        else if op = 1 then (engAdd f32 false old x).1
        else if op = 2 then (if signedOf w old < signedOf w x then x else old)
        else if op = 3 then (if signedOf w x < signedOf w old then x else old)
        else if op = 4 then (engMaxMin f32 false true old x).1
        else if op = 5 then (engMaxMin f32 false false old x).1
        else if op = 6 then x else if old = word 8 n then x else old
      ¬(8 ≤ p.arg ∧ (op = 1 ∨ op = 4 ∨ op = 5)) → p.addr % n = 0 → there n →
      ∃ t, exec (.rideAtom p) s = .next t ∧ answered s t p 0 (bytesOfNat 8 old) ∧ outside t n ∧
        ∀ sub j, j < n → memByte t sub (p.addr + j) = BitVec.ofNat 8 (new >>> (8 * j))) ∧
    (plain → p.arg < 64 → p.data.length = 32 * unitsOf (4 * (p.arg + 1)) → regionOf s p.addr = some .exacc → p.addr % 128 = 0 →
      let k := (p.addr - 0xF0200000000) / 0x100000 * 4096 + (p.addr - 0xF0200000000) % 0x100000 / 128
      (Arrives s p 4 → ∃ t, exec (.rideExsum p) s = .next t ∧ answered s t p 0 [] ∧ (∀ j, j ≠ k → accGet t j = accGet s j) ∧
        accGet t k = (List.range (p.arg + 1)).foldl (fun a i => a.addF (word (4 * i) 4)) (accGet s k)) ∧
      (Arrives s p 5 → ∃ t, exec (.rideExsumsq p) s = .next t ∧ answered s t p 0 [] ∧ (∀ j, j ≠ k → accGet t j = accGet s j) ∧
        accGet t k = (List.range (p.arg + 1)).foldl (fun a i => a.addSq (word (4 * i) 4)) (accGet s k))) ∧
    (plain → p.arg = 0 → p.data.length = 32 → ∀ b : Fin 16384, p.addr = 0xF0100000000 + 64 * b.val →
      (Arrives s p 6 → ∃ t, exec (.rideSignal p) s = .next t ∧ answered s t p 0 [] ∧ t.mem = s.mem ∧
        blzValue t b = min (blzValue s b + word 0 4) (2 ^ 32 - 1)) ∧
      (Arrives s p 7 → word 0 4 ≤ blzValue s b → ∃ t, exec (.rideWait p) s = .next t ∧ t.mem = s.mem ∧
        answered s t p 0 (bytesOfNat 4 (blzValue s b))) ∧
      (Arrives s p 7 → blzValue s b < word 0 4 → ∃ t, exec (.rideWait p) s = .next t ∧ t.mem = s.mem ∧ t.regs = s.regs ∧
        t.ride.held = [p] ∧ t.ride.outbox = s.ride.outbox)) ∧
    (Arrives s p 11 → plain → p.addr = 0 → p.arg = 0 → p.data.length = 64 →
      (svcFull s = true → ∃ t, exec (.rideService p) s = .next t ∧ t.mem = s.mem ∧ answered s t p 7 []) ∧
      (svcFull s = false → svcWaits s = false → ∃ t, exec (.rideService p) s = .next t ∧ answered s t p 0 [] ∧
        t.fld WDN_SVCQ_HEAD fldWDN_SVCQ_HEAD_COUNT = (s.fld WDN_SVCQ_HEAD fldWDN_SVCQ_HEAD_COUNT + 1) % 2 ^ 32)) ∧
    (Arrives s p 1 → p.data = [] → 32 ≤ p.arg → ∃ t, exec (.rideGet p) s = .next t ∧ t.mem = s.mem ∧ answered s t p 8 []) ∧
    (s.still = false → p ∈ s.ride.held → (∀ q ∈ s.ride.held, q.src = p.src → q.cls = p.cls → q.psn = p.psn → q = p) → p.src ≠ ownDevice s →
      (∃ t, exec (.holdTimeout p.src p.cls p.psn) s = .next t ∧ t.mem = s.mem ∧ p ∉ t.ride.held ∧ leaves t (respTo s p 12 [])) ∧
      exec (.streamExpiry p.src p.cls) s = .next s) ∧
    (s.still = false → (∀ q ∈ s.ride.held, ¬(q.src = p.src ∧ q.cls = p.cls)) → ∃ t, exec (.streamExpiry p.src p.cls) s = .next t ∧
      rxFind t p.src p.cls = none ∧ t.ride.held = s.ride.held ∧ t.mem = s.mem ∧ t.regs = s.regs)

/-- Responses, resends, failover and completion at the source. On a device whose clocks run, with Windthrow idle: a response in a receive buffer reaches the request of its stream and PSN: BUSY marks it for a resend, DUPLICATE of a request sent more than once waits, and any other answer of a core's operation stands for the row that completes it; one that answers no request is discarded, and a CLAIM_RESPONSE takes no response but to a CLAIM. A resend leaves with RETX = 1 on any port, a failover on one that has not carried the request, unless none is left, which is then a path failure. A completed GET or ATOM, in a core's order where its mode asks for that, writes its result where the instruction said and nothing else; a failed operation is shown in CORE_RSTAT and CORE_RFADDR where no failure stands there. (R215, R262, R303, R317, R318, R319, R320, R321, R330, Tables 12.13 and 12.24 of spec/12_ride_fabric.md) -/
def Obligations.RequestsAtTheSource : Prop :=
  ∀ (s : State) (p : Packet) (id : Nat) (r : RideReq) (c : CoreId), s.still = false → wtOn s = false → s.ride.held = [] →
    (∀ q ∈ s.ride.reqs, q.id = r.id → q = r) → r ∈ s.ride.reqs → r.id < s.ride.nextId →
    let becomes := fun (i : Instr) (q : RideReq) => ∃ t, exec i s = .next t ∧ q ∈ t.ride.reqs ∧ r ∉ t.ride.reqs
    let unreached := fun (i : Instr) => ∃ t, exec i s = .next t ∧ t.fld RIDE_PATHFAIL fldRIDE_PATHFAIL_DEVICE = r.pkt.dst ∧
      (t.reg RIDE_EVENT).getLsbD 1 = true ∧ ∃ q ∈ t.ride.reqs, q.id = id ∧ q.answer = some (13, [])
    (p.resp = true → (∃ i, (i, p) ∈ s.ride.inbox) → p.dst = ownDevice s →
      (respReq s p = none → ∃ t, exec (.rideResponse p) s = .next t ∧ t.ride.reqs = s.ride.reqs ∧ t.mem = s.mem ∧ t.regs = s.regs ∧ t.cores = s.cores ∧
        t.ride.inbox.length + 1 = s.ride.inbox.length) ∧
      (respReq s p = some r → r.issuer = .corePost c.val →
        exec (.claimResponse p) s = .next s ∧
        (p.status = 12 → r.dup = false → r.busy = false → becomes (.rideResponse p) { r with busy := true, tried := r.tried.dropLast }) ∧
        (p.status = 10 → 1 < r.sends → r.dup = false → becomes (.rideResponse p) { r with dup := true, busy := false }) ∧
        (p.status ≠ 12 → (p.status = 10 → r.sends ≤ 1) →
          becomes (.rideResponse p) { r with answer := some (p.status, p.data), busy := false, dup := false }) ∧
        (p.status = 0 → ∃ t, exec (.rideResponse p) s = .next t ∧ t.mem = s.mem ∧ t.regs = s.regs))) ∧
    (reqFind s id = some r → r.answer = none → r.pkt.dst ≠ ownDevice s → r.pkt.resp = false →
      (∀ q ∈ s.ride.reqs, q ≠ r → ¬(q.pkt.dst = r.pkt.dst ∧ q.pkt.cls = r.pkt.cls ∧ q.pkt.psn = r.pkt.psn)) →
      let again := fun (i : Instr) => ∃ t, exec i s = .next t ∧ t.mem = s.mem ∧ leaves t { r.pkt with retx := true } ∧
        ∃ q ∈ t.ride.reqs, q.id = id ∧ q.sends = r.sends + 1 ∧ q.answer = none ∧ q.pkt = { r.pkt with retx := true } ∧ q.busy = false
      let up := ∃ i : Fin 36, portActive s i = true ∧ portState s i = 3
      (r.busy = true → s.ride.outbox = [] → (s.ride.quiet = true ∨ up) → again (.busyResend id)) ∧
      (r.busy = true → s.ride.outbox = [] → s.ride.quiet = false → (∀ i : Fin 36, portState s i ≠ 3) → r.issuer = .corePost c.val → r.pkt.dst < 2 ^ 18 →
        unreached (.busyResend id)) ∧
      (r.busy = false → exec (.busyResend id) s = .next s) ∧
      (r.dup = false → exec (.duplicateWaitExpiry id) s = .next s) ∧
      (r.dup = true → r.issuer = .corePost c.val →
        becomes (.duplicateWaitExpiry id) { r with answer := some (10, []), busy := false, dup := false }) ∧
      ((r.dup = true ∨ r.busy = true) → exec (.failover id) s = .next s) ∧
      (r.dup = false → r.busy = false → (untried s r).isEmpty = false → again (.failover id)) ∧
      (r.dup = false → r.busy = false → (untried s r).isEmpty = true → r.issuer = .corePost c.val → r.pkt.dst < 2 ^ 18 → unreached (.failover id))) ∧
    (reqFind s id = some r → r.answer = none → exec (.remoteCompletion id) s = .next s) ∧
    (∀ st data, reqFind s id = some r → r.answer = some (st, data) → st < 256 → r.pkt.dst < 2 ^ 18 → r.gaddr < 2 ^ 64 → r.issuer.core = some c.val →
      (heldBack (s.core c) (true, id) = true → exec (.remoteCompletion id) s = .next s) ∧
      (heldBack (s.core c) (true, id) = false →
        let gone := { s with ride := { s.ride with reqs := s.ride.reqs.filter fun q => q.id != id } }.modCore c fun k =>
          { k with order := k.order.erase (true, id) }
        (st = 0 → r.issuer = .corePost c.val → exec (.remoteCompletion id) s = .next gone) ∧
        (∀ a n, ∀ u : State, st = 0 → (r.issuer = .coreGet c.val a n ∨ r.issuer = .coreAtom c.val a n) →
          (∀ d e : CoreId, physOf s d = physOf s e → d = e) → 1 ≤ n →
          ((∃ d off, inArray s d off a n) ∧ u = s ∨ ∃ b, inBank s b a n ∧
            u = if s.test BANK_MODE fldBANK_MODE_NOW = false ∧ isHome s 64 b = true then count s (BANK_HOME_BEATS (b / 4)) ((n + 63) / 64) else s) →
          ∃ t, exec (.remoteCompletion id) s = .next t ∧ t.ride = gone.ride ∧ t.regs = u.regs ∧
            (∀ sub j, j < n → memByte t sub (a + j) = (data[j]?).getD 0) ∧
            ∀ sub b, (b < a ∨ a + n ≤ b) → memByte t sub b = memByte s sub b) ∧
        (st ≠ 0 → ∃ t, exec (.remoteCompletion id) s = .next t ∧ t.ride = gone.ride ∧ t.mem = s.mem ∧
          t.reg (CORE_RFAILS c) = countWord (s.reg (CORE_RFAILS c)) 1 ∧
          (s.test (CORE_RSTAT c) fldCORE_RSTAT_ERR = true → t.reg (CORE_RSTAT c) = s.reg (CORE_RSTAT c) ∧ t.reg (CORE_RFADDR c) = s.reg (CORE_RFADDR c)) ∧
          (s.test (CORE_RSTAT c) fldCORE_RSTAT_ERR = false → t.test (CORE_RSTAT c) fldCORE_RSTAT_ERR = true ∧
            t.fld (CORE_RSTAT c) fldCORE_RSTAT_CODE = st ∧ t.fld (CORE_RSTAT c) fldCORE_RSTAT_DEVICE = r.pkt.dst ∧
            t.reg (CORE_RFADDR c) = BitVec.ofNat 64 r.gaddr))))

/-- Flits, replays, training and joining of a port. On a device whose clocks run, with Windthrow idle: a port that is JOINING or UP counts the symbols corrected in a flit on each lane; a flit whose codewords decode and belong together, whose CRC matches and that is next in order, it accepts (acknowledged flits released, credits returned, its packets in the receive buffer), any other it discards and owes one replay request for; an UP port replays what is unacknowledged on request or timeout, counting each flit. A port that fails, is told to retrain, or saw more symbols corrected on one lane in 1 ms than FECTHR goes to TRAINING with a fresh link, announced in RIDE_EVENT, and what it received stays. An attempt with at least four good lanes leads to READY, its spare the lane that failed or of five the one with the most errors, and sends a JOIN record; the third failed one leads to FAILED with a record; a join answer makes the port UP (the device joined) or refused; the end of the reset quiet lets packets leave. In any other state of the port these events change nothing. (R309, R310, R311, R312, R313, R336, Tables 12.1, 12.2, 12.10 and 12.11 of spec/12_ride_fabric.md) -/
def Obligations.Ports : Prop :=
  ∀ (s : State) (p : Fin 36) (f : Flit) (ack : Nat) (errs syms : List Nat) (ok ended : Bool), s.still = false → wtOn s = false →
    let q := s.ride.ports.get p
    let up := portState s p = 3
    let port := fun (t : State) => t.ride.ports.get p
    let others := fun (t : State) => (∀ d, d ≠ p → t.ride.ports.get d = s.ride.ports.get d) ∧ t.mem = s.mem
    let same := fun (i : Instr) => exec i s = .next s
    let down := fun (i : Instr) => ∃ t, exec i s = .next t ∧ portState t p = 1 ∧ port t = { Port.reset with fails := q.fails } ∧
      (t.reg RIDE_EVENT).getLsbD 3 = true ∧ t.ride.inbox.map Prod.snd = s.ride.inbox.map Prod.snd ∧
      ∀ k, ((∃ g ∈ q.unacked, k ∈ g.pkts) ∨ ∃ n, (k, n) ∈ q.txq) → k.resp = true → leaves t k
    let replays := fun (i : Instr) (l : List TxFlit) => (∀ g ∈ l, g.replays < 63) → counts s (RIDE_PORT_REPLAY p) l.length →
      ∃ t, exec i s = .next t ∧ others t ∧ portState t p = 3 ∧
        port t = { q with unacked := l.map fun g => { g with replays := g.replays + 1 } } ∧
        (t.reg (RIDE_PORT_REPLAY p)).toNat % 2 ^ 48 = (s.reg (RIDE_PORT_REPLAY p)).toNat % 2 ^ 48 + l.length
    let rx := rxFlit f
    let fixed := { q with fec := List.zipWith (· + ·) q.fec rx.fixed }
    let owes := { fixed with asked := if q.asked = 0 then 1 else q.asked }
    let fecCount := fun (t : State) => t.reg (RIDE_PORT_FEC p) = countWord (s.reg (RIDE_PORT_FEC p)) rx.fixed.sum
    let lanes := List.zipWith LaneErr.mk errs syms
    let good := fun (j : Nat) => ∃ e, lanes[j]? = some e ∧ e.errs * 100000 < 24 * e.syms
    (portState s p ≠ 2 → ¬ up → same (.flitReceive p f)) ∧
    (¬ up → same (.replayRequest p ack) ∧ same (.replayTimeout p) ∧ same (.portFailure p) ∧ same (.retrain p) ∧ same (.fecThreshold p ended)) ∧
    (up ∨ portState s p = 2 →
      (rx.bytes.filter flitOk = none → ∃ t, exec (.flitReceive p f) s = .next t ∧ others t ∧ port t = owes ∧ fecCount t ∧
        t.reg (RIDE_PORT_BAD p) = countWord (s.reg (RIDE_PORT_BAD p)) 1) ∧
      ∀ l, rx.bytes = some l → flitOk l = true →
        let field := fun (o n : Nat) => natOfBytes ((l.drop o).take n)
        let got := cutUnits (flitUnits l) q.part []
        (field 0 4 ≠ q.rxNext → ∃ t, exec (.flitReceive p f) s = .next t ∧ others t ∧ port t = owes ∧ fecCount t ∧
          t.reg (RIDE_PORT_BAD p) = s.reg (RIDE_PORT_BAD p)) ∧
        (field 0 4 = q.rxNext → field 8 1 ≠ 2 → s.ride.outbox = [] → (field 8 1 = 0 → ∀ k ∈ got.2, rowless k = false) →
          ∃ t, exec (.flitReceive p f) s = .next t ∧ others t ∧ fecCount t ∧
            port t = { fixed with rxNext := (q.rxNext + 1) % 2 ^ 32, asked := 0, unacked := q.unacked.filter (fun g => psnBelow (field 4 4) g.fseq),
                                  part := if field 8 1 = 0 then got.1 else q.part,
                                  credit0 := q.credit0 + field 10 2, credit1 := q.credit1 + field 12 2, credit2 := q.credit2 + field 14 2 } ∧
            t.ride.inbox = s.ride.inbox ++ (if field 8 1 = 0 then got.2 else []).map fun k => (p.val, k))) ∧
    (up → replays (.replayRequest p ack) (q.unacked.filter fun g => psnBelow ack g.fseq) ∧ (q.unacked ≠ [] → replays (.replayTimeout p) q.unacked)) ∧
    (q.unacked = [] → same (.replayTimeout p)) ∧
    (up → down (.portFailure p) ∧ down (.retrain p) ∧
      ((∃ n ∈ q.fec, s.fld (RIDE_PORT_CTRL p) fldRIDE_PORT_CTRL_FECTHR < n) → down (.fecThreshold p ended)) ∧
      ((∀ n ∈ q.fec, n ≤ s.fld (RIDE_PORT_CTRL p) fldRIDE_PORT_CTRL_FECTHR) → ∃ t, exec (.fecThreshold p ended) s = .next t ∧ others t ∧
        port t = (if ended then { q with fec := [0, 0, 0, 0] } else q) ∧ t.regs = s.regs)) ∧
    (portState s p ≠ 1 → same (.trainingComplete p errs syms ok)) ∧
    (portState s p = 1 → ok = true → 4 ≤ (goodLanes lanes).length → ∃ t g, exec (.trainingComplete p errs syms ok) s = .next t ∧
      others t ∧ portState t p = 2 ∧ (port t).fails = 0 ∧ (port t).unacked = q.unacked ++ [g] ∧ g.type = 3 ∧ g.fseq = q.txNext ∧
      g.join = some (ownDevice s, p.val) ∧ ∃ sp : Fin 5, t.fld (RIDE_PORT_STATUS p) fldRIDE_PORT_STATUS_SPARE = sp.val ∧
        (port t).lanes = [0, 1, 2, 3, 4].erase sp.val ∧
        (∀ j : Fin 5, (t.reg (RIDE_PORT_STATUS p)).getLsbD (fldRIDE_PORT_STATUS_LANES.lo + j) = true ↔ good j) ∧
        ((∃ j : Fin 5, ¬ good j) → ¬ good sp) ∧
        ((∀ j : Fin 5, good j) → ∀ j : Fin 5, (lanes[j.val]?.map LaneErr.errs).getD 0 ≤ (lanes[sp.val]?.map LaneErr.errs).getD 0)) ∧
    (portState s p = 1 → (ok = false ∨ (goodLanes lanes).length < 4) →
      (q.fails < 2 → ∃ t, exec (.trainingComplete p errs syms ok) s = .next t ∧ others t ∧ portState t p = 1 ∧ (port t).fails = q.fails + 1 ∧
        t.reg (RIDE_PORT_RETRAIN p) = countWord (s.reg (RIDE_PORT_RETRAIN p)) 1) ∧
      (2 ≤ q.fails → s.fld WDN_BOOT fldWDN_BOOT_STEP ≠ 7 → ∃ t r, exec (.trainingComplete p errs syms ok) s = .next t ∧ others t ∧
        portState t p = 5 ∧ t.flt.log.getLast? = some r ∧ r.cls = 12 ∧ r.unit = p.val ∧ (4, p.val, 0) ∈ t.nv.retired)) ∧
    (portState s p ≠ 2 → same (.joinAccept p) ∧ same (.joinRefuse p)) ∧
    (portState s p = 2 → s.fld WDN_BOOT fldWDN_BOOT_STEP ≠ 7 →
      (∃ t, exec (.joinAccept p) s = .next t ∧ portState t p = 3 ∧ t.test RIDE_DEVICE fldRIDE_DEVICE_JOINED = true ∧
        (t.reg RIDE_EVENT).getLsbD 4 = true ∧ ∀ k ∈ s.ride.outbox, k.resp = true → leaves t k) ∧
      ∃ t, exec (.joinRefuse p) s = .next t ∧ others t ∧ portState t p = 6 ∧ (t.reg RIDE_EVENT).getLsbD 6 = true) ∧
    ∃ t, exec .resetQuietEnd s = .next t ∧ t.ride.quiet = false ∧ t.mem = s.mem ∧ ∀ k ∈ s.ride.outbox, k.resp = true → leaves t k

/-- Posting, dispatching, ending and cancelling tasks; the tick; sensor readings. A post word that R342 refuses takes no slot and sets ERRV and ERRCODE 1; one that finds every slot in use, or another post waiting, waits; every other takes a free slot and the next post number. Where one core takes tasks, no other task is READY and the task fits there, it is dispatched to it. DONE frees the core's slot, and changes nothing while BUSY is 0; FOR_CANCEL frees the READY slots it names and no other; the oldest waiting post takes a slot that has freed. A tick sets each allotment, credit (the excess over CAP shared among the quadrants below it) and predicted temperature, and drops no task; a sensor reading replaces its quadrant's temperature. No byte of memory changes. With no clock running but the Warden's, nothing of this happens. Which free slot is taken, and the roundings of charges, are free values (assumption 17). (R341, R342, R343, R344, R345, R346, R348, R349, R350, R351, Tables 13.1 and 13.2 of spec/13_dispatch_and_energy.md) -/
def Obligations.TasksAndTicks : Prop :=
  ∀ (s : State) (v : Word) (c : CoreId) (q : Fin 4) (x : Nat),
    let w := v.toNat
    let names := fun (t : State) => t.forr.tasks.map fun u => (u.post, u.word)
    let to1 := bitsOf w 46 41
    let refused := bitsOf w 50 47 = 0 ∨ (48 ≤ to1 ∧ to1 ≤ 62) ∨ (to1 < 48 ∧ bitOf (bitsOf w 50 47) (quadOf s to1) = false) ∨ bitsOf w 40 38 ≠ 0
    let room := s.forr.tasks.length < 1024
    (s.still = true → (∀ i ∈ [Instr.post v, .taskDone c, .cancel v, .postAccept, .foresterTick], exec i s = .next s) ∧
      ∃ t, exec (.sensorReading q x) s = .next t ∧ t.forr = s.forr ∧ (q.val, x) ∈ t.modu.sensors ∧ t.regs = s.regs ∧ t.mem = s.mem) ∧
    (s.still = false →
    (refused → ∃ t, exec (.post v) s = .next t ∧ t.forr = s.forr ∧ t.mem = s.mem ∧ t.cores = s.cores ∧ sameRegs s t [FOR_STATUS] ∧
      t.test FOR_STATUS fldFOR_STATUS_ERRV = true ∧ t.fld FOR_STATUS fldFOR_STATUS_ERRCODE = 1) ∧
    (¬refused → (¬room ∨ s.forr.waiting ≠ []) → ∃ t, exec (.post v) s = .next t ∧ t.mem = s.mem ∧ t.cores = s.cores ∧ t.regs = s.regs ∧
      t.forr = { s.forr with waiting := s.forr.waiting ++ [v] }) ∧
    (¬refused → room → s.forr.waiting = [] →
      ∃ t u, exec (.post v) s = .next t ∧ t.mem = s.mem ∧ names t = names s ++ [(s.forr.nextPost, w)] ∧
        t.forr.nextPost = (s.forr.nextPost + 1) % 2 ^ 64 ∧ u ∈ t.forr.tasks ∧ u.post = s.forr.nextPost ∧ u.word = w ∧ u.slot < 1024 ∧
        (∀ y ∈ s.forr.tasks, y.slot ≠ u.slot) ∧
        ((∀ y ∈ s.forr.tasks, y.core ≠ none) → (∀ d, takesTasks s d = true ↔ d = c) → bitOf (bitsOf w 50 47) (quadOf s c) = true →
          (to1 = 63 ∨ to1 = c.val) → fits s (bitsOf w 59 57) c = true →
          u.core = some c.val ∧ t.test (FOR_CORE c) fldFOR_CORE_BUSY = true ∧ t.fld (FOR_CORE c) fldFOR_CORE_SLOT = u.slot ∧
            t.fld (FOR_CORE c) fldFOR_CORE_DESC = bitsOf w 37 0 ∧ t.fld (RING_CORE_SUB c) fldRING_CORE_SUB_SUB = bitsOf w 56 51 ∧
            (s.fld (PWR_CORE c) fldPWR_CORE_STATE < 3 → (t.reg (CORE_IPEND c)).getLsbD 17 = true) ∧ t.reg FOR_DISPATCHES = countWord (s.reg FOR_DISPATCHES) 1 ∧
            ∀ d : CoreId, d ≠ c → t.reg (FOR_CORE d) = s.reg (FOR_CORE d) ∧ t.reg (RING_CORE_SUB d) = s.reg (RING_CORE_SUB d))) ∧
    (busy s c = false → exec (.taskDone c) s = .next s) ∧
    (busy s c = true → ∃ t, exec (.taskDone c) s = .next t ∧ t.mem = s.mem ∧
      names t = ((s.forr.tasks.filter fun u => u.core != some c.val).map fun u => (u.post, u.word)) ∧
      ((∀ y ∈ s.forr.tasks, y.core ≠ none) → busy t c = false ∧ sameRegs s t [FOR_CORE c] ∧ t.cores = s.cores ∧ t.pwr = s.pwr)) ∧
    (∃ t, exec (.cancel v) s = .next t ∧ t.mem = s.mem ∧ t.regs = s.regs ∧ t.cores = s.cores ∧ t.forr.waiting = s.forr.waiting ∧
      t.forr.tasks = s.forr.tasks.filter (fun u => u.core.isSome || (bitOf w 63 && decide (bitsOf u.word 56 51 ≠ w % 64)))) ∧
    ((s.forr.waiting = [] ∨ ¬room) → exec .postAccept s = .next s) ∧
    (∀ p ps, s.forr.waiting = p :: ps → room → ∃ t, exec .postAccept s = .next t ∧ t.mem = s.mem ∧ t.forr.waiting = ps ∧
      names t = names s ++ [(s.forr.nextPost, p.toNat)]) ∧
    (∃ t, exec (.sensorReading q x) s = .next t ∧ t.regs = s.regs ∧ t.mem = s.mem ∧ t.cores = s.cores ∧ names t = names s ∧
      t.forr.credit = s.forr.credit ∧ (q.val, x) ∈ t.modu.sensors ∧ ∀ r : Fin 4, t.forr.temp.get r = if r = q then (x : Rat) else s.forr.temp.get r) ∧
    ∃ t, exec .foresterTick s = .next t ∧ t.mem = s.mem ∧ names t = names s ∧ t.forr.waiting = s.forr.waiting ∧
      let uncore := s.fld FOR_CFG fldFOR_CFG_UNCORE
      let a := 4 * (s.fld FOR_BUDGET fldFOR_BUDGET_WATTS - uncore)
      let cap := 16 * s.fld FOR_CREDIT_CFG fldFOR_CREDIT_CFG_CAP
      let raw := fun r : Fin 4 => s.forr.credit.get r + a - draw s r
      let excess := ((List.finRange 4).map fun r => raw r - cap).sum
      let below := (List.finRange 4).countP fun r => decide (raw r < cap)
      ∀ r : Fin 4, t.fld (FOR_Q r) fldFOR_Q_ALLOT = a ∧ (cap ≤ raw r → t.forr.credit.get r = cap) ∧
        (raw r < cap → t.forr.credit.get r = min cap (raw r + excess / below)) ∧
        t.forr.temp.get r = s.forr.temp.get r + ((s.fld FOR_INLET fldFOR_INLET_TEMP : Nat) +
          Config.rth r.val * ((draw s r + 4 * uncore : Nat) : Rat) - s.forr.temp.get r) / Config.tau r.val)

/-- Clock caps, HEAT_IN_N, Hold, and the periodic activities. An adjustment lowers a quadrant's cap, raises it or leaves it as R353 says; an episode that starts sets THROTTLE and raises THERMAL on the quadrant's task-running cores, whose clocks are asked for anew. HEAT_IN_N sets HEAT, raises THERMAL on every core that is up and caps every clock at FMAX; its release lifts that. An idle core enters Hold and is counted; one in Hold wakes, with the source of Table 14.6, for an interrupt that is enabled and has become pending since or a MACHINE_CHECK of its own, a met BWAIT or a stop request, and for nothing else. A write of FOR_ACT keeps MAXDEFER and PERIOD where it writes 0, and with EN starts the schedule; an instance that runs keeps its nominal end. One that falls due runs, is deferred during catch-up, or runs merged with its schedule restarted; before it is due nothing happens. One that ends records its lag against its nominal end, by R358. With no clock running but the Warden's, nothing of this happens, save that HEAT_IN_N is followed. (R353, R354, R355, R356, R357, R358, R359, Table 13.4 of spec/13_dispatch_and_energy.md, Table 13.19 of spec/13_dispatch_and_energy.md, Table 14.6 of spec/14_power_clocks_ageing.md) -/
def Obligations.ThrottlingHoldAndActivities : Prop :=
  ∀ (s : State) (c : CoreId) (k : Fin 4) (v : Word) (mon : List MonRead),
    let now := refTime s
    let a := s.forr.acts.get k
    let actAs := fun (t : State) (b : ForActSt) => t.forr.acts.get k = b ∧ ∀ j, j ≠ k → t.forr.acts.get j = s.forr.acts.get j
    let raised := fun (t : State) (d : CoreId) => s.fld (PWR_CORE d) fldPWR_CORE_STATE < 3 → (t.reg (CORE_IPEND d)).getLsbD 24 = true
    let cap := fun (t : State) (d : CoreId) => min (t.fld (FOR_QT (quadOf s d)) fldFOR_QT_FCAP) 24
    let fmax := s.fld FOR_THERM fldFOR_THERM_FMAX
    (s.still = true →
      (∀ i ∈ [Instr.fcapAdjust, .holdEntry c, .holdWake c, .forActWrite k v, .activityStart k, .activityEnd k mon], exec i s = .next s) ∧
      (s.pwr.heatIn = true → exec .heatInRelease s = .next { s with pwr := { s.pwr with heatIn := false } }) ∧
      (s.pwr.heatIn = false → exec .heatInAssert s = .next { s with pwr := { s.pwr with heatIn := true } })) ∧
    (s.pwr.heatIn = true → exec .heatInAssert s = .next s) ∧ (s.pwr.heatIn = false → exec .heatInRelease s = .next s) ∧
    (s.still = false →
    (∃ t, exec .fcapAdjust s = .next t ∧ t.mem = s.mem ∧ t.forr = s.forr ∧ ∀ q : Fin 4,
      let f := s.fld (FOR_QT q) fldFOR_QT_FCAP
      let g := t.fld (FOR_QT q) fldFOR_QT_FCAP
      let lim : Rat := ((s.fld FOR_THERM fldFOR_THERM_TLIM : Nat) : Rat)
      let hot := (s.forr.credit.get q = 0 ∧ s.fld (FOR_Q q) fldFOR_Q_ALLOT < draw s q) ∨ lim < s.forr.temp.get q
      let cool := 16 * s.fld FOR_CREDIT_CFG fldFOR_CREDIT_CFG_CAP ≤ 2 * s.forr.credit.get q ∧ s.forr.temp.get q ≤ lim - 32
      (hot → g = max 6 (f - 1)) ∧ (¬hot → cool → g = min 24 (f + 1)) ∧ (¬hot → ¬cool → g = f) ∧
      (f = 24 → g < 24 → t.test (FOR_QT q) fldFOR_QT_THROTTLE = true ∧ ∀ d : CoreId, busy s d = true → quadOf s d = q.val → raised t d) ∧
      (g = 24 → t.test (FOR_QT q) fldFOR_QT_THROTTLE = false) ∧
      ∀ d : CoreId, busy s d = true → quadOf s d = q.val →
        t.pwr.given.get d = if s.test FOR_THERM fldFOR_THERM_HEAT then min (cap t d) fmax else cap t d) ∧
    (s.pwr.heatIn = true → ∃ t, exec .heatInRelease s = .next t ∧ t.pwr.heatIn = false ∧
      t.test FOR_THERM fldFOR_THERM_HEAT = false ∧ t.mem = s.mem ∧ t.forr = s.forr ∧ t.cores = s.cores ∧
      ∀ d : CoreId, t.pwr.given.get d = cap s d) ∧
    (s.pwr.heatIn = false → ∃ t, exec .heatInAssert s = .next t ∧ t.pwr.heatIn = true ∧
      t.test FOR_THERM fldFOR_THERM_HEAT = true ∧ t.mem = s.mem ∧ t.forr = s.forr ∧
      ∀ d : CoreId, raised t d ∧ t.pwr.given.get d = min (cap s d) fmax) ∧
    (¬(coreIdle s c = true ∧ inHold s c = false) → exec (.holdEntry c) s = .next s) ∧
    (coreIdle s c = true → inHold s c = false → ∃ t, exec (.holdEntry c) s = .next t ∧
      inHold t c = true ∧ (t.core c).held = enabledPending s c ∧ t.reg FOR_HOLDS = countWord (s.reg FOR_HOLDS) 1 ∧ t.mem = s.mem ∧
      (counts s FOR_HOLDS 1 → sameRegs s t [FOR_CORE c, FOR_HOLDS] ∧
        ∀ d, t.core d = if d = c then { s.core c with held := enabledPending s c } else s.core d)) ∧
    (let called := enabledPending s c &&& ~~~ (s.core c).held ≠ 0 ∨ (s.core c).mcDue ≠ []
     let met := ∃ rd b th run id y, (s.core c).wait = .bwait rd b th run id (some y)
     let stop := (s.core c).stopReq ≠ 0
     (¬(inHold s c = true ∧ (called ∨ met ∨ stop)) → exec (.holdWake c) s = .next s) ∧
     (inHold s c = true → (called ∨ met ∨ stop) → ∃ t, exec (.holdWake c) s = .next t ∧ inHold t c = false ∧
       (called → t.fld (PWR_CORE c) fldPWR_CORE_WSRC = 8) ∧ (¬called → met → t.fld (PWR_CORE c) fldPWR_CORE_WSRC = 9) ∧
       (¬called → ¬met → t.fld (PWR_CORE c) fldPWR_CORE_WSRC = 10) ∧
       sameRegs s t [FOR_CORE c, PWR_CORE c] ∧ t.mem = s.mem ∧ ∀ d, t.core d =
         if d = c ∧ (s.core c).wait = .wfi ∧ enabledPending s c ≠ 0 then { s.core c with wait := .running, pc := (s.core c).pc + 4 }
         else s.core d)) ∧
    (∃ t, exec (.forActWrite k v) s = .next t ∧ sameRegs s t [FOR_ACT k] ∧ t.mem = s.mem ∧ t.cores = s.cores ∧
      (let f := fun (g : Fld) => t.fld (FOR_ACT k) g = if g.get v = 0 then s.fld (FOR_ACT k) g else g.get v
       f fldFOR_ACT_MAXDEFER ∧ f fldFOR_ACT_PERIOD) ∧ t.fld (FOR_ACT k) fldFOR_ACT_EN = fldFOR_ACT_EN.get v ∧
      t.fld (FOR_ACT k) fldFOR_ACT_DEFER = s.fld (FOR_ACT k) fldFOR_ACT_DEFER ∧
      actAs t (if bitOf v.toNat 63 then { a with nominal := now, due := now } else a)) ∧
    (let en := s.test (FOR_ACT k) fldFOR_ACT_EN
     let put := s.test FOR_STATUS fldFOR_STATUS_CATCHUP = true ∧ s.test (FOR_ACT k) fldFOR_ACT_DEFER = true
     let d := s.fld (FOR_ACT_STATE k) fldFOR_ACT_STATE_DEFERRED
     let falls := en = true ∧ a.running = false ∧ (a.due ≤ now ∨ (d ≠ 0 ∧ ¬put))
     let md := s.fld (FOR_ACT k) fldFOR_ACT_MAXDEFER
     let p := 1000 * s.fld (FOR_ACT k) fldFOR_ACT_PERIOD
     let e := (if put ∨ d ≠ 0 then now else a.nominal) + p
     (¬falls → exec (.activityStart k) s = .next s) ∧
     (falls → put → d + 1 < md → ∃ t, exec (.activityStart k) s = .next t ∧ t.mem = s.mem ∧
       t.fld (FOR_ACT_STATE k) fldFOR_ACT_STATE_DEFERRED = d + 1 ∧ t.reg FOR_DEFERS = countWord (s.reg FOR_DEFERS) 1 ∧
       actAs t { a with nominal := a.nominal + p, due := a.due + p }) ∧
     (falls → (put → md ≤ d + 1) → ∃ t, exec (.activityStart k) s = .next t ∧ t.mem = s.mem ∧
       t.fld (FOR_ACT_STATE k) fldFOR_ACT_STATE_DEFERRED = 0 ∧ (put → t.reg FOR_DEFERS = countWord (s.reg FOR_DEFERS) 1) ∧
       actAs t { a with running := true, start := now, nominal := e, ends := e, due := max (now + p * 3 / 4) e,
                        ring0 := s.ring.highest, opened0 := s.ring.opened } ∧
       (k = 0 → postRefused s (s.reg FOR_CAD_POST).toNat = false →
         t.forr.tasks.length + t.forr.waiting.length = s.forr.tasks.length + s.forr.waiting.length + 1) ∧
       (k = 2 → t.wdn.telemTime = now) ∧ (k = 3 → t.test AGE_STATUS fldAGE_STATUS_BUSY = true))) ∧
    (let open1 := k = 0 ∧ s.ring.opened - a.opened0 ≤ openedSince s a.ring0
     let lag := now - a.ends
     ((a.running = false ∨ open1) → exec (.activityEnd k mon) s = .next s) ∧
     (a.running = true → ¬open1 → ∃ t, exec (.activityEnd k mon) s = .next t ∧ (k ≠ 1 → t.mem = s.mem) ∧
       actAs t { a with running := false, due := max now a.due } ∧
       t.fld (FOR_ACT_STATE k) fldFOR_ACT_STATE_LAG = min (2 ^ 32 - 1) (showIn lag 1000) ∧
       (lag ≠ 0 → t.reg FOR_LATE = countWord (s.reg FOR_LATE) 1) ∧ (lag = 0 → t.reg FOR_LATE = s.reg FOR_LATE) ∧
       t.test FOR_STATUS fldFOR_STATUS_CATCHUP = (if k = 0 then lag != 0 else s.test FOR_STATUS fldFOR_STATUS_CATCHUP) ∧
       (k = 3 → t.test AGE_STATUS fldAGE_STATUS_BUSY = false))))

/-- AVSBus frames, rails and clocks; Rest of cores; the thermal trip; the margin planner. A frame is counted and carries the response of the one before: a write not acknowledged is sent again three times at most; a Status read is repeated until it shows VDone, which lets the rail's acknowledgement make its target stand. The change in service then lets its clocks step, or sends the raise that its need asks for; with none in service the rail follows its need. A timeout sends the frames again once, then fails the rail with a record, abandons a raise, and locks it after four failed raises. A core's clock moves one step toward the point that the change in service gives it, as far as a lock allows, and rises only once that change is ready. Calibrations are counted. Rest takes a whole group or none; a domain goes down once its channels have drained, and a core that leaves Rest is reset. A reading of 115 °C trips the device, and a lower one does not. Monitors are read, and planned: the voltage of an island at each clock is its baseline, its delta and the guard. Nothing of this happens in reset. The baselines, sensitivities and how many oscillators there are rest on assumptions of the log. (R364, R367, R372, R374, R375, R376, R377, R378, R380, R381, R384, Table 14.2 of spec/14_power_clocks_ageing.md) -/
def Obligations.PowerRailsAndAgeing : Prop :=
  ∀ (s : State) (c : CoreId) (k : Fin 5) (m : Fin 2) (q : Fin 4) (x : Nat) (ok vdone : Bool) (mon : List MonRead),
    let r := s.pwr.rails.get k
    let rail := fun (t : State) => t.pwr.rails.get k
    let a := s.pwr.avs.get m
    let tgt := s.fld (PWR_RAIL k) fldPWR_RAIL_TARGET
    let sends := fun (t : State) (mv : Nat) => (t.pwr.avs.get (railMaster k)).queue = (s.pwr.avs.get (railMaster k)).queue ++
      [{ rail := k.val, cmd := .target mv }, { rail := k.val, cmd := .status }]
    (s.modu.poresetLow = true → ∀ i ∈ [Instr.avsFrame m ok vdone, .railAck k, .avsTimeout k, .clockStep c, .oscCalibration, .coreRest c,
      .coreRestWake c, .thermalTrip q x, .ageMeasure mon, .agePlan, .agePlanPeriod], exec i s = .next s) ∧
    (s.still = true → ∀ i ∈ [Instr.clockStep c, .oscCalibration, .coreRest c, .coreRestWake c, .ageMeasure mon], exec i s = .next s) ∧
    (s.modu.poresetLow = false →
    (∃ t, exec (.avsFrame m ok vdone) s = .next t ∧ t.mem = s.mem ∧ t.reg PWR_AVS_FRAMES = countWord (s.reg PWR_AVS_FRAMES) 1 ∧
      let b := t.pwr.avs.get m
      let goesOn := b.prev = a.queue.head? ∧ b.queue = a.queue.drop 1
      (a.prev = none → goesOn ∧ t.pwr.rails = s.pwr.rails) ∧
      ∀ f, a.prev = some f → f.rail < 5 → railMaster f.rail = m → wtOn s = false →
        (ok = false → a.tries < 3 → b = { prev := some f, queue := a.queue, tries := a.tries + 1 } ∧ t.pwr.rails = s.pwr.rails ∧
          t.reg PWR_AVS_RETRY = countWord (s.reg PWR_AVS_RETRY) 1) ∧
        (ok = false → 3 ≤ a.tries → goesOn ∧ b.tries = 0 ∧ t.pwr.rails = s.pwr.rails) ∧
        (ok = true → (f.cmd ≠ .status ∨ (railOf s f.rail).await = false) → goesOn ∧ b.tries = 0 ∧ t.pwr.rails = s.pwr.rails) ∧
        (ok = true → f.cmd = .status → (railOf s f.rail).await = true → b.tries = 0 ∧
          (vdone = true → goesOn ∧ railOf t f.rail = { railOf s f.rail with vdone := true }) ∧
          (vdone = false → t.pwr.rails = s.pwr.rails ∧ b.prev.toList ++ b.queue = a.queue ++ [f]))) ∧
    (¬(r.await = true ∧ r.vdone = true) → exec (.railAck k) s = .next s) ∧
    (r.await = true → r.vdone = true → ∃ t, exec (.railAck k) s = .next t ∧ t.mem = s.mem ∧ t.cores = s.cores ∧ sameRegs s t [PWR_RAIL k] ∧
      let need := railNeed s k
      let idle := (rail t).await = false ∧ t.pwr.avs = s.pwr.avs ∧ t.fld (PWR_RAIL k) fldPWR_RAIL_TARGET = tgt
      let asks := (rail t).await = true ∧ (rail t).isRaise = decide (tgt < need) ∧ sends t need ∧
        t.fld (PWR_RAIL k) fldPWR_RAIL_TARGET = need
      t.fld (PWR_RAIL k) fldPWR_RAIL_NOW = tgt ∧ t.fld (PWR_RAIL k) fldPWR_RAIL_NEED = railNeed t k ∧
      (rail t).fails = (if r.isRaise then 0 else r.fails) ∧ (rail t).caps = r.caps ∧
      (r.jobs = [] → (rail t).jobs = [] ∧ (need = tgt → idle) ∧ (need ≠ tgt → asks)) ∧
      ∀ j rest, r.jobs = j :: rest → j.ready = false → jobDone s j = false →
        (j.isRaise = true ∧ j.sent = false ∧ tgt < need → asks ∧ (rail t).jobs = { j with sent := true } :: rest) ∧
        (¬(j.isRaise = true ∧ j.sent = false ∧ tgt < need) →
          idle ∧ (rail t).jobs = { j with sent := true, ready := true } :: rest)) ∧
    (r.await = false → exec (.avsTimeout k) s = .next s) ∧
    (r.await = true → ∃ t, exec (.avsTimeout k) s = .next t ∧ t.mem = s.mem ∧
      t.reg PWR_AVS_TIMEOUT = countWord (s.reg PWR_AVS_TIMEOUT) 1 ∧
      let n := if r.isRaise then r.fails + 1 else r.fails
      let lock := r.isRaise = true ∧ 4 ≤ n
      let left := match r.jobs with
        | j :: rest => if r.isRaise = true ∧ j.isRaise = true ∧ j.sent = true ∧ j.ready = false then rest else r.jobs
        | [] => []
      (r.timeouts = 0 → rail t = { r with timeouts := 1, vdone := false } ∧ sends t tgt ∧ t.fld (PWR_RAIL k) fldPWR_RAIL_TARGET = tgt) ∧
      (r.timeouts ≠ 0 → bitOf (t.fld PWR_AVS_STATUS fldPWR_AVS_STATUS_FAIL) k = true ∧ (rail t).fails = n ∧
        (left = [] → (rail t).await = false ∧ (rail t).jobs = [] ∧ t.pwr.avs = s.pwr.avs ∧ t.fld (PWR_RAIL k) fldPWR_RAIL_TARGET = tgt) ∧
        (∀ j rest, left = j :: rest → j.isRaise = false → j.ready = false → jobDone t j = false →
          (rail t).await = false ∧ (rail t).jobs = { j with sent := true, ready := true } :: rest) ∧
        (lock → bitOf (t.fld PWR_AVS_STATUS fldPWR_AVS_STATUS_LOCK) k = true ∧
          ∀ d : CoreId, (quadOf s d = k.val ∨ k = 4) → (d.val, coreFreq s d) ∈ (rail t).caps) ∧
        (¬lock → t.fld PWR_AVS_STATUS fldPWR_AVS_STATUS_LOCK = s.fld PWR_AVS_STATUS fldPWR_AVS_STATUS_LOCK ∧ (rail t).caps = r.caps) ∧
        ∃ e, t.flt.log.getLast? = some e ∧ e.cls = 14 ∧ e.sev = 1 ∧ e.unit = k.val ∧ e.addr = tgt ∧ e.arg = 2 ∧ (lock ↔ e.sub = 1))) ∧
    (s.still = false →
    (let f := coreFreq s c
     let quad := quadOf s c
     let front := (railOf s quad).jobs.head?
     let moves := fun (g f' : Nat) => ∃ t, exec (.clockStep c) s = .next t ∧ t.mem = s.mem ∧ coreFreq t c = f' ∧
       t.fld (PWR_CORE c) fldPWR_CORE_VNEED = vtab s c f' ∧ (∀ d : CoreId, d ≠ c → t.reg (PWR_CORE d) = s.reg (PWR_CORE d)) ∧
       (f' = g → t.reg PWR_VF_CHANGES = countWord (s.reg PWR_VF_CHANGES) 1 ∧ t.reg PWR_OSC_CAL = countWord (s.reg PWR_OSC_CAL) 1 ∧
         t.fld (PWR_RAIL quad) fldPWR_RAIL_NEED = railNeed t quad) ∧
       (f' ≠ g → sameRegs s t [PWR_CORE c] ∧ t.pwr = s.pwr)
     ((∀ j, front = some j → j.ready = true → ∀ e ∈ j.cores, e.1 ≠ c.val) → exec (.clockStep c) s = .next s) ∧
     ∀ j e, front = some j → j.ready = true → j.cores.find? (fun e => e.1 == c.val) = some e →
       let g := min e.2 (lockCap s c)
       (g = f ∨ (g < f ∧ j.isRaise = true) → exec (.clockStep c) s = .next s) ∧ (g < f → j.isRaise = false → moves g (f - 1)) ∧
         (f < g → moves g (f + 1))) ∧
    (∃ t, exec .oscCalibration s = .next t ∧ t.reg PWR_OSC_CAL = countWord (s.reg PWR_OSC_CAL) (oscillators s) ∧ t.mem = s.mem ∧
      sameRegs s t [PWR_OSC_CAL, CORE_IPEND 0]) ∧
    (let mine := fun d : CoreId => s.pwr.restGroup.get d = s.pwr.restGroup.get c
     let state := fun (t : State) (d : CoreId) => t.fld (PWR_CORE d) fldPWR_CORE_STATE
     let may := ∀ d, mine d → isStopped s d = true ∧ s.test (FOR_CORE d) fldFOR_CORE_EN = false ∧ coreDomain s d ≠ 4
     (¬may → exec (.coreRest c) s = .next s) ∧
     (may → (∀ d, mine d → (s.core d).mbuf = []) → ∃ t, exec (.coreRest c) s = .next t ∧ t.mem = s.mem ∧ t.cores = s.cores ∧
       (∀ d, mine d → t.test (PWR_CORE d) fldPWR_CORE_REST = true ∧
         state t d = if missInUse s d = 0 ∧ storesWait s d = false ∧ state s d < 3 then 3 else state s d) ∧
       ∀ d, ¬mine d → t.reg (PWR_CORE d) = s.reg (PWR_CORE d)) ∧
     ∃ t, exec (.coreRestWake c) s = .next t ∧ t.mem = s.mem ∧ ∀ d,
       if mine d ∧ state s d = 3 then
         state t d = 0 ∧ t.test (PWR_CORE d) fldPWR_CORE_REST = false ∧ t.fld (PWR_CORE d) fldPWR_CORE_WSRC = 11 ∧
           isStopped t d = true ∧ t.core d = { CoreSt.reset with sealKey := (s.core d).sealKey }
       else t.core d = s.core d ∧ state t d = state s d ∧
         t.test (PWR_CORE d) fldPWR_CORE_REST = (if mine d then false else s.test (PWR_CORE d) fldPWR_CORE_REST))) ∧
    (x < 1840 → exec (.thermalTrip q x) s = .next s) ∧
    (1840 ≤ x → ∃ t, exec (.thermalTrip q x) s = .next t ∧ t.pwr.thermtrip = true ∧ t.pwr.trip = some (q.val, x) ∧ t.wdn.launch = none ∧
      t.ll = [] ∧ t.test CAN_STATUS fldCAN_STATUS_PENDING = false ∧ t.test PWR_STATE fldPWR_STATE_TRIPPED = true ∧
      sameRegs s t [PWR_STATE, CAN_STATUS] ∧ t.mem = s.mem ∧ t.cores = s.cores) ∧
    (s.still = false →
     let reads := fun (t : State) => t.mem = s.mem ∧ ∀ (d : CoreId) (i : Fin 8), t.fld (AGE_MON d i) fldAGE_MON_READING =
       match mon.reverse.find? fun e => e.core == d && e.mon == i with
       | some e => e.value % 2 ^ 32
       | none => s.fld (AGE_MON d i) fldAGE_MON_READING
     (s.wdn.measuring = false → ageBusy s = true → exec (.ageMeasure mon) s = .next s) ∧
     (s.wdn.measuring = true → ∃ t, exec (.ageMeasure mon) s = .next t ∧ reads t ∧ t.wdn.measuring = false ∧ ageBusy t = false) ∧
     (s.wdn.measuring = false → ageBusy s = false → ∃ t, exec (.ageMeasure mon) s = .next t ∧ reads t ∧ ageBusy t = false)) ∧
    let hours := s.fld AGE_HOURS fldAGE_HOURS_HOURS
    let due := s.fld AGE_HOURS fldAGE_HOURS_LASTPLAN + s.fld AGE_CFG fldAGE_CFG_PERIOD
    let plans := fun (i : Instr) (h : Nat) => ∃ t, exec i s = .next t ∧ t.nv.planned = true ∧ t.mem = s.mem ∧
      t.test AGE_STATUS fldAGE_STATUS_BASE = !s.nv.planned ∧
      t.fld AGE_STATUS fldAGE_STATUS_PLANS = min (2 ^ 32 - 1) (s.fld AGE_STATUS fldAGE_STATUS_PLANS + 1) ∧
      t.fld AGE_HOURS fldAGE_HOURS_HOURS = h ∧ t.fld AGE_HOURS fldAGE_HOURS_LASTPLAN = h ∧ t.nv.lastPlan = h ∧
      ((∀ d e : CoreId, physOf s d = physOf s e → d = e) → ∀ d : CoreId,
        let p := physOf s d
        let delta := if s.nv.planned then max (mapGet (fun _ => 0) s.nv.delta p) (roundup5 (max (drep s d) (dro s d))) else 0
        mapGet (fun _ => 0) t.nv.delta p = delta ∧
          ∀ f, 6 ≤ f → f ≤ 24 → vtab t d f = (Config.vb p f + delta + s.fld AGE_CFG fldAGE_CFG_GUARD) % 2 ^ 16)
    (ageBusy s = true → exec .agePlan s = .next s) ∧ (ageBusy s = false → plans .agePlan hours) ∧
      (due < 2 ^ 32 → plans .agePlanPeriod (max hours due)))

/-- The resets, boots that find no image, and the states Rest and Off. After PORESET_N the device boots from its reset state: rings, memory, engines, fabric and Forester stand at their reset values, and with no readable flash it ends in recovery mode with step 1 failed and every core stopped. Its store and flash are kept in every boot. PORESET_N held, or VDD_AON removed, leaves it in reset. WARMRST_N has no effect in reset or after a trip; it otherwise writes code 2 to PWR_WAKE_LAST and, where no ring is undecided, keeps stacked memory, page kinds and the fault log. Once its channels have drained, ENTER_REST becomes REST with every domain down, dirty lines written back and bank memory kept; OFF loses what is not the Warden's. An enabled wake source leaves ENTER_REST with the cores in service released, REST for WAKING and OFF for a boot, and is recorded; no other has an effect. A wake completes once the ports have settled. After a trip nothing but PORESET_N and VDD_AON has an effect. After PORESET_N each rail's transition rate is queued. (R230, R283, R367, R369, R370, R371, R372, R391, R398, R436, R437, Tables 14.5 and 14.6 of spec/14_power_clocks_ageing.md) -/
def Obligations.ResetsAndDeviceStates : Prop :=
  ∀ (s : State) (b : BootIn) (src : Fin 16),
    let blind := b.sfdpA = false ∧ b.sfdpB = false
    let dark := fun (t : State) => ∀ c : CoreId, isStopped t c = true ∧ t.core c = { CoreSt.reset with sealKey := (t.core c).sealKey }
    let keeps := fun (t : State) => t.modu.flash = s.modu.flash ∧ t.nv.floor = s.nv.floor ∧ t.nv.okey = s.nv.okey
    let z := State.reset
    let fresh := fun (t : State) => t.mem = { z.mem with epoch := s.mem.epoch + 1 } ∧ t.ring = z.ring ∧ t.xfer = z.xfer ∧ t.ride = z.ride ∧
      t.forr = z.forr ∧ t.nv = s.nv ∧ dark t
    let lost := fun (t : State) => t.test WDN_BOOT fldWDN_BOOT_RECOVERY = true ∧ t.fld WDN_BOOT fldWDN_BOOT_STEP = 1 ∧
      t.fld WDN_BOOT fldWDN_BOOT_FAILSTEP = 1 ∧ t.fld WDN_BOOT fldWDN_BOOT_FCODE = 20
    let wake := fun (t : State) (code : Nat) => t.fld PWR_WAKE_LAST fldPWR_WAKE_LAST_SOURCE = code ∧
      t.fld PWR_WAKE_LAST fldPWR_WAKE_LAST_FROM = devState s ∧ t.fld PWR_WAKE_LAST fldPWR_WAKE_LAST_STAMP = refTime s % 2 ^ 48
    let byte := fun (m : Mem) (a : Nat) => (mapFind m.dirty a).getD (mapGet (fun _ => 0) m.stk a)
    (∃ t, exec (.poreset b) s = .next t ∧ keeps t ∧ t.modu.poresetLow = false ∧ t.modu.smbAddr = 0x48 + b.straps % 4 ∧
      t.pwr.thermtrip = false ∧ t.wdn.mbox = [] ∧ t.reg RING_VISIBLE = 0 ∧ (blind → fresh t ∧ lost t ∧ ∀ j, j < 5 →
        { rail := j, cmd := .rate (z.fld PWR_AVS_CFG fldPWR_AVS_CFG_SLEW) } ∈ (t.pwr.avs.get (railMaster j)).queue)) ∧
    (∃ t, exec .poresetNAssert s = .next t ∧ keeps t ∧ t.modu.poresetLow = true ∧ fresh t ∧ t.pwr.thermtrip = s.pwr.thermtrip ∧
      t.pwr.heatIn = s.pwr.heatIn ∧ t.test PWR_STATE fldPWR_STATE_TRIPPED = s.test PWR_STATE fldPWR_STATE_TRIPPED) ∧
    (∃ t, exec .vddAonRemoval s = .next t ∧ keeps t ∧ t.modu.poresetLow = true ∧ fresh t ∧ t.pwr = z.pwr ∧ t.flt.log = [] ∧
      t.test PWR_STATE fldPWR_STATE_TRIPPED = false) ∧
    ((s.modu.poresetLow = true ∨ s.pwr.thermtrip = true) → exec (.warmrst b) s = .next s) ∧
    (s.modu.poresetLow = false → s.pwr.thermtrip = false → ∃ t, exec (.warmrst b) s = .next t ∧ keeps t ∧ t.wdn.mbox = [] ∧ wake t 2 ∧
      (blind → Canonical s → (newerState s = 0 ∨ newerState s = 5) → (olderState s = 0 ∨ olderState s = 5) →
        lost t ∧ dark t ∧ t.nv = s.nv ∧ t.xfer = z.xfer ∧ t.forr = z.forr ∧ t.flt.log = s.flt.log ∧ refTime t = refTime s ∧
        t.reg RING_VISIBLE = s.reg RING_VISIBLE ∧ t.mem.pte = s.mem.pte ∧ t.mem.exacc = s.mem.exacc ∧ t.mem.arr = s.mem.arr ∧
        t.mem.dirty = [] ∧ ∀ a, byte t.mem a = byte s.mem a)) ∧
    ((s.pwr.thermtrip = true ∨ channelsDrained s = false ∨ (devState s ≠ 1 ∧ devState s ≠ 4)) → exec .domainPowerDownDone s = .next s) ∧
    (let gone := s.pwr.thermtrip = false ∧ channelsDrained s = true
    (gone → devState s = 1 → Canonical s → ∃ t, exec .domainPowerDownDone s = .next t ∧ devState t = 2 ∧ keeps t ∧
      t.fld PWR_STATE fldPWR_STATE_DOMON = 0 ∧ (∀ c : CoreId, t.fld (PWR_CORE c) fldPWR_CORE_STATE = 3) ∧ t.mem.bank = s.mem.bank ∧
      t.mem.arr = s.mem.arr ∧ t.mem.dirty = [] ∧ (∀ a, byte t.mem a = byte s.mem a) ∧ t.ring = s.ring ∧ t.xfer = z.xfer ∧ t.forr = z.forr) ∧
    (gone → devState s = 4 → ∃ t, exec .domainPowerDownDone s = .next t ∧ devState t = 4 ∧ keeps t ∧ t.fld PWR_STATE fldPWR_STATE_DOMON = 0 ∧
      (∀ c : CoreId, t.fld (PWR_CORE c) fldPWR_CORE_STATE = 4) ∧ t.mem = { z.mem with epoch := s.mem.epoch + 1 } ∧ t.cores = z.cores ∧
      t.ring.log = s.ring.log ∧ t.ring.highest = s.ring.highest ∧ t.reg RING_NEXT = s.reg RING_NEXT ∧ t.flt = s.flt)) ∧
    ((s.modu.poresetLow = true ∨ s.pwr.thermtrip = true ∨ wakeEnabled s src = false ∨ ¬(devState s = 1 ∨ devState s = 2 ∨ devState s = 4)) → exec (.deviceWake src b) s = .next s) ∧
    (s.modu.poresetLow = false → s.pwr.thermtrip = false → wakeEnabled s src = true →
      (devState s = 1 → ∃ t, exec (.deviceWake src b) s = .next t ∧ devState t = 0 ∧ wake t src ∧ keeps t ∧ released s t) ∧
      (devState s = 2 → ∃ t, exec (.deviceWake src b) s = .next t ∧ devState t = 3 ∧ wake t src ∧ keeps t ∧ t.mem = s.mem ∧
        t.ring = s.ring ∧ t.reg (CORE_REFTIME 0) = s.reg (CORE_REFTIME 0) + BitVec.ofNat 64 b.elapsed ∧
        ∀ c : CoreId, t.fld (PWR_CORE c) fldPWR_CORE_STATE = 0 ∧ isStopped t c = true) ∧
      (devState s = 4 → ∃ t, exec (.deviceWake src b) s = .next t ∧ devState t = 5 ∧ wake t src ∧ keeps t ∧
        (blind → t.test WDN_BOOT fldWDN_BOOT_RECOVERY = true ∧ t.flt.log = s.flt.log))) ∧
    (let step := s.fld WDN_BOOT fldWDN_BOOT_STEP
     ((portsSettled s = false ∨ s.pwr.thermtrip = true ∨ ¬(devState s = 3 ∨ (devState s = 5 ∧ step = 7))) → exec .wakeComplete s = .next s) ∧
     (portsSettled s = true → s.pwr.thermtrip = false → devState s = 3 → ∃ t, exec .wakeComplete s = .next t ∧ devState t = 0 ∧ keeps t ∧ released s t) ∧
     (portsSettled s = true → s.pwr.thermtrip = false → devState s = 5 → step = 7 → ∃ t, exec .wakeComplete s = .next t ∧ devState t = 0 ∧ t.mem = s.mem ∧
       t.cores = s.cores ∧ t.fld WDN_BOOT fldWDN_BOOT_STEP = 8 ∧ t.fld WDN_BOOT fldWDN_BOOT_READY_MS = min (refTime s / 100000) (2 ^ 32 - 1)))

/-- What the Warden answers: INFO, QUOTE, CERT, flash, ageing, limits, enrolment, floor, faults, SERVICE, telemetry. Where the Warden serves no mailbox, or no request waits, these commands change nothing. A request at the head that is served leaves the queue, counts as served, and its sender has the status and the output: a QUOTE holds the nonce, the measurements and the serials; CERT refuses an index above 1; FLASH_READ and FLASH_WRITE read and write the chip's bytes, and refuse what lies beyond it and, without FORCE, the chip booted from; ENROLL sets OKEY once; FLOOR_RAISE raises the floor to the running SVN; FAULT_READ gives the records from a SEQ on; SERVICE places an entry unless the queue is full. Where ARGS and outputs lie whose layout the spec does not give are free values (assumption 19), as is the device's signature. (R393, R398, R399, R405, R406, R407, R409, R417, R386, Table 15.6 of spec/15_boot_and_canopy.md, Tables 15.12, 15.14 and 15.16 of spec/15_boot_and_canopy.md) -/
def Obligations.MailboxAnswers : Prop :=
  ∀ (s : State) (r : Req),
    let u := readDone s r.src
    let answers := fun (i : Instr) (cmd status : Nat) (out : List Byte → Prop) (more : State → Prop) =>
      Asks s cmd r → ∃ t o, exec i s = .next t ∧ finished s t r status o ∧ out o ∧ more t
    let silent := fun (o : List Byte) => o = []
    let any := fun (_ : List Byte) => True
    let same := fun (t : State) => t.nv = s.nv ∧ t.modu = s.modu
    let arg := fun cmd n => Config.mboxArg cmd n r.args
    (∀ i ∈ [Instr.wdnInfo, .wdnQuote, .wdnCert, .wdnFlashRead, .wdnFlashWrite, .wdnAgeRead, .wdnLimits, .wdnEnroll, .wdnFloorRaise,
            .wdnFaultRead, .wdnMboxService, .wdnTelemetry],
      (mboxServes s = false ∨ s.wdn.mbox = []) → exec i s = .next s) ∧
    (outputOk u r = false → answers .wdnInfo 1 2 silent same ∧ answers .wdnQuote 2 2 silent same ∧ answers .wdnAgeRead 0xC 2 silent same ∧
      answers .wdnLimits 0xD 2 silent same ∧ answers .wdnFaultRead 0x10 2 silent same ∧ answers .wdnTelemetry 0x12 2 silent same) ∧
    (outputOk u r = true →
      answers .wdnInfo 1 0 (fun o => o.length = 64) same ∧ answers .wdnAgeRead 0xC 0 any same ∧ answers .wdnLimits 0xD 0 any same ∧
      answers .wdnTelemetry 0x12 0 any same ∧
      answers .wdnQuote 2 0 (fun q => q.length = 640 ∧ at' q 0 4 = 0x45545148 ∧ at' q 4 4 = 1 ∧ at' q 8 8 = Config.dieid.toNat ∧
        at' q 24 8 = refTime s ∧ cut q 32 32 = (r.args.take 32 ++ List.replicate 32 0).take 32 ∧
        (∀ i w, i < 4 → w < 4 → at' q (64 + 32 * i + 8 * w) 8 = (s.reg (WDN_MEAS i w)).toNat) ∧
        at' q 192 8 = (s.reg CAN_BOOT_SERIAL).toNat ∧ at' q 200 8 = (s.reg CAN_LAUNCH_SERIAL).toNat) same ∧
      (at' r.args 0 1 ≤ 1 → answers .wdnCert 3 0 (fun o => o.length = Config.certLen (at' r.args 0 1)) same) ∧
      answers .wdnFaultRead 0x10 0 (fun o => o = ((u.flt.log.filter fun e => decide (arg 0x10 0 ≤ e.seq)).take (r.bufLen / 64)).flatMap recBytes) same ∧
      ∀ chip : Fin 2, arg 0xA 0 = chip.val → arg 0xA 1 + arg 0xA 2 ≤ s.modu.flashSize.get chip →
        answers .wdnFlashRead 0xA 0 (fun o => o.length = arg 0xA 2 ∧
          ∀ j, j < arg 0xA 2 → o.getD j 0 = mapGet (fun _ => 0xFF) (s.modu.flash.get chip) (arg 0xA 1 + j)) same) ∧
    (1 < at' r.args 0 1 → answers .wdnCert 3 3 silent same) ∧
    (2 ≤ arg 0xA 0 → answers .wdnFlashRead 0xA 2 silent same) ∧
    (∀ chip : Fin 2, arg 0xA 0 = chip.val → s.modu.flashSize.get chip < arg 0xA 1 + arg 0xA 2 → answers .wdnFlashRead 0xA 3 silent same) ∧
    ((reqInput u r).2 = none → answers .wdnFlashWrite 0xB 2 silent same ∧ answers .wdnMboxService 0x11 2 silent same) ∧
    (∀ d, (reqInput u r).2 = some d →
      (2 ≤ arg 0xB 0 → answers .wdnFlashWrite 0xB 2 silent same) ∧
      (∀ chip : Fin 2, arg 0xB 0 = chip.val →
        let n := arg 0xB 1
        (s.modu.flashSize.get chip < n + d.length → answers .wdnFlashWrite 0xB 2 silent same) ∧
        (n + d.length ≤ s.modu.flashSize.get chip →
          (bootedChip s chip = true → bitOf (at' r.args 0 1) 0 = false → answers .wdnFlashWrite 0xB 3 silent same) ∧
          ((bootedChip s chip = false ∨ bitOf (at' r.args 0 1) 0 = true) → answers .wdnFlashWrite 0xB 0 silent fun t => t.nv = s.nv ∧
            ∀ (e : Fin 2) (j : Nat), mapGet (fun _ => 0xFF) (t.modu.flash.get e) j =
              if e = chip ∧ n ≤ j ∧ j < n + d.length then d.getD (j - n) 0 else mapGet (fun _ => 0xFF) (s.modu.flash.get e) j))) ∧
      (d.length < 64 → answers .wdnMboxService 0x11 2 silent same) ∧
      (64 ≤ d.length → svcFull s = true → answers .wdnMboxService 0x11 6 silent same) ∧
      (64 ≤ d.length → svcFull s = false → answers .wdnMboxService 0x11 0 silent fun t =>
        t.fld WDN_SVCQ_HEAD fldWDN_SVCQ_HEAD_COUNT = (s.fld WDN_SVCQ_HEAD fldWDN_SVCQ_HEAD_COUNT + 1) % 2 ^ 32 ∧
        (t.reg RIDE_EVENT).getLsbD 2 = true ∧
        ∀ f e sub, r.src = .frame f → inBank s e (svcSlot s) 128 → s.mem.poolWait = [] → memBytes t sub (svcSlot s) 64 = d.take 64 ∧
          natOfBytes (memBytes t sub (svcSlot s + 64) 4) = 0x40000)) ∧
    (let none' := s.nv.okey.any (· != 0) = false
     (¬none' → answers .wdnEnroll 0xE 3 silent same) ∧
     (none' → (∀ d, (reqInput u r).2 = some d → d.length < 384) → answers .wdnEnroll 0xE 2 silent same) ∧
     ∀ d, none' → (reqInput u r).2 = some d → 384 ≤ d.length → answers .wdnEnroll 0xE 0 silent fun t =>
       t.nv = { s.nv with okey := sha256 (d.take 384) } ∧ t.test WDN_SVN fldWDN_SVN_OWNER = true) ∧
    let svn := s.fld WDN_SVN fldWDN_SVN_SVN
    (svn ≤ s.nv.floor → answers .wdnFloorRaise 0xF 3 silent same) ∧
      (s.nv.floor < svn → answers .wdnFloorRaise 0xF 0 silent fun t =>
        t.nv = { s.nv with floor := svn } ∧ t.fld WDN_SVN fldWDN_SVN_FLOOR = svn)

/-- Posting requests; STOP, RELEASE, REST, OFF, RESET, LAUNCH; the drain; WDN_SVCQ_BASE. A post and a frame of EtherType 0x88B5 join the queue; any other frame does not. STOP asks each core named that runs to stop; RELEASE releases the cores named, all of them stopped and in service, at vector 0; REST and OFF are refused while a ring is open or a launch pending, after a trip, or in the wrong state, and else stop every core; RESET is answered and then acts as WARMRST_N. A LAUNCH whose canopy fails its checks sets LFAIL and the code, and one that passes waits for the drain. Drained, it is applied: LCODE 1, LAUNCHES counted, its serial shown, and every enabled powered core in service released; a drain that times out gives code 11 and applies nothing. WDN_SVCQ_BASE takes a LOG2N up to 12 and empties the queue. In recovery the management port alternates its mode while the link is down. (R10, R42, R369, R398, R402, R403, R404, R405, R406, R409, Tables 15.4 to 15.7 of spec/15_boot_and_canopy.md) -/
def Obligations.LaunchesAndMailboxControl : Prop :=
  ∀ (s : State) (r : Req) (v : Word) (f : MgmtFrame) (b : BootIn),
    let u := readDone s r.src
    let low := s.modu.poresetLow = true
    let answers := fun (i : Instr) (cmd status : Nat) (more : State → Prop) => Asks s cmd r → ∃ t, exec i s = .next t ∧ finished s t r status [] ∧ more t
    let m := at' r.args 0 8
    let named := fun c : CoreId => bitOf m c = true
    let still := fun (t : State) => (∀ c : CoreId, isStopped t c = isStopped s c ∧ (t.core c).stopReq = (s.core c).stopReq ∧
      (t.core c).x = (s.core c).x) ∧ devState t = devState s ∧ t.wdn.launch = s.wdn.launch
    let shut := fun n => n = 0 ∨ n = 5
    let down := shut (newerState u) ∧ shut (olderState u) ∧ s.wdn.launch = none ∧ s.pwr.thermtrip = false
    let out := fun c : CoreId => c.val ∈ s.wdn.coresOut
    let halted := fun (t : State) => ∀ c : CoreId, isStopped t c = true
    (∀ i ∈ [Instr.wdnStop, .wdnRelease, .wdnRest, .wdnOff, .wdnReset b, .wdnLaunch], (mboxServes s = false ∨ s.wdn.mbox = []) → exec i s = .next s) ∧
    (low → ∀ i ∈ [Instr.mailboxPost v, .mgmtFrame f, .mgmtPortModeAlternate, .svcqBaseWrite v], exec i s = .next s) ∧
    (¬low → ∃ t, exec (.mailboxPost v) s = .next t ∧ t.wdn = { s.wdn with mbox := s.wdn.mbox ++ [.block (bitsOf v.toNat 43 6 * 64)] } ∧ t.regs = s.regs ∧
      t.mem = s.mem ∧ t.cores = s.cores) ∧
    (¬low → ∃ t, exec (.mgmtFrame f) s = .next t ∧ t.wdn.linkUp = true ∧ t.regs = s.regs ∧ t.mem = s.mem ∧ t.cores = s.cores ∧
      t.wdn.mbox = if f.etype = 0x88B5 then s.wdn.mbox ++ [.frame f] else s.wdn.mbox) ∧
    (¬(s.test WDN_BOOT fldWDN_BOOT_RECOVERY = true ∧ s.wdn.linkUp = false) → exec .mgmtPortModeAlternate s = .next s) ∧
    (¬low → s.test WDN_BOOT fldWDN_BOOT_RECOVERY = true → s.wdn.linkUp = false → ∃ t, exec .mgmtPortModeAlternate s = .next t ∧ t.regs = s.regs ∧
      t.mem = s.mem ∧ t.cores = s.cores ∧ t.wdn = { s.wdn with mgmtMode := !s.wdn.mgmtMode }) ∧
    (13 ≤ v.toNat % 16 → exec (.svcqBaseWrite v) s = .next s) ∧
    (¬low → v.toNat % 16 < 13 → ∃ t, exec (.svcqBaseWrite v) s = .next t ∧ sameRegs s t [WDN_SVCQ_BASE, WDN_SVCQ_HEAD, WDN_SVCQ_TAIL] ∧ t.mem = s.mem ∧
      t.cores = s.cores ∧ t.fld WDN_SVCQ_BASE fldWDN_SVCQ_BASE_BASE = bitsOf v.toNat 43 6 ∧ svcLog t = v.toNat % 16 ∧ svcHeld t = 0) ∧
    (2 ^ 48 ≤ m → answers .wdnStop 5 2 still ∧ answers .wdnRelease 6 2 still) ∧
    (m < 2 ^ 48 → answers .wdnStop 5 0 fun t => ∀ c : CoreId, isStopped t c = isStopped s c ∧ (t.core c).x = (s.core c).x ∧
      (t.core c).stopReq = if named c ∧ isStopped s c = false then 3 else (s.core c).stopReq) ∧
    (m < 2 ^ 48 → (∃ c, named c ∧ (isStopped s c = false ∨ out c)) → answers .wdnRelease 6 3 still) ∧
    (m < 2 ^ 48 → (∀ c, named c → isStopped s c = true ∧ ¬out c) → answers .wdnRelease 6 0 fun t => ∀ c : CoreId,
      (named c → isStopped t c = false ∧ (t.core c).pc = BitVec.ofNat 64 (coreLocal c 0) ∧ (∀ n, (t.core c).getX n = 0)) ∧
      (¬named c → isStopped t c = isStopped s c ∧ (t.core c).x = (s.core c).x)) ∧
    ((¬down ∨ devState s ≠ 0) → answers .wdnRest 7 3 still) ∧
    (down → devState s = 0 → answers .wdnRest 7 0 fun t => devState t = 1 ∧ halted t) ∧
    ((¬down ∨ (devState s ≠ 0 ∧ devState s ≠ 2)) → answers .wdnOff 8 3 still) ∧
    (down → (devState s = 0 ∨ devState s = 2) → answers .wdnOff 8 0 fun t => devState t = 4 ∧ halted t) ∧
    (Asks s 9 r → ∃ w t, finished s w r 0 [] ∧ w.pending = s.pending ∧ w.nv = s.nv ∧ exec (.wdnReset b) s = .next t ∧
      exec (.warmrst b) w = .next t ∧ (¬low → s.pwr.thermtrip = false → t.wdn.mbox = [] ∧
        t.fld PWR_WAKE_LAST fldPWR_WAKE_LAST_SOURCE = 2 ∧ t.fld PWR_WAKE_LAST fldPWR_WAKE_LAST_FROM = devState s)) ∧
    (Asks s 4 r → match launchCheck u r with
      | (_, .wait) => exec .wdnLaunch s = .next s
      | (_, .bad e) => ∃ t, exec .wdnLaunch s = .next t ∧ finished s t r (if e.code = 4 then 4 else 3) [] ∧ t.wdn.launch = s.wdn.launch ∧
          t.test CAN_STATUS fldCAN_STATUS_LFAIL = true ∧ t.fld CAN_STATUS fldCAN_STATUS_LCODE = e.code % 256
      | (_, .ok image mem) => ∃ t l, exec .wdnLaunch s = .next t ∧ finished s t r 0 [] ∧ t.wdn.launch = some l ∧ l.image = image ∧
          l.members = mem ∧ t.test CAN_STATUS fldCAN_STATUS_PENDING = true) ∧
    (s.wdn.launch = none → exec .launchDrained s = .next s ∧ exec .drainTimeout s = .next s) ∧
    ∀ l, s.wdn.launch = some l →
      (drained s = false → exec .launchDrained s = .next s) ∧
      (drained s = true → s.ll = [] → ∃ t, exec .launchDrained s = .next t ∧ t.wdn.launch = none ∧
        t.test CAN_STATUS fldCAN_STATUS_PENDING = false ∧ t.test CAN_STATUS fldCAN_STATUS_LFAIL = false ∧
        t.fld CAN_STATUS fldCAN_STATUS_LCODE = 1 ∧
        t.fld CAN_STATUS fldCAN_STATUS_LAUNCHES = min (2 ^ 32 - 1) (s.fld CAN_STATUS fldCAN_STATUS_LAUNCHES + 1) ∧
        t.reg CAN_LAUNCH_SERIAL = BitVec.ofNat 64 (at' l.image 16 8) ∧
        ∀ c : CoreId, if s.test (FOR_CORE c) fldFOR_CORE_EN = true ∧ s.fld (PWR_CORE c) fldPWR_CORE_STATE < 3 ∧ ¬out c
          then isStopped t c = false ∧ (t.core c).pc = BitVec.ofNat 64 (coreLocal c 0) else isStopped t c = true) ∧
      ∃ t, exec .drainTimeout s = .next t ∧ t.wdn.launch = none ∧ t.test CAN_STATUS fldCAN_STATUS_PENDING = false ∧ t.mem = s.mem ∧
        t.test CAN_STATUS fldCAN_STATUS_LFAIL = true ∧ t.fld CAN_STATUS fldCAN_STATUS_LCODE = 11 ∧
        ∀ c : CoreId, l.core = some c.val → s.still = false → s.fld (PWR_CORE c) fldPWR_CORE_STATE < 3 →
          (t.reg (CORE_IPEND c)).getLsbD 19 = true

/-- Fault records, Windthrow, the board controller, the regulators' poll, GPIO edges and the TAP. A record takes the next SEQ and the time, enters the log of 512, is counted, and raises the routed interrupt from MINSEV up; a correctable one of a class and unit within CEWIN is counted as suppressed instead; a failing way leaves service, and an uncorrectable error or residue mismatch in a core is a MACHINE_CHECK due to it (assumption 111). An upset marks the word it meets and records nothing (assumption 100). Windthrow's registers take a write only while the policy allows it; a seed, stored as 1 where 0 is written, loads every point's LFSR, and ON loads its own; a packet held leaves the endpoint. A read on SMB0 returns the data with a PEC over the whole transaction, none in reset; where no sensor has been read the junction temperature is a free value. The poll records ten regulators. An edge on GPIO0 to GPIO11 raises vector 25 on logical core 0 while its domain is up. A TAP instruction that drives pins acts only in reset and is else BYPASS. The PEC's polynomial is the family's (assumption 20). (R417, R418, R420, R250, R422, R423, R425, R441, R445, R446, Table 18.8 of spec/18_module_interfaces.md, Table 16.6 of spec/16_faults_and_windthrow.md) -/
def Obligations.FaultsAndModule : Prop :=
  ∀ (s : State) (r : FaultRec) (v : Word) (k : Fin 6) (i : Nat) (pin : Fin 16) (ps : List PmRead) (u : Upset),
    let again := (r.cls = 1 ∨ r.cls = 3) ∧ ∃ w ∈ s.flt.windows, w.1 = r.cls ∧ w.2.1 = r.kind ∧ w.2.2.1 = r.unit ∧
      refTime s < w.2.2.2 + s.fld FLT_CFG fldFLT_CFG_CEWIN * 100000
    let bump := fun (t : State) (a : Nat) => t.reg a = countWord (s.reg a) 1
    let policy := s.test CAN_POLICY fldCAN_POLICY_WINDTHROW
    let kept := fun (t : State) => t.mem = s.mem ∧ t.cores = s.cores
    let low := s.modu.poresetLow
    let addr := s.modu.smbAddr
    let reads := fun (i : Instr) (cmd : Nat) (data : List Byte) => (low = true → exec i s = .next s) ∧
      (low = false → ∃ t, exec i s = .next t ∧ kept t ∧ t.regs = s.regs ∧ t.modu.smbOut.length = data.length + 1 ∧
        t.modu.smbOut.take data.length = data ∧
        pec ([BitVec.ofNat 8 (2 * addr), BitVec.ofNat 8 cmd, BitVec.ofNat 8 (2 * addr + 1)] ++ t.modu.smbOut) = 0)
    let loads := fun (i : Instr) (ir : TapIr) (dr : Option Nat) => ∃ t, exec i s = .next t ∧ kept t ∧ t.regs = s.regs ∧
      t.modu = { s.modu with tap := ir, tapDr := dr }
    let drives := fun (i : Instr) (ir : TapIr) (dr : Option Nat) => (low = true → loads i ir dr) ∧ (low = false → loads i .bypass (some 0))
    let arrives := fun (d : CoreId) => s.still = false ∧ s.fld (PWR_CORE d) fldPWR_CORE_STATE < 3
    (low = true → ∀ i ∈ [Instr.faultRecord (.record r), .faultRecord (.upset u), .wtSeedWrite v, .wtPointWrite k v, .pmbusPoll ps],
      exec i s = .next s) ∧
    (s.still = true → exec (.wtXportHoldRelease i) s = .next s) ∧
    (low = false →
    (again → ∃ t, exec (.faultRecord (.record r)) s = .next t ∧ t.flt = s.flt ∧ t.mem = s.mem ∧ bump t FLT_CE_SUPPRESSED) ∧
    (¬again → ∃ t, exec (.faultRecord (.record r)) s = .next t ∧ t.flt.nextSeq = s.flt.nextSeq + 1 ∧ bump t FLT_RECORDS ∧
      t.flt.log = (if 512 ≤ s.flt.log.length then s.flt.log.drop 1 else s.flt.log) ++ [{ r with seq := s.flt.nextSeq, time := refTime s }] ∧
      (512 ≤ s.flt.log.length → bump t FLT_LOST) ∧ (bitOf r.flags 0 = true → bump t FLT_INJECTED) ∧
      (s.fld FLT_ROUTE fldFLT_ROUTE_MINSEV ≤ r.sev → ∀ c : CoreId, s.fld FLT_ROUTE fldFLT_ROUTE_CORE = c.val → arrives c →
        (t.reg (CORE_IPEND c)).getLsbD (32 + s.fld FLT_ROUTE fldFLT_ROUTE_SWI) = true) ∧
      (∀ c : CoreId, r.kind = 0 → r.unit = c.val → 1 ≤ r.sev → (r.cls = 2 ∨ r.cls = 7) → s.fld (PWR_CORE c) fldPWR_CORE_STATE < 3 →
        (t.core c).mcDue = (s.core c).mcDue ++ [(if r.cls = 2 then some r.addr else none, s.flt.nextSeq)]) ∧
      (r.cls ≠ 11 → t.mem = s.mem) ∧
      (r.cls = 11 → bitOf r.flags 0 = false → r.sub < 16 → bitOf (t.fld (L2_CFG (r.unit % 8)) fldL2_CFG_OUT) r.sub = true)) ∧
    (∃ t, exec (.faultRecord (.upset u)) s = .next t ∧ t.flt = s.flt ∧ t.regs = s.regs ∧ match u with
      | .reg c w => w ∈ (t.core c).bad ∧ t.mem = s.mem
      | .residue c lane array unit => (lane, array, unit) ∈ (t.core c).badRes ∧ t.mem = s.mem
      | .l1 c a => ((∃ e ∈ (s.core c).l1, e.line = lineOf a) → a / 8 ∈ (t.core c).l1Bad) ∧ t.mem = s.mem
      | .sap older a => let x := fun (t : State) => sapOf t (if older then .older else .newer)
          (granule a ∈ (x s).gran → a / 32 ∈ (x t).bad) ∧ t.cores = s.cores
      | .version sub a => (∀ w ∈ s.mem.accVers, w.sub = sub → w.gran = granule a →
          ∃ w' ∈ t.mem.accVers, w'.sub = sub ∧ w'.gran = granule a ∧ a / 32 ∈ w'.bad) ∧ t.cores = s.cores
      | .soft a => (∀ b, regionOf s a = some (.bank b) → a / 8 ∈ t.mem.soft) ∧ t.cores = s.cores
      | .word a => (∀ c o, regionOf s a = some (.array c o) → arrKey s c o / 8 ∈ t.mem.arrBad) ∧
          (∀ n o, regionOf s a = some (.pin n o) → pinKey s n o / 8 ∈ t.mem.pinBad) ∧
          (∀ b, regionOf s a = some (.bank b) → mapFind t.mem.poison (alignDown a 8) = some 8) ∧
          (regionOf s a = some .stack → mapFind t.mem.poison (alignDown a 32) = some 32 ∨ a / 8 ∈ t.mem.l2Bad) ∧ t.cores = s.cores) ∧
    (policy = false → exec (.wtSeedWrite v) s = .next s ∧ exec (.wtPointWrite k v) s = .next s) ∧
    (policy = true →
      (∃ t, exec (.wtSeedWrite v) s = .next t ∧ kept t ∧ sameRegs s t [WT_SEED] ∧ t.flt.log = s.flt.log ∧
        let seed := if v.toNat % 2 ^ 32 = 0 then 1 else v.toNat % 2 ^ 32
        t.fld WT_SEED fldWT_SEED_SEED = seed ∧ ∀ j : Fin 6, t.flt.lfsr.get j = rotl32 seed (5 * j)) ∧
      ∃ t, exec (.wtPointWrite k v) s = .next t ∧ kept t ∧ sameRegs s t [WT_POINT k] ∧ t.flt.log = s.flt.log ∧
        (∀ g ∈ [fldWT_POINT_ON, fldWT_POINT_COUNT, fldWT_POINT_PARAM, fldWT_POINT_RATE, fldWT_POINT_TARGET], t.fld (WT_POINT k) g = g.get v) ∧
        ∀ j : Fin 6, t.flt.lfsr.get j =
          if j = k ∧ bitOf v.toNat 63 = true then rotl32 (s.fld WT_SEED fldWT_SEED_SEED) (5 * k) else s.flt.lfsr.get j)) ∧
    (s.flt.held[i]? = none → exec (.wtXportHoldRelease i) s = .next s) ∧
    (∀ p n, s.still = false → s.flt.held[i]? = some (p, n) → ∃ t, exec (.wtXportHoldRelease i) s = .next t ∧ t.flt.held = s.flt.held.eraseIdx i ∧
      leaves t p ∧ t.mem = s.mem) ∧
    (low = false → ∃ t, exec (.pmbusPoll ps) s = .next t ∧ kept t ∧ t.regs = s.regs ∧ t.wdn.pm.length = 10 ∧ ∀ j, j < 10 → ∃ p, t.wdn.pm[j]? = some p ∧
      p.addr = 0x40 + j ∧ (∀ e, ps.find? (fun q => q.addr == 0x40 + j) = some e → p = e) ∧
      ((∀ e ∈ ps, e.addr ≠ 0x40 + j) → p.vals = none)) ∧
    (12 ≤ pin.val → exec (.gpioEdge pin) s = .next s) ∧
    (pin.val < 12 → ∃ t, exec (.gpioEdge pin) s = .next t ∧ (arrives 0 → (t.reg (CORE_IPEND 0)).getLsbD 25 = true) ∧
      (¬arrives 0 → t.regs = s.regs) ∧ sameRegs s t [CORE_IPEND 0] ∧
      t.mem = s.mem ∧ ∀ d, (t.core d).x = (s.core d).x) ∧
    reads .smbStatus 0 [BitVec.ofNat 8 ((if s.test PWR_STATE fldPWR_STATE_TRIPPED then 1 else 0) +
      (if s.fld WDN_BOOT fldWDN_BOOT_STEP = 8 then 2 else 0) + (if s.test WDN_BOOT fldWDN_BOOT_RECOVERY then 4 else 0) +
      (if s.flt.log.any fun e => decide (3 ≤ e.sev) then 8 else 0))] ∧
    (s.modu.sensors ≠ [] → ∃ m, (∀ e ∈ s.modu.sensors, e.2 ≤ m) ∧ (∃ e ∈ s.modu.sensors, e.2 = m) ∧
      reads .smbJunctionTemp 1 [BitVec.ofNat 8 m, BitVec.ofNat 8 (m / 256)]) ∧
    (s.modu.sensors = [] → low = false → ∃ t, exec .smbJunctionTemp s = .next t ∧ kept t ∧ t.regs = s.regs ∧ t.modu.smbOut.length = 3 ∧
      pec ([BitVec.ofNat 8 (2 * addr), 1, BitVec.ofNat 8 (2 * addr + 1)] ++ t.modu.smbOut) = 0) ∧
    reads .smbModulePower 2 (bytesOfNat 2 (showIn (16 * s.fld FOR_CFG fldFOR_CFG_UNCORE + draw s 0 + draw s 1 + draw s 2 + draw s 3) 16)) ∧
    reads .smbWdnBoot 3 (8 :: bytesOfNat 8 (s.reg WDN_BOOT).toNat) ∧ reads .smbDieid 4 (8 :: bytesOfNat 8 Config.dieid.toNat) ∧
    loads .tapBypass .bypass (some 0) ∧ loads .tapIdcode .idcode (some 0x1A048A4F) ∧ loads .tapSamplePreload .samplePreload none ∧
    drives .tapExtest .extest none ∧ drives .tapClamp .clamp (some 0) ∧ drives .tapHighz .highz (some 0) ∧
    drives .tapExtestPulse .extestPulse none ∧ drives .tapExtestTrain .extestTrain none

/-- Stores to control registers, blazes and update counters. A store that is not aligned to 64 bits, or that no register answers, changes nothing; nor does one in reset. A register whose map gives it no further effect takes, field by field, what its access code says: a RW field the written bits, a W1C field the bits not written as 1, a W1S field these besides, every other field what it held; no other register, no memory and nothing of a core changes, save what its unretired instructions put back where they are undone. A Windthrow register ignores writes while the policy forbids them. A budget above LIMIT is stored as LIMIT. A blaze's owner is kept where a core above 47 is written, and its overflow clears where 1 is written. UPD_FALLBACK keeps FLAG until 1 is written and sets it where SET is written; an increment of an update counter counts 1. (R3, R4, R10, R52, R178, R185, R331, R348, R422, Tables 0.5 and 0.6 of spec/00_scope.md, Table 6.11 of spec/06_parameter_update.md) -/
def Obligations.RegisterWrites : Prop :=
  ∀ (s : State) (m a : Nat) (v : Word) (c : CoreId) (k : Fin 2),
    let b := unalias m a
    let k0 := s.core (coreOf m)
    let quiet := s.modu.poresetLow = false ∧ a % 8 = 0 ∧
      (48 ≤ m ∨ (k0.mbuf = [] ∧ k0.vecQ = [] ∧ storesWait s (coreOf m) = false))
    let writes := exec (.registerWrite m a v) s
    let frame := fun (t : State) (l : List Nat) => sameRegs s t l ∧ t.mem = s.mem ∧ ∀ d,
      t.core d = { s.core d with vecQ := (t.core d).vecQ, tileQ := (t.core d).tileQ } ∧
      ((s.core d).vecQ = [] → (s.core d).tileQ = [] → t.core d = s.core d)
    (s.modu.poresetLow = true → writes = .next s) ∧ (s.still = true → exec (.updFallbackSet c v) s = .next s ∧ exec (.updCountInc c k) s = .next s) ∧
    (a % 8 ≠ 0 → writes = .next s) ∧
    (quiet → (∀ g, regionOf s b = some g → g.plain = true) → writes = .next s) ∧
    (quiet → regionOf s b = some .ctrl → regRowAt b = none → writes = .next s) ∧
    (quiet → regionOf s b = some .ctrl → inWt b = true → s.test CAN_POLICY fldCAN_POLICY_WINDTHROW = false → writes = .next s) ∧
    (∀ row, quiet → regionOf s b = some .ctrl → regRowAt b = some row → (inWt b = true → s.test CAN_POLICY fldCAN_POLICY_WINDTHROW = true) →
      (if CORE_ID 0 ≤ b ∧ b < CORE_ID 48 then coreRegWrite s m row b v else deviceWrite s m row b v) = none →
      (∀ f ∈ row.flds, f.acc ≠ .ll) →
      ∃ t, writes = .next t ∧ frame t [b] ∧ t.ll = s.ll ∧ ∀ f ∈ row.flds,
        (f.acc = .rw → t.fld b f.fld = f.fld.get v) ∧
        (f.acc = .w1c → t.fld b f.fld = s.fld b f.fld - (s.fld b f.fld &&& f.fld.get v)) ∧
        (f.acc = .w1s → t.fld b f.fld = s.fld b f.fld ||| f.fld.get v) ∧
        (f.acc ≠ .rw → f.acc ≠ .w1c → f.acc ≠ .w1s → t.fld b f.fld = s.fld b f.fld)) ∧
    (quiet → b = FOR_BUDGET → regionOf s b = some .ctrl → ∃ t, writes = .next t ∧ frame t [FOR_BUDGET] ∧
      t.fld FOR_BUDGET fldFOR_BUDGET_LIMIT = s.fld FOR_BUDGET fldFOR_BUDGET_LIMIT ∧
      t.fld FOR_BUDGET fldFOR_BUDGET_WATTS = min (fldFOR_BUDGET_WATTS.get v) (s.fld FOR_BUDGET fldFOR_BUDGET_LIMIT)) ∧
    (∀ n, quiet → n < 16384 → regionOf s b = some .blaze →
      (b = blazeBase + 64 * n + 0x10 → ∃ t, writes = .next t ∧ frame t [BLZ_CFG n] ∧
        t.fld (BLZ_CFG n) fldBLZ_CFG_OWNER = if fldBLZ_CFG_OWNER.get v < 48 then fldBLZ_CFG_OWNER.get v else s.fld (BLZ_CFG n) fldBLZ_CFG_OWNER) ∧
      (b = blazeBase + 64 * n + 0x18 → ∃ t, writes = .next t ∧ frame t [BLZ_STATUS n] ∧ t.test (BLZ_STATUS n) fldBLZ_STATUS_BLZ_OVF =
        (s.test (BLZ_STATUS n) fldBLZ_STATUS_BLZ_OVF && !fldBLZ_STATUS_BLZ_OVF.test v))) ∧
    (s.still = false → ∃ t, exec (.updFallbackSet c v) s = .next t ∧ frame t [UPD_FALLBACK c] ∧
      t.fld (UPD_FALLBACK c) fldUPD_FALLBACK_SHARD = v.toNat % 2 ^ 32 ∧
      t.test (UPD_FALLBACK c) fldUPD_FALLBACK_FLAG =
        (bitOf v.toNat 62 || (s.test (UPD_FALLBACK c) fldUPD_FALLBACK_FLAG && !bitOf v.toNat 63))) ∧
    let counter := if k = 0 then UPD_FALLBACK_COUNT c else UPD_DONE_COUNT c
    s.still = false → ∃ t, exec (.updCountInc c k) s = .next t ∧ t.reg counter = countWord (s.reg counter) 1 ∧ sameRegs s t [counter, CORE_IPEND c] ∧
      t.mem = s.mem
end

