-- ==== Sys2Proof/Laws/Maps.lean ====
section
/-! SUPPORT. Sparse maps: a read after a write, and the canonical form that every operation keeps. -/
namespace Sys2Proof.Machine

variable {α : Type}

theorem mapFind_mapInsert_self (m : NMap α) (a : Nat) (x : α) : mapFind (mapInsert m a x) a = some x := by
  induction m with
  | nil => simp [mapInsert, mapFind]
  | cons e m ih =>
    obtain ⟨k, v⟩ := e
    unfold mapInsert
    split
    · simp [mapFind]
    · split <;> rename_i h1 h2
      · simp [mapFind, h2]
      · simp [mapFind, h2, ih]

theorem mapFind_mapInsert_ne (m : NMap α) {a b : Nat} (x : α) (h : b ≠ a) : mapFind (mapInsert m a x) b = mapFind m b := by
  induction m with
  | nil => simp [mapInsert, mapFind, h]
  | cons e m ih =>
    obtain ⟨k, v⟩ := e
    unfold mapInsert
    split
    · simp [mapFind, h]
    · split <;> rename_i h1 h2
      · subst h2; simp [mapFind, h]
      · simp [mapFind, ih]

theorem mapFind_mapErase_self (m : NMap α) (a : Nat) : mapFind (mapErase m a) a = none := by
  induction m with
  | nil => rfl
  | cons e m ih =>
    obtain ⟨k, v⟩ := e
    by_cases h : a = k
    · subst h; simp [mapErase, ih]
    · simp [mapErase, mapFind, h, ih]

theorem mapFind_mapErase_ne (m : NMap α) {a b : Nat} (h : b ≠ a) : mapFind (mapErase m a) b = mapFind m b := by
  induction m with
  | nil => rfl
  | cons e m ih =>
    obtain ⟨k, v⟩ := e
    by_cases hk : a = k
    · subst hk; simp [mapErase, mapFind, h, ih]
    · simp [mapErase, mapFind, hk, ih]

theorem mapGet_mapPut_self [DecidableEq α] (d : Nat → α) (m : NMap α) (a : Nat) (x : α) : mapGet d (mapPut d m a x) a = x := by
  unfold mapGet mapPut
  split
  · rename_i h; simp [mapFind_mapErase_self, h]
  · simp [mapFind_mapInsert_self]

theorem mapGet_mapPut_ne [DecidableEq α] (d : Nat → α) (m : NMap α) {a b : Nat} (x : α) (h : b ≠ a) :
    mapGet d (mapPut d m a x) b = mapGet d m b := by
  unfold mapGet mapPut
  split
  · rw [mapFind_mapErase_ne m h]
  · rw [mapFind_mapInsert_ne m x h]

/-! ### Runs of bytes -/

/-- A byte outside the span written reads as before. -/
theorem mapGet_writeBytes_outside (d : Nat → Byte) (m : NMap Byte) (a : Nat) (bs : List Byte) (b : Nat)
    (h : b < a ∨ a + bs.length ≤ b) : mapGet d (writeBytes d m a bs) b = mapGet d m b := by
  induction bs generalizing m a with
  | nil => rfl
  | cons x xs ih =>
    have hb : b ≠ a := by simp at h; omega
    simp only [writeBytes]
    rw [ih (mapPut d m a x) (a + 1) (by simp at h; omega), mapGet_mapPut_ne d m x hb]

/-- Byte `i` of a span written reads as the byte written. -/
theorem mapGet_writeBytes_inside (d : Nat → Byte) (m : NMap Byte) (a : Nat) (bs : List Byte) (i : Nat) (h : i < bs.length) :
    mapGet d (writeBytes d m a bs) (a + i) = bs[i] := by
  induction bs generalizing m a i with
  | nil => simp at h
  | cons x xs ih =>
    simp only [writeBytes]
    cases i with
    | zero =>
      rw [mapGet_writeBytes_outside d _ _ _ _ (by omega)]
      simp [mapGet_mapPut_self]
    | succ j =>
      have := ih (mapPut d m a x) (a + 1) j (by simpa using h)
      rw [show a + (j + 1) = a + 1 + j by omega, this]
      simp

/-! ### The canonical form -/

/-- Every key of a map lies above a bound. -/
def keysAbove (lo : Nat) (m : NMap α) : Prop := ∀ e ∈ m, lo < e.1

/-- The canonical form, unfolded once. -/
theorem mapWf_cons [DecidableEq α] (d : Nat → α) (k : Nat) (v : α) (m : NMap α) :
    mapWf d ((k, v) :: m) = true ↔ v ≠ d k ∧ keysAbove k m ∧ mapWf d m = true := by
  induction m generalizing k v with
  | nil => simp [mapWf, keysAbove]
  | cons e m ih =>
    obtain ⟨k', v'⟩ := e
    simp only [mapWf, Bool.and_eq_true, decide_eq_true_eq]
    constructor
    · rintro ⟨⟨hv, hk⟩, hm⟩
      refine ⟨hv, ?_, hm⟩
      intro e he
      rcases List.mem_cons.1 he with rfl | he
      · exact hk
      · exact Nat.lt_trans hk (((ih k' v').1 hm).2.1 e he)
    · rintro ⟨hv, hk, hm⟩
      exact ⟨⟨hv, hk (k', v') (by simp)⟩, hm⟩

theorem keysAbove_mapInsert {lo a : Nat} (m : NMap α) (x : α) (h : lo < a) (hm : keysAbove lo m) : keysAbove lo (mapInsert m a x) := by
  induction m with
  | nil => intro e he; simp [mapInsert] at he; subst he; exact h
  | cons e m ih =>
    obtain ⟨k, v⟩ := e
    unfold mapInsert
    split
    · intro e he
      rcases List.mem_cons.1 he with rfl | he
      · exact h
      · exact hm e he
    · split
      · rename_i h1 h2
        subst h2
        intro e he
        rcases List.mem_cons.1 he with rfl | he
        · exact h
        · exact hm e (by simp [he])
      · intro e he
        rcases List.mem_cons.1 he with rfl | he
        · exact hm (k, v) (by simp)
        · exact ih (fun e he => hm e (by simp [he])) e he

theorem keysAbove_mapErase {lo : Nat} (m : NMap α) (a : Nat) (hm : keysAbove lo m) : keysAbove lo (mapErase m a) := by
  induction m with
  | nil => exact hm
  | cons e m ih =>
    obtain ⟨k, v⟩ := e
    have ht : keysAbove lo m := fun e he => hm e (by simp [he])
    unfold mapErase
    split
    · exact ih ht
    · intro e he
      rcases List.mem_cons.1 he with rfl | he
      · exact hm (k, v) (by simp)
      · exact ih ht e he

theorem mapWf_mapErase [DecidableEq α] (d : Nat → α) (m : NMap α) (a : Nat) (h : mapWf d m = true) : mapWf d (mapErase m a) = true := by
  induction m with
  | nil => rfl
  | cons e m ih =>
    obtain ⟨k, v⟩ := e
    have hw := (mapWf_cons d k v m).1 h
    unfold mapErase
    split
    · exact ih hw.2.2
    · exact (mapWf_cons d k v _).2 ⟨hw.1, keysAbove_mapErase m a hw.2.1, ih hw.2.2⟩

theorem mapWf_mapInsert [DecidableEq α] (d : Nat → α) (m : NMap α) (a : Nat) (x : α) (hx : x ≠ d a) (h : mapWf d m = true) :
    mapWf d (mapInsert m a x) = true := by
  induction m with
  | nil => simp [mapInsert, mapWf, hx]
  | cons e m ih =>
    obtain ⟨k, v⟩ := e
    have hw := (mapWf_cons d k v m).1 h
    unfold mapInsert
    split
    · rename_i h1
      refine (mapWf_cons d a x _).2 ⟨hx, ?_, h⟩
      intro e he
      rcases List.mem_cons.1 he with rfl | he
      · exact h1
      · exact Nat.lt_trans h1 (hw.2.1 e he)
    · split
      · rename_i h1 h2
        subst h2
        exact (mapWf_cons d a x m).2 ⟨hx, hw.2.1, hw.2.2⟩
      · rename_i h1 h2
        exact (mapWf_cons d k v _).2 ⟨hw.1, keysAbove_mapInsert m x (by omega) hw.2.1, ih hw.2.2⟩

/-- A write of one key keeps the canonical form. -/
theorem mapWf_mapPut [DecidableEq α] (d : Nat → α) (m : NMap α) (a : Nat) (x : α) (h : mapWf d m = true) :
    mapWf d (mapPut d m a x) = true := by
  unfold mapPut
  split
  · exact mapWf_mapErase d m a h
  · rename_i hx; exact mapWf_mapInsert d m a x hx h

/-- A write of bytes keeps the canonical form. -/
theorem mapWf_writeBytes (d : Nat → Byte) (m : NMap Byte) (a : Nat) (bs : List Byte) (h : mapWf d m = true) :
    mapWf d (writeBytes d m a bs) = true := by
  induction bs generalizing m a with
  | nil => exact h
  | cons x xs ih => exact ih (mapPut d m a x) (a + 1) (mapWf_mapPut d m a x h)

/-- A map whose entries are filtered keeps the canonical form. -/
theorem mapWf_filter [DecidableEq α] (d : Nat → α) (m : NMap α) (p : Nat × α → Bool) (h : mapWf d m = true) :
    mapWf d (m.filter p) = true := by
  induction m with
  | nil => rfl
  | cons e m ih =>
    obtain ⟨k, v⟩ := e
    have hw := (mapWf_cons d k v m).1 h
    by_cases hp : p (k, v) = true
    · rw [List.filter_cons_of_pos hp]
      exact (mapWf_cons d k v _).2 ⟨hw.1, fun e he => hw.2.1 e (List.mem_of_mem_filter he), ih hw.2.2⟩
    · rw [List.filter_cons_of_neg hp]
      exact ih hw.2.2

/-- The canonical form is unique: equal reads make equal maps. -/
theorem map_ext [DecidableEq α] (d : Nat → α) (m n : NMap α) (hm : mapWf d m = true) (hn : mapWf d n = true)
    (h : ∀ a, mapGet d m a = mapGet d n a) : m = n := by
  have absent : ∀ (l : NMap α) (lo b : Nat), keysAbove lo l → b ≤ lo → mapFind l b = none := by
    intro l lo b hl hb
    induction l with
    | nil => rfl
    | cons e l ih =>
      obtain ⟨k, v⟩ := e
      have hk : lo < k := hl (k, v) (by simp)
      have : b ≠ k := by omega
      simp [mapFind, this, ih fun e he => hl e (by simp [he])]
  induction m generalizing n with
  | nil =>
    cases n with
    | nil => rfl
    | cons e n =>
      obtain ⟨k, v⟩ := e
      have := h k
      simp [mapGet, mapFind] at this
      exact absurd this.symm ((mapWf_cons d k v n).1 hn).1
  | cons e m ih =>
    obtain ⟨k, v⟩ := e
    have hw := (mapWf_cons d k v m).1 hm
    cases n with
    | nil =>
      have := h k
      simp [mapGet, mapFind] at this
      exact absurd this hw.1
    | cons e' n =>
      obtain ⟨k', v'⟩ := e'
      have hw' := (mapWf_cons d k' v' n).1 hn
      have hk : k = k' := by
        rcases Nat.lt_trichotomy k k' with hlt | heq | hgt
        · have := h k
          have hne : k ≠ k' := by omega
          simp [mapGet, mapFind, hne, absent n k' k hw'.2.1 (by omega)] at this
          exact absurd this hw.1
        · exact heq
        · have := h k'
          have hne : k' ≠ k := by omega
          simp [mapGet, mapFind, hne, absent m k k' hw.2.1 (by omega)] at this
          exact absurd this.symm hw'.1
      subst hk
      have hv : v = v' := by simpa [mapGet, mapFind] using h k
      subst hv
      congr 1
      refine ih n hw.2.2 hw'.2.2 fun a => ?_
      by_cases ha : a = k
      · subst ha
        simp [mapGet, absent m a a hw.2.1 (by omega), absent n a a hw'.2.1 (by omega)]
      · have := h a
        simpa [mapGet, mapFind, ha] using this

end Sys2Proof.Machine
end

