-- ==== Sys2Proof/Laws/State.lean ====
section
/-! SUPPORT. What each named update of the state leaves in each of its fields, and what a register, a core and an engine read as after
it. -/
namespace Sys2Proof.Machine

/-! ### setReg -/

@[simp] theorem State.setReg_ll (s : State) (a : Nat) (w : Word) : (s.setReg a w).ll = s.ll := rfl
@[simp] theorem State.setReg_cores (s : State) (a : Nat) (w : Word) : (s.setReg a w).cores = s.cores := rfl
@[simp] theorem State.setReg_mem (s : State) (a : Nat) (w : Word) : (s.setReg a w).mem = s.mem := rfl
@[simp] theorem State.setReg_ring (s : State) (a : Nat) (w : Word) : (s.setReg a w).ring = s.ring := rfl
@[simp] theorem State.setReg_xfer (s : State) (a : Nat) (w : Word) : (s.setReg a w).xfer = s.xfer := rfl
@[simp] theorem State.setReg_ride (s : State) (a : Nat) (w : Word) : (s.setReg a w).ride = s.ride := rfl
@[simp] theorem State.setReg_forr (s : State) (a : Nat) (w : Word) : (s.setReg a w).forr = s.forr := rfl
@[simp] theorem State.setReg_pwr (s : State) (a : Nat) (w : Word) : (s.setReg a w).pwr = s.pwr := rfl
@[simp] theorem State.setReg_nv (s : State) (a : Nat) (w : Word) : (s.setReg a w).nv = s.nv := rfl
@[simp] theorem State.setReg_wdn (s : State) (a : Nat) (w : Word) : (s.setReg a w).wdn = s.wdn := rfl
@[simp] theorem State.setReg_modu (s : State) (a : Nat) (w : Word) : (s.setReg a w).modu = s.modu := rfl
@[simp] theorem State.setReg_flt (s : State) (a : Nat) (w : Word) : (s.setReg a w).flt = s.flt := rfl
@[simp] theorem State.setReg_freeCtr (s : State) (a : Nat) (w : Word) : (s.setReg a w).freeCtr = s.freeCtr := rfl
@[simp] theorem State.setReg_entropy (s : State) (a : Nat) (w : Word) : (s.setReg a w).entropy = s.entropy := rfl
@[simp] theorem State.setReg_pending (s : State) (a : Nat) (w : Word) : (s.setReg a w).pending = s.pending := rfl
@[simp] theorem State.setReg_core (s : State) (a : Nat) (w : Word) (d : CoreId) : (s.setReg a w).core d = s.core d := rfl

/-! ### setFld -/

@[simp] theorem State.setFld_ll (s : State) (a : Nat) (f : Fld) (v : Nat) : (s.setFld a f v).ll = s.ll := rfl
@[simp] theorem State.setFld_cores (s : State) (a : Nat) (f : Fld) (v : Nat) : (s.setFld a f v).cores = s.cores := rfl
@[simp] theorem State.setFld_mem (s : State) (a : Nat) (f : Fld) (v : Nat) : (s.setFld a f v).mem = s.mem := rfl
@[simp] theorem State.setFld_ring (s : State) (a : Nat) (f : Fld) (v : Nat) : (s.setFld a f v).ring = s.ring := rfl
@[simp] theorem State.setFld_xfer (s : State) (a : Nat) (f : Fld) (v : Nat) : (s.setFld a f v).xfer = s.xfer := rfl
@[simp] theorem State.setFld_ride (s : State) (a : Nat) (f : Fld) (v : Nat) : (s.setFld a f v).ride = s.ride := rfl
@[simp] theorem State.setFld_forr (s : State) (a : Nat) (f : Fld) (v : Nat) : (s.setFld a f v).forr = s.forr := rfl
@[simp] theorem State.setFld_pwr (s : State) (a : Nat) (f : Fld) (v : Nat) : (s.setFld a f v).pwr = s.pwr := rfl
@[simp] theorem State.setFld_nv (s : State) (a : Nat) (f : Fld) (v : Nat) : (s.setFld a f v).nv = s.nv := rfl
@[simp] theorem State.setFld_wdn (s : State) (a : Nat) (f : Fld) (v : Nat) : (s.setFld a f v).wdn = s.wdn := rfl
@[simp] theorem State.setFld_modu (s : State) (a : Nat) (f : Fld) (v : Nat) : (s.setFld a f v).modu = s.modu := rfl
@[simp] theorem State.setFld_flt (s : State) (a : Nat) (f : Fld) (v : Nat) : (s.setFld a f v).flt = s.flt := rfl
@[simp] theorem State.setFld_freeCtr (s : State) (a : Nat) (f : Fld) (v : Nat) : (s.setFld a f v).freeCtr = s.freeCtr := rfl
@[simp] theorem State.setFld_entropy (s : State) (a : Nat) (f : Fld) (v : Nat) : (s.setFld a f v).entropy = s.entropy := rfl
@[simp] theorem State.setFld_pending (s : State) (a : Nat) (f : Fld) (v : Nat) : (s.setFld a f v).pending = s.pending := rfl
@[simp] theorem State.setFld_core (s : State) (a : Nat) (f : Fld) (v : Nat) (d : CoreId) : (s.setFld a f v).core d = s.core d := rfl

/-! ### setBit -/

@[simp] theorem State.setBit_ll (s : State) (a : Nat) (f : Fld) (b : Bool) : (s.setBit a f b).ll = s.ll := rfl
@[simp] theorem State.setBit_cores (s : State) (a : Nat) (f : Fld) (b : Bool) : (s.setBit a f b).cores = s.cores := rfl
@[simp] theorem State.setBit_mem (s : State) (a : Nat) (f : Fld) (b : Bool) : (s.setBit a f b).mem = s.mem := rfl
@[simp] theorem State.setBit_ring (s : State) (a : Nat) (f : Fld) (b : Bool) : (s.setBit a f b).ring = s.ring := rfl
@[simp] theorem State.setBit_xfer (s : State) (a : Nat) (f : Fld) (b : Bool) : (s.setBit a f b).xfer = s.xfer := rfl
@[simp] theorem State.setBit_ride (s : State) (a : Nat) (f : Fld) (b : Bool) : (s.setBit a f b).ride = s.ride := rfl
@[simp] theorem State.setBit_forr (s : State) (a : Nat) (f : Fld) (b : Bool) : (s.setBit a f b).forr = s.forr := rfl
@[simp] theorem State.setBit_pwr (s : State) (a : Nat) (f : Fld) (b : Bool) : (s.setBit a f b).pwr = s.pwr := rfl
@[simp] theorem State.setBit_nv (s : State) (a : Nat) (f : Fld) (b : Bool) : (s.setBit a f b).nv = s.nv := rfl
@[simp] theorem State.setBit_wdn (s : State) (a : Nat) (f : Fld) (b : Bool) : (s.setBit a f b).wdn = s.wdn := rfl
@[simp] theorem State.setBit_modu (s : State) (a : Nat) (f : Fld) (b : Bool) : (s.setBit a f b).modu = s.modu := rfl
@[simp] theorem State.setBit_flt (s : State) (a : Nat) (f : Fld) (b : Bool) : (s.setBit a f b).flt = s.flt := rfl
@[simp] theorem State.setBit_freeCtr (s : State) (a : Nat) (f : Fld) (b : Bool) : (s.setBit a f b).freeCtr = s.freeCtr := rfl
@[simp] theorem State.setBit_entropy (s : State) (a : Nat) (f : Fld) (b : Bool) : (s.setBit a f b).entropy = s.entropy := rfl
@[simp] theorem State.setBit_pending (s : State) (a : Nat) (f : Fld) (b : Bool) : (s.setBit a f b).pending = s.pending := rfl
@[simp] theorem State.setBit_core (s : State) (a : Nat) (f : Fld) (b : Bool) (d : CoreId) : (s.setBit a f b).core d = s.core d := rfl

/-! ### setCore -/

@[simp] theorem State.setCore_regs (s : State) (c : CoreId) (k : CoreSt) : (s.setCore c k).regs = s.regs := rfl
@[simp] theorem State.setCore_ll (s : State) (c : CoreId) (k : CoreSt) : (s.setCore c k).ll = s.ll := rfl
@[simp] theorem State.setCore_mem (s : State) (c : CoreId) (k : CoreSt) : (s.setCore c k).mem = s.mem := rfl
@[simp] theorem State.setCore_ring (s : State) (c : CoreId) (k : CoreSt) : (s.setCore c k).ring = s.ring := rfl
@[simp] theorem State.setCore_xfer (s : State) (c : CoreId) (k : CoreSt) : (s.setCore c k).xfer = s.xfer := rfl
@[simp] theorem State.setCore_ride (s : State) (c : CoreId) (k : CoreSt) : (s.setCore c k).ride = s.ride := rfl
@[simp] theorem State.setCore_forr (s : State) (c : CoreId) (k : CoreSt) : (s.setCore c k).forr = s.forr := rfl
@[simp] theorem State.setCore_pwr (s : State) (c : CoreId) (k : CoreSt) : (s.setCore c k).pwr = s.pwr := rfl
@[simp] theorem State.setCore_nv (s : State) (c : CoreId) (k : CoreSt) : (s.setCore c k).nv = s.nv := rfl
@[simp] theorem State.setCore_wdn (s : State) (c : CoreId) (k : CoreSt) : (s.setCore c k).wdn = s.wdn := rfl
@[simp] theorem State.setCore_modu (s : State) (c : CoreId) (k : CoreSt) : (s.setCore c k).modu = s.modu := rfl
@[simp] theorem State.setCore_flt (s : State) (c : CoreId) (k : CoreSt) : (s.setCore c k).flt = s.flt := rfl
@[simp] theorem State.setCore_freeCtr (s : State) (c : CoreId) (k : CoreSt) : (s.setCore c k).freeCtr = s.freeCtr := rfl
@[simp] theorem State.setCore_entropy (s : State) (c : CoreId) (k : CoreSt) : (s.setCore c k).entropy = s.entropy := rfl
@[simp] theorem State.setCore_pending (s : State) (c : CoreId) (k : CoreSt) : (s.setCore c k).pending = s.pending := rfl
@[simp] theorem State.setCore_reg (s : State) (c : CoreId) (k : CoreSt) (r : Nat) : (s.setCore c k).reg r = s.reg r := rfl

/-! ### modCore -/

@[simp] theorem State.modCore_regs (s : State) (c : CoreId) (g : CoreSt → CoreSt) : (s.modCore c g).regs = s.regs := rfl
@[simp] theorem State.modCore_ll (s : State) (c : CoreId) (g : CoreSt → CoreSt) : (s.modCore c g).ll = s.ll := rfl
@[simp] theorem State.modCore_mem (s : State) (c : CoreId) (g : CoreSt → CoreSt) : (s.modCore c g).mem = s.mem := rfl
@[simp] theorem State.modCore_ring (s : State) (c : CoreId) (g : CoreSt → CoreSt) : (s.modCore c g).ring = s.ring := rfl
@[simp] theorem State.modCore_xfer (s : State) (c : CoreId) (g : CoreSt → CoreSt) : (s.modCore c g).xfer = s.xfer := rfl
@[simp] theorem State.modCore_ride (s : State) (c : CoreId) (g : CoreSt → CoreSt) : (s.modCore c g).ride = s.ride := rfl
@[simp] theorem State.modCore_forr (s : State) (c : CoreId) (g : CoreSt → CoreSt) : (s.modCore c g).forr = s.forr := rfl
@[simp] theorem State.modCore_pwr (s : State) (c : CoreId) (g : CoreSt → CoreSt) : (s.modCore c g).pwr = s.pwr := rfl
@[simp] theorem State.modCore_nv (s : State) (c : CoreId) (g : CoreSt → CoreSt) : (s.modCore c g).nv = s.nv := rfl
@[simp] theorem State.modCore_wdn (s : State) (c : CoreId) (g : CoreSt → CoreSt) : (s.modCore c g).wdn = s.wdn := rfl
@[simp] theorem State.modCore_modu (s : State) (c : CoreId) (g : CoreSt → CoreSt) : (s.modCore c g).modu = s.modu := rfl
@[simp] theorem State.modCore_flt (s : State) (c : CoreId) (g : CoreSt → CoreSt) : (s.modCore c g).flt = s.flt := rfl
@[simp] theorem State.modCore_freeCtr (s : State) (c : CoreId) (g : CoreSt → CoreSt) : (s.modCore c g).freeCtr = s.freeCtr := rfl
@[simp] theorem State.modCore_entropy (s : State) (c : CoreId) (g : CoreSt → CoreSt) : (s.modCore c g).entropy = s.entropy := rfl
@[simp] theorem State.modCore_pending (s : State) (c : CoreId) (g : CoreSt → CoreSt) : (s.modCore c g).pending = s.pending := rfl
@[simp] theorem State.modCore_reg (s : State) (c : CoreId) (g : CoreSt → CoreSt) (r : Nat) : (s.modCore c g).reg r = s.reg r := rfl

/-! ### modMem -/

@[simp] theorem State.modMem_regs (s : State) (g : Mem → Mem) : (s.modMem g).regs = s.regs := rfl
@[simp] theorem State.modMem_ll (s : State) (g : Mem → Mem) : (s.modMem g).ll = s.ll := rfl
@[simp] theorem State.modMem_cores (s : State) (g : Mem → Mem) : (s.modMem g).cores = s.cores := rfl
@[simp] theorem State.modMem_ring (s : State) (g : Mem → Mem) : (s.modMem g).ring = s.ring := rfl
@[simp] theorem State.modMem_xfer (s : State) (g : Mem → Mem) : (s.modMem g).xfer = s.xfer := rfl
@[simp] theorem State.modMem_ride (s : State) (g : Mem → Mem) : (s.modMem g).ride = s.ride := rfl
@[simp] theorem State.modMem_forr (s : State) (g : Mem → Mem) : (s.modMem g).forr = s.forr := rfl
@[simp] theorem State.modMem_pwr (s : State) (g : Mem → Mem) : (s.modMem g).pwr = s.pwr := rfl
@[simp] theorem State.modMem_nv (s : State) (g : Mem → Mem) : (s.modMem g).nv = s.nv := rfl
@[simp] theorem State.modMem_wdn (s : State) (g : Mem → Mem) : (s.modMem g).wdn = s.wdn := rfl
@[simp] theorem State.modMem_modu (s : State) (g : Mem → Mem) : (s.modMem g).modu = s.modu := rfl
@[simp] theorem State.modMem_flt (s : State) (g : Mem → Mem) : (s.modMem g).flt = s.flt := rfl
@[simp] theorem State.modMem_freeCtr (s : State) (g : Mem → Mem) : (s.modMem g).freeCtr = s.freeCtr := rfl
@[simp] theorem State.modMem_entropy (s : State) (g : Mem → Mem) : (s.modMem g).entropy = s.entropy := rfl
@[simp] theorem State.modMem_pending (s : State) (g : Mem → Mem) : (s.modMem g).pending = s.pending := rfl
@[simp] theorem State.modMem_mem (s : State) (g : Mem → Mem) : (s.modMem g).mem = g s.mem := rfl
@[simp] theorem State.modMem_reg (s : State) (g : Mem → Mem) (r : Nat) : (s.modMem g).reg r = s.reg r := rfl
@[simp] theorem State.modMem_core (s : State) (g : Mem → Mem) (d : CoreId) : (s.modMem g).core d = s.core d := rfl

/-! ### modRing -/

@[simp] theorem State.modRing_regs (s : State) (g : RingSt → RingSt) : (s.modRing g).regs = s.regs := rfl
@[simp] theorem State.modRing_ll (s : State) (g : RingSt → RingSt) : (s.modRing g).ll = s.ll := rfl
@[simp] theorem State.modRing_cores (s : State) (g : RingSt → RingSt) : (s.modRing g).cores = s.cores := rfl
@[simp] theorem State.modRing_mem (s : State) (g : RingSt → RingSt) : (s.modRing g).mem = s.mem := rfl
@[simp] theorem State.modRing_xfer (s : State) (g : RingSt → RingSt) : (s.modRing g).xfer = s.xfer := rfl
@[simp] theorem State.modRing_ride (s : State) (g : RingSt → RingSt) : (s.modRing g).ride = s.ride := rfl
@[simp] theorem State.modRing_forr (s : State) (g : RingSt → RingSt) : (s.modRing g).forr = s.forr := rfl
@[simp] theorem State.modRing_pwr (s : State) (g : RingSt → RingSt) : (s.modRing g).pwr = s.pwr := rfl
@[simp] theorem State.modRing_nv (s : State) (g : RingSt → RingSt) : (s.modRing g).nv = s.nv := rfl
@[simp] theorem State.modRing_wdn (s : State) (g : RingSt → RingSt) : (s.modRing g).wdn = s.wdn := rfl
@[simp] theorem State.modRing_modu (s : State) (g : RingSt → RingSt) : (s.modRing g).modu = s.modu := rfl
@[simp] theorem State.modRing_flt (s : State) (g : RingSt → RingSt) : (s.modRing g).flt = s.flt := rfl
@[simp] theorem State.modRing_freeCtr (s : State) (g : RingSt → RingSt) : (s.modRing g).freeCtr = s.freeCtr := rfl
@[simp] theorem State.modRing_entropy (s : State) (g : RingSt → RingSt) : (s.modRing g).entropy = s.entropy := rfl
@[simp] theorem State.modRing_pending (s : State) (g : RingSt → RingSt) : (s.modRing g).pending = s.pending := rfl
@[simp] theorem State.modRing_ring (s : State) (g : RingSt → RingSt) : (s.modRing g).ring = g s.ring := rfl
@[simp] theorem State.modRing_reg (s : State) (g : RingSt → RingSt) (r : Nat) : (s.modRing g).reg r = s.reg r := rfl
@[simp] theorem State.modRing_core (s : State) (g : RingSt → RingSt) (d : CoreId) : (s.modRing g).core d = s.core d := rfl

/-! ### modRide -/

@[simp] theorem State.modRide_regs (s : State) (g : RideSt → RideSt) : (s.modRide g).regs = s.regs := rfl
@[simp] theorem State.modRide_ll (s : State) (g : RideSt → RideSt) : (s.modRide g).ll = s.ll := rfl
@[simp] theorem State.modRide_cores (s : State) (g : RideSt → RideSt) : (s.modRide g).cores = s.cores := rfl
@[simp] theorem State.modRide_mem (s : State) (g : RideSt → RideSt) : (s.modRide g).mem = s.mem := rfl
@[simp] theorem State.modRide_ring (s : State) (g : RideSt → RideSt) : (s.modRide g).ring = s.ring := rfl
@[simp] theorem State.modRide_xfer (s : State) (g : RideSt → RideSt) : (s.modRide g).xfer = s.xfer := rfl
@[simp] theorem State.modRide_forr (s : State) (g : RideSt → RideSt) : (s.modRide g).forr = s.forr := rfl
@[simp] theorem State.modRide_pwr (s : State) (g : RideSt → RideSt) : (s.modRide g).pwr = s.pwr := rfl
@[simp] theorem State.modRide_nv (s : State) (g : RideSt → RideSt) : (s.modRide g).nv = s.nv := rfl
@[simp] theorem State.modRide_wdn (s : State) (g : RideSt → RideSt) : (s.modRide g).wdn = s.wdn := rfl
@[simp] theorem State.modRide_modu (s : State) (g : RideSt → RideSt) : (s.modRide g).modu = s.modu := rfl
@[simp] theorem State.modRide_flt (s : State) (g : RideSt → RideSt) : (s.modRide g).flt = s.flt := rfl
@[simp] theorem State.modRide_freeCtr (s : State) (g : RideSt → RideSt) : (s.modRide g).freeCtr = s.freeCtr := rfl
@[simp] theorem State.modRide_entropy (s : State) (g : RideSt → RideSt) : (s.modRide g).entropy = s.entropy := rfl
@[simp] theorem State.modRide_pending (s : State) (g : RideSt → RideSt) : (s.modRide g).pending = s.pending := rfl
@[simp] theorem State.modRide_ride (s : State) (g : RideSt → RideSt) : (s.modRide g).ride = g s.ride := rfl
@[simp] theorem State.modRide_reg (s : State) (g : RideSt → RideSt) (r : Nat) : (s.modRide g).reg r = s.reg r := rfl
@[simp] theorem State.modRide_core (s : State) (g : RideSt → RideSt) (d : CoreId) : (s.modRide g).core d = s.core d := rfl

/-! ### modFor -/

@[simp] theorem State.modFor_regs (s : State) (g : ForSt → ForSt) : (s.modFor g).regs = s.regs := rfl
@[simp] theorem State.modFor_ll (s : State) (g : ForSt → ForSt) : (s.modFor g).ll = s.ll := rfl
@[simp] theorem State.modFor_cores (s : State) (g : ForSt → ForSt) : (s.modFor g).cores = s.cores := rfl
@[simp] theorem State.modFor_mem (s : State) (g : ForSt → ForSt) : (s.modFor g).mem = s.mem := rfl
@[simp] theorem State.modFor_ring (s : State) (g : ForSt → ForSt) : (s.modFor g).ring = s.ring := rfl
@[simp] theorem State.modFor_xfer (s : State) (g : ForSt → ForSt) : (s.modFor g).xfer = s.xfer := rfl
@[simp] theorem State.modFor_ride (s : State) (g : ForSt → ForSt) : (s.modFor g).ride = s.ride := rfl
@[simp] theorem State.modFor_pwr (s : State) (g : ForSt → ForSt) : (s.modFor g).pwr = s.pwr := rfl
@[simp] theorem State.modFor_nv (s : State) (g : ForSt → ForSt) : (s.modFor g).nv = s.nv := rfl
@[simp] theorem State.modFor_wdn (s : State) (g : ForSt → ForSt) : (s.modFor g).wdn = s.wdn := rfl
@[simp] theorem State.modFor_modu (s : State) (g : ForSt → ForSt) : (s.modFor g).modu = s.modu := rfl
@[simp] theorem State.modFor_flt (s : State) (g : ForSt → ForSt) : (s.modFor g).flt = s.flt := rfl
@[simp] theorem State.modFor_freeCtr (s : State) (g : ForSt → ForSt) : (s.modFor g).freeCtr = s.freeCtr := rfl
@[simp] theorem State.modFor_entropy (s : State) (g : ForSt → ForSt) : (s.modFor g).entropy = s.entropy := rfl
@[simp] theorem State.modFor_pending (s : State) (g : ForSt → ForSt) : (s.modFor g).pending = s.pending := rfl
@[simp] theorem State.modFor_forr (s : State) (g : ForSt → ForSt) : (s.modFor g).forr = g s.forr := rfl
@[simp] theorem State.modFor_reg (s : State) (g : ForSt → ForSt) (r : Nat) : (s.modFor g).reg r = s.reg r := rfl
@[simp] theorem State.modFor_core (s : State) (g : ForSt → ForSt) (d : CoreId) : (s.modFor g).core d = s.core d := rfl

/-! ### modPwr -/

@[simp] theorem State.modPwr_regs (s : State) (g : PwrSt → PwrSt) : (s.modPwr g).regs = s.regs := rfl
@[simp] theorem State.modPwr_ll (s : State) (g : PwrSt → PwrSt) : (s.modPwr g).ll = s.ll := rfl
@[simp] theorem State.modPwr_cores (s : State) (g : PwrSt → PwrSt) : (s.modPwr g).cores = s.cores := rfl
@[simp] theorem State.modPwr_mem (s : State) (g : PwrSt → PwrSt) : (s.modPwr g).mem = s.mem := rfl
@[simp] theorem State.modPwr_ring (s : State) (g : PwrSt → PwrSt) : (s.modPwr g).ring = s.ring := rfl
@[simp] theorem State.modPwr_xfer (s : State) (g : PwrSt → PwrSt) : (s.modPwr g).xfer = s.xfer := rfl
@[simp] theorem State.modPwr_ride (s : State) (g : PwrSt → PwrSt) : (s.modPwr g).ride = s.ride := rfl
@[simp] theorem State.modPwr_forr (s : State) (g : PwrSt → PwrSt) : (s.modPwr g).forr = s.forr := rfl
@[simp] theorem State.modPwr_nv (s : State) (g : PwrSt → PwrSt) : (s.modPwr g).nv = s.nv := rfl
@[simp] theorem State.modPwr_wdn (s : State) (g : PwrSt → PwrSt) : (s.modPwr g).wdn = s.wdn := rfl
@[simp] theorem State.modPwr_modu (s : State) (g : PwrSt → PwrSt) : (s.modPwr g).modu = s.modu := rfl
@[simp] theorem State.modPwr_flt (s : State) (g : PwrSt → PwrSt) : (s.modPwr g).flt = s.flt := rfl
@[simp] theorem State.modPwr_freeCtr (s : State) (g : PwrSt → PwrSt) : (s.modPwr g).freeCtr = s.freeCtr := rfl
@[simp] theorem State.modPwr_entropy (s : State) (g : PwrSt → PwrSt) : (s.modPwr g).entropy = s.entropy := rfl
@[simp] theorem State.modPwr_pending (s : State) (g : PwrSt → PwrSt) : (s.modPwr g).pending = s.pending := rfl
@[simp] theorem State.modPwr_pwr (s : State) (g : PwrSt → PwrSt) : (s.modPwr g).pwr = g s.pwr := rfl
@[simp] theorem State.modPwr_reg (s : State) (g : PwrSt → PwrSt) (r : Nat) : (s.modPwr g).reg r = s.reg r := rfl
@[simp] theorem State.modPwr_core (s : State) (g : PwrSt → PwrSt) (d : CoreId) : (s.modPwr g).core d = s.core d := rfl

/-! ### modWdn -/

@[simp] theorem State.modWdn_regs (s : State) (g : WdnSt → WdnSt) : (s.modWdn g).regs = s.regs := rfl
@[simp] theorem State.modWdn_ll (s : State) (g : WdnSt → WdnSt) : (s.modWdn g).ll = s.ll := rfl
@[simp] theorem State.modWdn_cores (s : State) (g : WdnSt → WdnSt) : (s.modWdn g).cores = s.cores := rfl
@[simp] theorem State.modWdn_mem (s : State) (g : WdnSt → WdnSt) : (s.modWdn g).mem = s.mem := rfl
@[simp] theorem State.modWdn_ring (s : State) (g : WdnSt → WdnSt) : (s.modWdn g).ring = s.ring := rfl
@[simp] theorem State.modWdn_xfer (s : State) (g : WdnSt → WdnSt) : (s.modWdn g).xfer = s.xfer := rfl
@[simp] theorem State.modWdn_ride (s : State) (g : WdnSt → WdnSt) : (s.modWdn g).ride = s.ride := rfl
@[simp] theorem State.modWdn_forr (s : State) (g : WdnSt → WdnSt) : (s.modWdn g).forr = s.forr := rfl
@[simp] theorem State.modWdn_pwr (s : State) (g : WdnSt → WdnSt) : (s.modWdn g).pwr = s.pwr := rfl
@[simp] theorem State.modWdn_nv (s : State) (g : WdnSt → WdnSt) : (s.modWdn g).nv = s.nv := rfl
@[simp] theorem State.modWdn_modu (s : State) (g : WdnSt → WdnSt) : (s.modWdn g).modu = s.modu := rfl
@[simp] theorem State.modWdn_flt (s : State) (g : WdnSt → WdnSt) : (s.modWdn g).flt = s.flt := rfl
@[simp] theorem State.modWdn_freeCtr (s : State) (g : WdnSt → WdnSt) : (s.modWdn g).freeCtr = s.freeCtr := rfl
@[simp] theorem State.modWdn_entropy (s : State) (g : WdnSt → WdnSt) : (s.modWdn g).entropy = s.entropy := rfl
@[simp] theorem State.modWdn_pending (s : State) (g : WdnSt → WdnSt) : (s.modWdn g).pending = s.pending := rfl
@[simp] theorem State.modWdn_wdn (s : State) (g : WdnSt → WdnSt) : (s.modWdn g).wdn = g s.wdn := rfl
@[simp] theorem State.modWdn_reg (s : State) (g : WdnSt → WdnSt) (r : Nat) : (s.modWdn g).reg r = s.reg r := rfl
@[simp] theorem State.modWdn_core (s : State) (g : WdnSt → WdnSt) (d : CoreId) : (s.modWdn g).core d = s.core d := rfl

/-! ### modEng -/

@[simp] theorem State.modEng_regs (s : State) (e : Fin 16) (g : XEng → XEng) : (s.modEng e g).regs = s.regs := rfl
@[simp] theorem State.modEng_ll (s : State) (e : Fin 16) (g : XEng → XEng) : (s.modEng e g).ll = s.ll := rfl
@[simp] theorem State.modEng_cores (s : State) (e : Fin 16) (g : XEng → XEng) : (s.modEng e g).cores = s.cores := rfl
@[simp] theorem State.modEng_mem (s : State) (e : Fin 16) (g : XEng → XEng) : (s.modEng e g).mem = s.mem := rfl
@[simp] theorem State.modEng_ring (s : State) (e : Fin 16) (g : XEng → XEng) : (s.modEng e g).ring = s.ring := rfl
@[simp] theorem State.modEng_ride (s : State) (e : Fin 16) (g : XEng → XEng) : (s.modEng e g).ride = s.ride := rfl
@[simp] theorem State.modEng_forr (s : State) (e : Fin 16) (g : XEng → XEng) : (s.modEng e g).forr = s.forr := rfl
@[simp] theorem State.modEng_pwr (s : State) (e : Fin 16) (g : XEng → XEng) : (s.modEng e g).pwr = s.pwr := rfl
@[simp] theorem State.modEng_nv (s : State) (e : Fin 16) (g : XEng → XEng) : (s.modEng e g).nv = s.nv := rfl
@[simp] theorem State.modEng_wdn (s : State) (e : Fin 16) (g : XEng → XEng) : (s.modEng e g).wdn = s.wdn := rfl
@[simp] theorem State.modEng_modu (s : State) (e : Fin 16) (g : XEng → XEng) : (s.modEng e g).modu = s.modu := rfl
@[simp] theorem State.modEng_flt (s : State) (e : Fin 16) (g : XEng → XEng) : (s.modEng e g).flt = s.flt := rfl
@[simp] theorem State.modEng_freeCtr (s : State) (e : Fin 16) (g : XEng → XEng) : (s.modEng e g).freeCtr = s.freeCtr := rfl
@[simp] theorem State.modEng_entropy (s : State) (e : Fin 16) (g : XEng → XEng) : (s.modEng e g).entropy = s.entropy := rfl
@[simp] theorem State.modEng_pending (s : State) (e : Fin 16) (g : XEng → XEng) : (s.modEng e g).pending = s.pending := rfl
@[simp] theorem State.modEng_reg (s : State) (e : Fin 16) (g : XEng → XEng) (r : Nat) : (s.modEng e g).reg r = s.reg r := rfl
@[simp] theorem State.modEng_core (s : State) (e : Fin 16) (g : XEng → XEng) (d : CoreId) : (s.modEng e g).core d = s.core d := rfl

/-! ### Registers -/

@[simp] theorem State.reg_setReg_self (s : State) (a : Nat) (w : Word) : (s.setReg a w).reg a = w := mapGet_mapPut_self regReset s.regs a w

theorem State.reg_setReg_ne (s : State) {a b : Nat} (w : Word) (h : b ≠ a) : (s.setReg a w).reg b = s.reg b :=
  mapGet_mapPut_ne regReset s.regs w h

/-- A register read after a write of a register. -/
theorem State.reg_setReg (s : State) (a b : Nat) (w : Word) : (s.setReg a w).reg b = if b = a then w else s.reg b := by
  by_cases h : b = a
  · subst h; simp
  · simp [h, State.reg_setReg_ne s w h]

theorem State.reg_setFld_ne (s : State) {a b : Nat} (f : Fld) (v : Nat) (h : b ≠ a) : (s.setFld a f v).reg b = s.reg b :=
  State.reg_setReg_ne s _ h

@[simp] theorem State.reg_setFld_self (s : State) (a : Nat) (f : Fld) (v : Nat) : (s.setFld a f v).reg a = f.set v (s.reg a) :=
  State.reg_setReg_self s a _

theorem State.reg_setBit_ne (s : State) {a b : Nat} (f : Fld) (v : Bool) (h : b ≠ a) : (s.setBit a f v).reg b = s.reg b :=
  State.reg_setReg_ne s _ h

/-! ### Cores and engines -/

@[simp] theorem State.core_setCore_self (s : State) (c : CoreId) (k : CoreSt) : (s.setCore c k).core c = k := by
  show (s.cores.set c.val k c.isLt)[c.val] = k
  simp

theorem State.core_setCore_ne (s : State) {c d : CoreId} (k : CoreSt) (h : d ≠ c) : (s.setCore c k).core d = s.core d := by
  have h' : c.val ≠ d.val := fun e => h (Fin.ext e.symm)
  show (s.cores.set c.val k c.isLt)[d.val] = s.cores[d.val]
  rw [Vector.getElem_set]
  simp [h']

@[simp] theorem State.core_modCore_self (s : State) (c : CoreId) (g : CoreSt → CoreSt) : (s.modCore c g).core c = g (s.core c) :=
  State.core_setCore_self s c _

theorem State.core_modCore_ne (s : State) {c d : CoreId} (g : CoreSt → CoreSt) (h : d ≠ c) : (s.modCore c g).core d = s.core d :=
  State.core_setCore_ne s _ h

/-! ### A core's registers -/

@[simp] theorem CoreSt.getX_zero (k : CoreSt) : k.getX 0 = 0 := rfl

@[simp] theorem CoreSt.setX_zero (k : CoreSt) (w : Word) : k.setX 0 w = k := rfl

theorem CoreSt.getX_setX_self (k : CoreSt) {r : BitVec 5} (w : Word) (h : r ≠ 0) : (k.setX r w).getX r = w := by
  simp only [CoreSt.getX, CoreSt.setX, h, if_false]
  show (k.x.set r.toFin.val w r.toFin.isLt)[r.toFin.val] = w
  simp

theorem CoreSt.getX_setX_ne (k : CoreSt) {r q : BitVec 5} (w : Word) (h : q ≠ r) : (k.setX r w).getX q = k.getX q := by
  have h' : r.toNat ≠ q.toNat := fun e => h (BitVec.eq_of_toNat_eq e.symm)
  by_cases hr : r = 0
  · simp [CoreSt.setX, hr]
  · by_cases hq : q = 0
    · simp [CoreSt.getX, hq]
    · simp only [CoreSt.getX, CoreSt.setX, hr, hq, if_false]
      show (k.x.set r.toFin.val w r.toFin.isLt)[q.toFin.val] = k.x[q.toFin.val]
      rw [Vector.getElem_set]
      simp [h']

@[simp] theorem CoreSt.setX_pc (k : CoreSt) (r : BitVec 5) (w : Word) : (k.setX r w).pc = k.pc := by unfold CoreSt.setX; split <;> rfl
@[simp] theorem CoreSt.setX_f (k : CoreSt) (r : BitVec 5) (w : Word) : (k.setX r w).f = k.f := by unfold CoreSt.setX; split <;> rfl
@[simp] theorem CoreSt.setX_v (k : CoreSt) (r : BitVec 5) (w : Word) : (k.setX r w).v = k.v := by unfold CoreSt.setX; split <;> rfl
@[simp] theorem CoreSt.setX_m (k : CoreSt) (r : BitVec 5) (w : Word) : (k.setX r w).m = k.m := by unfold CoreSt.setX; split <;> rfl
@[simp] theorem CoreSt.setX_tiles (k : CoreSt) (r : BitVec 5) (w : Word) : (k.setX r w).tiles = k.tiles := by unfold CoreSt.setX; split <;> rfl
@[simp] theorem CoreSt.setX_sealKey (k : CoreSt) (r : BitVec 5) (w : Word) : (k.setX r w).sealKey = k.sealKey := by unfold CoreSt.setX; split <;> rfl
@[simp] theorem CoreSt.setX_wait (k : CoreSt) (r : BitVec 5) (w : Word) : (k.setX r w).wait = k.wait := by unfold CoreSt.setX; split <;> rfl
@[simp] theorem CoreSt.setX_mbuf (k : CoreSt) (r : BitVec 5) (w : Word) : (k.setX r w).mbuf = k.mbuf := by unfold CoreSt.setX; split <;> rfl
@[simp] theorem CoreSt.setX_fetch (k : CoreSt) (r : BitVec 5) (w : Word) : (k.setX r w).fetch = k.fetch := by unfold CoreSt.setX; split <;> rfl
@[simp] theorem CoreSt.setX_l1 (k : CoreSt) (r : BitVec 5) (w : Word) : (k.setX r w).l1 = k.l1 := by unfold CoreSt.setX; split <;> rfl
@[simp] theorem CoreSt.setX_pf (k : CoreSt) (r : BitVec 5) (w : Word) : (k.setX r w).pf = k.pf := by unfold CoreSt.setX; split <;> rfl
@[simp] theorem CoreSt.setX_tileQ (k : CoreSt) (r : BitVec 5) (w : Word) : (k.setX r w).tileQ = k.tileQ := by unfold CoreSt.setX; split <;> rfl
@[simp] theorem CoreSt.setX_reuse (k : CoreSt) (r : BitVec 5) (w : Word) : (k.setX r w).reuse = k.reuse := by unfold CoreSt.setX; split <;> rfl
@[simp] theorem CoreSt.setX_vecQ (k : CoreSt) (r : BitVec 5) (w : Word) : (k.setX r w).vecQ = k.vecQ := by unfold CoreSt.setX; split <;> rfl
@[simp] theorem CoreSt.setX_spilled (k : CoreSt) (r : BitVec 5) (w : Word) : (k.setX r w).spilled = k.spilled := by unfold CoreSt.setX; split <;> rfl
@[simp] theorem CoreSt.setX_pendTimer (k : CoreSt) (r : BitVec 5) (w : Word) : (k.setX r w).pendTimer = k.pendTimer := by unfold CoreSt.setX; split <;> rfl
@[simp] theorem CoreSt.setX_bad (k : CoreSt) (r : BitVec 5) (w : Word) : (k.setX r w).bad = k.bad := by unfold CoreSt.setX; split <;> rfl
@[simp] theorem CoreSt.setX_badRes (k : CoreSt) (r : BitVec 5) (w : Word) : (k.setX r w).badRes = k.badRes := by unfold CoreSt.setX; split <;> rfl
@[simp] theorem CoreSt.setX_l1Bad (k : CoreSt) (r : BitVec 5) (w : Word) : (k.setX r w).l1Bad = k.l1Bad := by unfold CoreSt.setX; split <;> rfl
@[simp] theorem CoreSt.setX_order (k : CoreSt) (r : BitVec 5) (w : Word) : (k.setX r w).order = k.order := by unfold CoreSt.setX; split <;> rfl
@[simp] theorem CoreSt.setX_pendVL (k : CoreSt) (r : BitVec 5) (w : Word) : (k.setX r w).pendVL = k.pendVL := by unfold CoreSt.setX; split <;> rfl
@[simp] theorem CoreSt.setX_pendVprog (k : CoreSt) (r : BitVec 5) (w : Word) : (k.setX r w).pendVprog = k.pendVprog := by unfold CoreSt.setX; split <;> rfl
@[simp] theorem CoreSt.setX_pendMode (k : CoreSt) (r : BitVec 5) (w : Word) : (k.setX r w).pendMode = k.pendMode := by unfold CoreSt.setX; split <;> rfl
@[simp] theorem CoreSt.setX_pendSeed (k : CoreSt) (r : BitVec 5) (w : Word) : (k.setX r w).pendSeed = k.pendSeed := by unfold CoreSt.setX; split <;> rfl
@[simp] theorem CoreSt.setX_pendRngMode (k : CoreSt) (r : BitVec 5) (w : Word) : (k.setX r w).pendRngMode = k.pendRngMode := by unfold CoreSt.setX; split <;> rfl
@[simp] theorem CoreSt.setX_pendRng (k : CoreSt) (r : BitVec 5) (w : Word) : (k.setX r w).pendRng = k.pendRng := by unfold CoreSt.setX; split <;> rfl
@[simp] theorem CoreSt.setX_stopReq (k : CoreSt) (r : BitVec 5) (w : Word) : (k.setX r w).stopReq = k.stopReq := by unfold CoreSt.setX; split <;> rfl
@[simp] theorem CoreSt.setX_qwEnd (k : CoreSt) (r : BitVec 5) (w : Word) : (k.setX r w).qwEnd = k.qwEnd := by unfold CoreSt.setX; split <;> rfl
@[simp] theorem CoreSt.setX_stepDue (k : CoreSt) (r : BitVec 5) (w : Word) : (k.setX r w).stepDue = k.stepDue := by unfold CoreSt.setX; split <;> rfl
@[simp] theorem CoreSt.setX_mcDue (k : CoreSt) (r : BitVec 5) (w : Word) : (k.setX r w).mcDue = k.mcDue := by unfold CoreSt.setX; split <;> rfl
@[simp] theorem CoreSt.setX_held (k : CoreSt) (r : BitVec 5) (w : Word) : (k.setX r w).held = k.held := by unfold CoreSt.setX; split <;> rfl

@[simp] theorem CoreSt.setF_pc (k : CoreSt) (r : BitVec 5) (w : Word) : (k.setF r w).pc = k.pc := rfl
@[simp] theorem CoreSt.setF_x (k : CoreSt) (r : BitVec 5) (w : Word) : (k.setF r w).x = k.x := rfl
@[simp] theorem CoreSt.setF_v (k : CoreSt) (r : BitVec 5) (w : Word) : (k.setF r w).v = k.v := rfl
@[simp] theorem CoreSt.setF_m (k : CoreSt) (r : BitVec 5) (w : Word) : (k.setF r w).m = k.m := rfl
@[simp] theorem CoreSt.setF_tiles (k : CoreSt) (r : BitVec 5) (w : Word) : (k.setF r w).tiles = k.tiles := rfl
@[simp] theorem CoreSt.setF_sealKey (k : CoreSt) (r : BitVec 5) (w : Word) : (k.setF r w).sealKey = k.sealKey := rfl
@[simp] theorem CoreSt.setF_wait (k : CoreSt) (r : BitVec 5) (w : Word) : (k.setF r w).wait = k.wait := rfl
@[simp] theorem CoreSt.setF_mbuf (k : CoreSt) (r : BitVec 5) (w : Word) : (k.setF r w).mbuf = k.mbuf := rfl
@[simp] theorem CoreSt.setF_fetch (k : CoreSt) (r : BitVec 5) (w : Word) : (k.setF r w).fetch = k.fetch := rfl
@[simp] theorem CoreSt.setF_l1 (k : CoreSt) (r : BitVec 5) (w : Word) : (k.setF r w).l1 = k.l1 := rfl
@[simp] theorem CoreSt.setF_pf (k : CoreSt) (r : BitVec 5) (w : Word) : (k.setF r w).pf = k.pf := rfl
@[simp] theorem CoreSt.setF_tileQ (k : CoreSt) (r : BitVec 5) (w : Word) : (k.setF r w).tileQ = k.tileQ := rfl
@[simp] theorem CoreSt.setF_reuse (k : CoreSt) (r : BitVec 5) (w : Word) : (k.setF r w).reuse = k.reuse := rfl
@[simp] theorem CoreSt.setF_vecQ (k : CoreSt) (r : BitVec 5) (w : Word) : (k.setF r w).vecQ = k.vecQ := rfl
@[simp] theorem CoreSt.setF_spilled (k : CoreSt) (r : BitVec 5) (w : Word) : (k.setF r w).spilled = k.spilled := rfl
@[simp] theorem CoreSt.setF_pendTimer (k : CoreSt) (r : BitVec 5) (w : Word) : (k.setF r w).pendTimer = k.pendTimer := rfl
@[simp] theorem CoreSt.setF_bad (k : CoreSt) (r : BitVec 5) (w : Word) : (k.setF r w).bad = k.bad := rfl
@[simp] theorem CoreSt.setF_badRes (k : CoreSt) (r : BitVec 5) (w : Word) : (k.setF r w).badRes = k.badRes := rfl
@[simp] theorem CoreSt.setF_l1Bad (k : CoreSt) (r : BitVec 5) (w : Word) : (k.setF r w).l1Bad = k.l1Bad := rfl
@[simp] theorem CoreSt.setF_order (k : CoreSt) (r : BitVec 5) (w : Word) : (k.setF r w).order = k.order := rfl
@[simp] theorem CoreSt.setF_pendVL (k : CoreSt) (r : BitVec 5) (w : Word) : (k.setF r w).pendVL = k.pendVL := rfl
@[simp] theorem CoreSt.setF_pendVprog (k : CoreSt) (r : BitVec 5) (w : Word) : (k.setF r w).pendVprog = k.pendVprog := rfl
@[simp] theorem CoreSt.setF_pendMode (k : CoreSt) (r : BitVec 5) (w : Word) : (k.setF r w).pendMode = k.pendMode := rfl
@[simp] theorem CoreSt.setF_pendSeed (k : CoreSt) (r : BitVec 5) (w : Word) : (k.setF r w).pendSeed = k.pendSeed := rfl
@[simp] theorem CoreSt.setF_pendRngMode (k : CoreSt) (r : BitVec 5) (w : Word) : (k.setF r w).pendRngMode = k.pendRngMode := rfl
@[simp] theorem CoreSt.setF_pendRng (k : CoreSt) (r : BitVec 5) (w : Word) : (k.setF r w).pendRng = k.pendRng := rfl
@[simp] theorem CoreSt.setF_stopReq (k : CoreSt) (r : BitVec 5) (w : Word) : (k.setF r w).stopReq = k.stopReq := rfl
@[simp] theorem CoreSt.setF_qwEnd (k : CoreSt) (r : BitVec 5) (w : Word) : (k.setF r w).qwEnd = k.qwEnd := rfl
@[simp] theorem CoreSt.setF_stepDue (k : CoreSt) (r : BitVec 5) (w : Word) : (k.setF r w).stepDue = k.stepDue := rfl
@[simp] theorem CoreSt.setF_mcDue (k : CoreSt) (r : BitVec 5) (w : Word) : (k.setF r w).mcDue = k.mcDue := rfl
@[simp] theorem CoreSt.setF_held (k : CoreSt) (r : BitVec 5) (w : Word) : (k.setF r w).held = k.held := rfl

@[simp] theorem CoreSt.setV_pc (k : CoreSt) (r : BitVec 5) (w : BitVec 8192) : (k.setV r w).pc = k.pc := rfl
@[simp] theorem CoreSt.setV_x (k : CoreSt) (r : BitVec 5) (w : BitVec 8192) : (k.setV r w).x = k.x := rfl
@[simp] theorem CoreSt.setV_f (k : CoreSt) (r : BitVec 5) (w : BitVec 8192) : (k.setV r w).f = k.f := rfl
@[simp] theorem CoreSt.setV_m (k : CoreSt) (r : BitVec 5) (w : BitVec 8192) : (k.setV r w).m = k.m := rfl
@[simp] theorem CoreSt.setV_tiles (k : CoreSt) (r : BitVec 5) (w : BitVec 8192) : (k.setV r w).tiles = k.tiles := rfl
@[simp] theorem CoreSt.setV_sealKey (k : CoreSt) (r : BitVec 5) (w : BitVec 8192) : (k.setV r w).sealKey = k.sealKey := rfl
@[simp] theorem CoreSt.setV_wait (k : CoreSt) (r : BitVec 5) (w : BitVec 8192) : (k.setV r w).wait = k.wait := rfl
@[simp] theorem CoreSt.setV_mbuf (k : CoreSt) (r : BitVec 5) (w : BitVec 8192) : (k.setV r w).mbuf = k.mbuf := rfl
@[simp] theorem CoreSt.setV_fetch (k : CoreSt) (r : BitVec 5) (w : BitVec 8192) : (k.setV r w).fetch = k.fetch := rfl
@[simp] theorem CoreSt.setV_l1 (k : CoreSt) (r : BitVec 5) (w : BitVec 8192) : (k.setV r w).l1 = k.l1 := rfl
@[simp] theorem CoreSt.setV_pf (k : CoreSt) (r : BitVec 5) (w : BitVec 8192) : (k.setV r w).pf = k.pf := rfl
@[simp] theorem CoreSt.setV_tileQ (k : CoreSt) (r : BitVec 5) (w : BitVec 8192) : (k.setV r w).tileQ = k.tileQ := rfl
@[simp] theorem CoreSt.setV_reuse (k : CoreSt) (r : BitVec 5) (w : BitVec 8192) : (k.setV r w).reuse = k.reuse := rfl
@[simp] theorem CoreSt.setV_vecQ (k : CoreSt) (r : BitVec 5) (w : BitVec 8192) : (k.setV r w).vecQ = k.vecQ := rfl
@[simp] theorem CoreSt.setV_spilled (k : CoreSt) (r : BitVec 5) (w : BitVec 8192) : (k.setV r w).spilled = k.spilled := rfl
@[simp] theorem CoreSt.setV_pendTimer (k : CoreSt) (r : BitVec 5) (w : BitVec 8192) : (k.setV r w).pendTimer = k.pendTimer := rfl
@[simp] theorem CoreSt.setV_badRes (k : CoreSt) (r : BitVec 5) (w : BitVec 8192) : (k.setV r w).badRes = k.badRes := rfl
@[simp] theorem CoreSt.setV_l1Bad (k : CoreSt) (r : BitVec 5) (w : BitVec 8192) : (k.setV r w).l1Bad = k.l1Bad := rfl
@[simp] theorem CoreSt.setV_order (k : CoreSt) (r : BitVec 5) (w : BitVec 8192) : (k.setV r w).order = k.order := rfl
@[simp] theorem CoreSt.setV_pendVL (k : CoreSt) (r : BitVec 5) (w : BitVec 8192) : (k.setV r w).pendVL = k.pendVL := rfl
@[simp] theorem CoreSt.setV_pendVprog (k : CoreSt) (r : BitVec 5) (w : BitVec 8192) : (k.setV r w).pendVprog = k.pendVprog := rfl
@[simp] theorem CoreSt.setV_pendMode (k : CoreSt) (r : BitVec 5) (w : BitVec 8192) : (k.setV r w).pendMode = k.pendMode := rfl
@[simp] theorem CoreSt.setV_pendSeed (k : CoreSt) (r : BitVec 5) (w : BitVec 8192) : (k.setV r w).pendSeed = k.pendSeed := rfl
@[simp] theorem CoreSt.setV_pendRngMode (k : CoreSt) (r : BitVec 5) (w : BitVec 8192) : (k.setV r w).pendRngMode = k.pendRngMode := rfl
@[simp] theorem CoreSt.setV_pendRng (k : CoreSt) (r : BitVec 5) (w : BitVec 8192) : (k.setV r w).pendRng = k.pendRng := rfl
@[simp] theorem CoreSt.setV_stopReq (k : CoreSt) (r : BitVec 5) (w : BitVec 8192) : (k.setV r w).stopReq = k.stopReq := rfl
@[simp] theorem CoreSt.setV_qwEnd (k : CoreSt) (r : BitVec 5) (w : BitVec 8192) : (k.setV r w).qwEnd = k.qwEnd := rfl
@[simp] theorem CoreSt.setV_stepDue (k : CoreSt) (r : BitVec 5) (w : BitVec 8192) : (k.setV r w).stepDue = k.stepDue := rfl
@[simp] theorem CoreSt.setV_mcDue (k : CoreSt) (r : BitVec 5) (w : BitVec 8192) : (k.setV r w).mcDue = k.mcDue := rfl
@[simp] theorem CoreSt.setV_held (k : CoreSt) (r : BitVec 5) (w : BitVec 8192) : (k.setV r w).held = k.held := rfl

@[simp] theorem CoreSt.setM_pc (k : CoreSt) (r : BitVec 3) (w : BitVec 1024) : (k.setM r w).pc = k.pc := rfl
@[simp] theorem CoreSt.setM_x (k : CoreSt) (r : BitVec 3) (w : BitVec 1024) : (k.setM r w).x = k.x := rfl
@[simp] theorem CoreSt.setM_f (k : CoreSt) (r : BitVec 3) (w : BitVec 1024) : (k.setM r w).f = k.f := rfl
@[simp] theorem CoreSt.setM_v (k : CoreSt) (r : BitVec 3) (w : BitVec 1024) : (k.setM r w).v = k.v := rfl
@[simp] theorem CoreSt.setM_tiles (k : CoreSt) (r : BitVec 3) (w : BitVec 1024) : (k.setM r w).tiles = k.tiles := rfl
@[simp] theorem CoreSt.setM_sealKey (k : CoreSt) (r : BitVec 3) (w : BitVec 1024) : (k.setM r w).sealKey = k.sealKey := rfl
@[simp] theorem CoreSt.setM_wait (k : CoreSt) (r : BitVec 3) (w : BitVec 1024) : (k.setM r w).wait = k.wait := rfl
@[simp] theorem CoreSt.setM_mbuf (k : CoreSt) (r : BitVec 3) (w : BitVec 1024) : (k.setM r w).mbuf = k.mbuf := rfl
@[simp] theorem CoreSt.setM_fetch (k : CoreSt) (r : BitVec 3) (w : BitVec 1024) : (k.setM r w).fetch = k.fetch := rfl
@[simp] theorem CoreSt.setM_l1 (k : CoreSt) (r : BitVec 3) (w : BitVec 1024) : (k.setM r w).l1 = k.l1 := rfl
@[simp] theorem CoreSt.setM_pf (k : CoreSt) (r : BitVec 3) (w : BitVec 1024) : (k.setM r w).pf = k.pf := rfl
@[simp] theorem CoreSt.setM_tileQ (k : CoreSt) (r : BitVec 3) (w : BitVec 1024) : (k.setM r w).tileQ = k.tileQ := rfl
@[simp] theorem CoreSt.setM_reuse (k : CoreSt) (r : BitVec 3) (w : BitVec 1024) : (k.setM r w).reuse = k.reuse := rfl
@[simp] theorem CoreSt.setM_vecQ (k : CoreSt) (r : BitVec 3) (w : BitVec 1024) : (k.setM r w).vecQ = k.vecQ := rfl
@[simp] theorem CoreSt.setM_spilled (k : CoreSt) (r : BitVec 3) (w : BitVec 1024) : (k.setM r w).spilled = k.spilled := rfl
@[simp] theorem CoreSt.setM_pendTimer (k : CoreSt) (r : BitVec 3) (w : BitVec 1024) : (k.setM r w).pendTimer = k.pendTimer := rfl
@[simp] theorem CoreSt.setM_badRes (k : CoreSt) (r : BitVec 3) (w : BitVec 1024) : (k.setM r w).badRes = k.badRes := rfl
@[simp] theorem CoreSt.setM_l1Bad (k : CoreSt) (r : BitVec 3) (w : BitVec 1024) : (k.setM r w).l1Bad = k.l1Bad := rfl
@[simp] theorem CoreSt.setM_order (k : CoreSt) (r : BitVec 3) (w : BitVec 1024) : (k.setM r w).order = k.order := rfl
@[simp] theorem CoreSt.setM_pendVL (k : CoreSt) (r : BitVec 3) (w : BitVec 1024) : (k.setM r w).pendVL = k.pendVL := rfl
@[simp] theorem CoreSt.setM_pendVprog (k : CoreSt) (r : BitVec 3) (w : BitVec 1024) : (k.setM r w).pendVprog = k.pendVprog := rfl
@[simp] theorem CoreSt.setM_pendMode (k : CoreSt) (r : BitVec 3) (w : BitVec 1024) : (k.setM r w).pendMode = k.pendMode := rfl
@[simp] theorem CoreSt.setM_pendSeed (k : CoreSt) (r : BitVec 3) (w : BitVec 1024) : (k.setM r w).pendSeed = k.pendSeed := rfl
@[simp] theorem CoreSt.setM_pendRngMode (k : CoreSt) (r : BitVec 3) (w : BitVec 1024) : (k.setM r w).pendRngMode = k.pendRngMode := rfl
@[simp] theorem CoreSt.setM_pendRng (k : CoreSt) (r : BitVec 3) (w : BitVec 1024) : (k.setM r w).pendRng = k.pendRng := rfl
@[simp] theorem CoreSt.setM_stopReq (k : CoreSt) (r : BitVec 3) (w : BitVec 1024) : (k.setM r w).stopReq = k.stopReq := rfl
@[simp] theorem CoreSt.setM_qwEnd (k : CoreSt) (r : BitVec 3) (w : BitVec 1024) : (k.setM r w).qwEnd = k.qwEnd := rfl
@[simp] theorem CoreSt.setM_stepDue (k : CoreSt) (r : BitVec 3) (w : BitVec 1024) : (k.setM r w).stepDue = k.stepDue := rfl
@[simp] theorem CoreSt.setM_mcDue (k : CoreSt) (r : BitVec 3) (w : BitVec 1024) : (k.setM r w).mcDue = k.mcDue := rfl
@[simp] theorem CoreSt.setM_held (k : CoreSt) (r : BitVec 3) (w : BitVec 1024) : (k.setM r w).held = k.held := rfl

@[simp] theorem CoreSt.setT_pc (k : CoreSt) (r : BitVec 3) (w : Tile) : (k.setT r w).pc = k.pc := rfl
@[simp] theorem CoreSt.setT_x (k : CoreSt) (r : BitVec 3) (w : Tile) : (k.setT r w).x = k.x := rfl
@[simp] theorem CoreSt.setT_f (k : CoreSt) (r : BitVec 3) (w : Tile) : (k.setT r w).f = k.f := rfl
@[simp] theorem CoreSt.setT_v (k : CoreSt) (r : BitVec 3) (w : Tile) : (k.setT r w).v = k.v := rfl
@[simp] theorem CoreSt.setT_m (k : CoreSt) (r : BitVec 3) (w : Tile) : (k.setT r w).m = k.m := rfl
@[simp] theorem CoreSt.setT_sealKey (k : CoreSt) (r : BitVec 3) (w : Tile) : (k.setT r w).sealKey = k.sealKey := rfl
@[simp] theorem CoreSt.setT_wait (k : CoreSt) (r : BitVec 3) (w : Tile) : (k.setT r w).wait = k.wait := rfl
@[simp] theorem CoreSt.setT_mbuf (k : CoreSt) (r : BitVec 3) (w : Tile) : (k.setT r w).mbuf = k.mbuf := rfl
@[simp] theorem CoreSt.setT_fetch (k : CoreSt) (r : BitVec 3) (w : Tile) : (k.setT r w).fetch = k.fetch := rfl
@[simp] theorem CoreSt.setT_l1 (k : CoreSt) (r : BitVec 3) (w : Tile) : (k.setT r w).l1 = k.l1 := rfl
@[simp] theorem CoreSt.setT_pf (k : CoreSt) (r : BitVec 3) (w : Tile) : (k.setT r w).pf = k.pf := rfl
@[simp] theorem CoreSt.setT_tileQ (k : CoreSt) (r : BitVec 3) (w : Tile) : (k.setT r w).tileQ = k.tileQ := rfl
@[simp] theorem CoreSt.setT_reuse (k : CoreSt) (r : BitVec 3) (w : Tile) : (k.setT r w).reuse = k.reuse := rfl
@[simp] theorem CoreSt.setT_vecQ (k : CoreSt) (r : BitVec 3) (w : Tile) : (k.setT r w).vecQ = k.vecQ := rfl
@[simp] theorem CoreSt.setT_spilled (k : CoreSt) (r : BitVec 3) (w : Tile) : (k.setT r w).spilled = k.spilled := rfl
@[simp] theorem CoreSt.setT_pendTimer (k : CoreSt) (r : BitVec 3) (w : Tile) : (k.setT r w).pendTimer = k.pendTimer := rfl
@[simp] theorem CoreSt.setT_bad (k : CoreSt) (r : BitVec 3) (w : Tile) : (k.setT r w).bad = k.bad := rfl
@[simp] theorem CoreSt.setT_badRes (k : CoreSt) (r : BitVec 3) (w : Tile) : (k.setT r w).badRes = k.badRes := rfl
@[simp] theorem CoreSt.setT_l1Bad (k : CoreSt) (r : BitVec 3) (w : Tile) : (k.setT r w).l1Bad = k.l1Bad := rfl
@[simp] theorem CoreSt.setT_order (k : CoreSt) (r : BitVec 3) (w : Tile) : (k.setT r w).order = k.order := rfl
@[simp] theorem CoreSt.setT_pendVL (k : CoreSt) (r : BitVec 3) (w : Tile) : (k.setT r w).pendVL = k.pendVL := rfl
@[simp] theorem CoreSt.setT_pendVprog (k : CoreSt) (r : BitVec 3) (w : Tile) : (k.setT r w).pendVprog = k.pendVprog := rfl
@[simp] theorem CoreSt.setT_pendMode (k : CoreSt) (r : BitVec 3) (w : Tile) : (k.setT r w).pendMode = k.pendMode := rfl
@[simp] theorem CoreSt.setT_pendSeed (k : CoreSt) (r : BitVec 3) (w : Tile) : (k.setT r w).pendSeed = k.pendSeed := rfl
@[simp] theorem CoreSt.setT_pendRngMode (k : CoreSt) (r : BitVec 3) (w : Tile) : (k.setT r w).pendRngMode = k.pendRngMode := rfl
@[simp] theorem CoreSt.setT_pendRng (k : CoreSt) (r : BitVec 3) (w : Tile) : (k.setT r w).pendRng = k.pendRng := rfl
@[simp] theorem CoreSt.setT_stopReq (k : CoreSt) (r : BitVec 3) (w : Tile) : (k.setT r w).stopReq = k.stopReq := rfl
@[simp] theorem CoreSt.setT_qwEnd (k : CoreSt) (r : BitVec 3) (w : Tile) : (k.setT r w).qwEnd = k.qwEnd := rfl
@[simp] theorem CoreSt.setT_stepDue (k : CoreSt) (r : BitVec 3) (w : Tile) : (k.setT r w).stepDue = k.stepDue := rfl
@[simp] theorem CoreSt.setT_mcDue (k : CoreSt) (r : BitVec 3) (w : Tile) : (k.setT r w).mcDue = k.mcDue := rfl
@[simp] theorem CoreSt.setT_held (k : CoreSt) (r : BitVec 3) (w : Tile) : (k.setT r w).held = k.held := rfl

end Sys2Proof.Machine
end

