-- ==== Sys2Proof/Laws/Memory.lean ====
section
/-! SUPPORT. The canonical form of memory: every operation over memory keeps it, and memory after reset has it. -/
namespace Sys2Proof.Machine

variable {α : Type}

/-! ### Maps whose keys rise -/

theorem mapRising_cons (k : Nat) (v : α) (m : NMap α) : mapRising ((k, v) :: m) = true ↔ keysAbove k m ∧ mapRising m = true := by
  induction m generalizing k v with
  | nil => simp [mapRising, keysAbove]
  | cons e m ih =>
    obtain ⟨k', v'⟩ := e
    simp only [mapRising, Bool.and_eq_true, decide_eq_true_eq]
    constructor
    · rintro ⟨hk, hm⟩
      refine ⟨fun e he => ?_, hm⟩
      rcases List.mem_cons.1 he with rfl | he
      · exact hk
      · exact Nat.lt_trans hk (((ih k' v').1 hm).1 e he)
    · rintro ⟨hk, hm⟩
      exact ⟨hk (k', v') (by simp), hm⟩

theorem mapRising_mapInsert (m : NMap α) (a : Nat) (x : α) (h : mapRising m = true) : mapRising (mapInsert m a x) = true := by
  induction m with
  | nil => rfl
  | cons e m ih =>
    obtain ⟨k, v⟩ := e
    have hw := (mapRising_cons k v m).1 h
    unfold mapInsert
    split
    · rename_i h1
      refine (mapRising_cons a x _).2 ⟨fun e he => ?_, h⟩
      rcases List.mem_cons.1 he with rfl | he
      · exact h1
      · exact Nat.lt_trans h1 (hw.1 e he)
    · split
      · exact (mapRising_cons k x m).2 hw
      · exact (mapRising_cons k v _).2 ⟨keysAbove_mapInsert m x (by omega) hw.1, ih hw.2⟩

theorem mapRising_filter (m : NMap α) (p : Nat × α → Bool) (h : mapRising m = true) : mapRising (m.filter p) = true := by
  induction m with
  | nil => rfl
  | cons e m ih =>
    obtain ⟨k, v⟩ := e
    have hw := (mapRising_cons k v m).1 h
    by_cases hp : p (k, v) = true
    · rw [List.filter_cons_of_pos hp]
      exact (mapRising_cons k v _).2 ⟨fun e he => hw.1 e (List.mem_of_mem_filter he), ih hw.2⟩
    · rw [List.filter_cons_of_neg hp]
      exact ih hw.2

theorem mapRising_overlay (m : NMap Byte) (a : Nat) (bs : List Byte) (h : mapRising m = true) : mapRising (overlay m a bs) = true := by
  induction bs generalizing m a with
  | nil => exact h
  | cons b bs ih => exact ih _ _ (mapRising_mapInsert m a b h)

theorem mapRising_of_mapWf [DecidableEq α] (d : Nat → α) (m : NMap α) (h : mapWf d m = true) : mapRising m = true := by
  induction m with
  | nil => rfl
  | cons e m ih =>
    obtain ⟨k, v⟩ := e
    have hw := (mapWf_cons d k v m).1 h
    exact (mapRising_cons k v m).2 ⟨hw.2.1, ih hw.2.2⟩

/-- Entries put one after the other keep the canonical form. -/
theorem mapWf_foldl_mapPut [DecidableEq α] (d : Nat → α) (l : NMap α) (m : NMap α) (h : mapWf d m = true) :
    mapWf d (l.foldl (fun t e => mapPut d t e.1 e.2) m) = true := by
  induction l generalizing m with
  | nil => exact h
  | cons e l ih => exact ih _ (mapWf_mapPut d m e.1 e.2 h)

theorem mapWf_mapRange [DecidableEq α] (d : Nat → α) (m : NMap α) (lo hi : Nat) (h : mapWf d m = true) :
    mapWf d (mapRange m lo hi) = true := mapWf_filter d m _ h

theorem mapRising_mapDropRange (m : NMap α) (lo hi : Nat) (h : mapRising m = true) : mapRising (mapDropRange m lo hi) = true :=
  mapRising_filter m _ h

/-! ### Reads of an overlay -/

theorem mapFind_overlay_outside (m : NMap Byte) (a : Nat) (bs : List Byte) (b : Nat) (h : b < a ∨ a + bs.length ≤ b) :
    mapFind (overlay m a bs) b = mapFind m b := by
  induction bs generalizing m a with
  | nil => rfl
  | cons x xs ih =>
    have hb : b ≠ a := by simp at h; omega
    simp only [overlay]
    rw [ih _ (a + 1) (by simp at h; omega), mapFind_mapInsert_ne m x hb]

theorem mapFind_overlay_inside (m : NMap Byte) (a : Nat) (bs : List Byte) (i : Nat) (h : i < bs.length) :
    mapFind (overlay m a bs) (a + i) = some bs[i] := by
  induction bs generalizing m a i with
  | nil => simp at h
  | cons x xs ih =>
    simp only [overlay]
    cases i with
    | zero => rw [mapFind_overlay_outside _ _ _ _ (by omega)]; simp [mapFind_mapInsert_self]
    | succ j =>
      have := ih (mapInsert m a x) (a + 1) j (by simpa using h)
      rw [show a + (j + 1) = a + 1 + j by omega, this]
      simp

/-! ### The memory of a state -/

/-- The parts of the canonical form, named once. -/
theorem Memory.wf_iff (m : Mem) : Memory.wf m = true ↔
    mapWf zeroByte m.stk = true ∧ mapWf zeroByte m.bank = true ∧ (∀ v ∈ m.accVers, mapWf zeroByte v.bytes = true) ∧
      mapRising m.dirty = true ∧ mapRising m.arr = true ∧ mapRising m.pins = true ∧
      mapRising m.sapNew.bytes = true ∧ mapRising m.sapOld.bytes = true ∧ mapRising m.retained.bytes = true := by
  simp [Memory.wf, and_assoc]

/-- Memory after reset is in canonical form. -/
theorem reset_memory_wf : Memory.wf State.reset.mem = true := by decide

/-- Two memories hold the same bytes: all that the canonical form speaks of. -/
structure SameBytes (m k : Mem) : Prop where
  stk : m.stk = k.stk
  dirty : m.dirty = k.dirty
  bank : m.bank = k.bank
  pins : m.pins = k.pins
  arr : m.arr = k.arr
  sapNew : m.sapNew = k.sapNew
  sapOld : m.sapOld = k.sapOld
  retained : m.retained = k.retained
  accVers : m.accVers = k.accVers

theorem SameBytes.refl (m : Mem) : SameBytes m m := ⟨rfl, rfl, rfl, rfl, rfl, rfl, rfl, rfl, rfl⟩

theorem SameBytes.of_eq {m k : Mem} (h : m = k) : SameBytes m k := h ▸ SameBytes.refl m

theorem SameBytes.trans {a b c : Mem} (h : SameBytes a b) (k : SameBytes b c) : SameBytes a c :=
  ⟨h.1.trans k.1, h.2.trans k.2, h.3.trans k.3, h.4.trans k.4, h.5.trans k.5, h.6.trans k.6, h.7.trans k.7, h.8.trans k.8, h.9.trans k.9⟩

/-- The canonical form is one of the bytes alone. -/
theorem SameBytes.wf {m k : Mem} (h : SameBytes m k) (w : Memory.wf k = true) : Memory.wf m = true := by
  unfold Memory.wf at *
  rw [h.1, h.2, h.3, h.4, h.5, h.6, h.7, h.8, h.9]
  exact w

theorem raiseInt_mem (s : State) (c : CoreId) (v : Nat) : (raiseInt s c v).mem = s.mem := by
  unfold raiseInt wfiCheck
  repeat (first | rfl | split)

theorem raiseMask_mem (s : State) (mask v : Nat) : (raiseMask s mask v).mem = s.mem := by
  unfold raiseMask
  generalize allCores = l
  induction l generalizing s with
  | nil => rfl
  | cons c l ih =>
    rw [List.foldl_cons, ih]
    split
    · exact raiseInt_mem s c v
    · rfl

/-- A counter's advance changes no memory. -/
theorem count_mem (s : State) (a n : Nat) : (count s a n).mem = s.mem := by
  unfold count
  extract_lets w s'
  split
  · exact raiseMask_mem s' _ _
  · rfl

theorem dropCopies_mem (s : State) (line : Nat) : (dropCopies s line).mem = s.mem := rfl

theorem foldl_dropCopies_mem (l : List Nat) (s : State) : (l.foldl dropCopies s).mem = s.mem := by
  induction l generalizing s with
  | nil => rfl
  | cons x l ih => rw [List.foldl_cons, ih]; rfl

/-- The sorter and its pages hold no byte. -/
theorem openPage_bytes (s : State) (a : Nat) : SameBytes (openPage s a).mem s.mem := by
  have h := count_mem s
  constructor <;> simp [openPage, h]

theorem sortServe_bytes (s : State) (r : SortReq) : SameBytes (sortServe s r).mem s.mem :=
  SameBytes.trans (b := (openPage s (r.sector * 32)).mem) ⟨rfl, rfl, rfl, rfl, rfl, rfl, rfl, rfl, rfl⟩ (openPage_bytes s (r.sector * 32))

theorem sortPush_bytes (s : State) (r : SortReq) : SameBytes (sortPush s r).mem s.mem := by
  unfold sortPush
  extract_lets p s1
  split
  · exact SameBytes.refl _
  · refine SameBytes.trans (b := s1.mem) ⟨rfl, rfl, rfl, rfl, rfl, rfl, rfl, rfl, rfl⟩ ?_
    unfold s1
    split
    · split
      · exact sortServe_bytes _ _
      · exact SameBytes.refl _
    · exact SameBytes.refl _

/-- Requests that join a sorter change no byte. -/
theorem foldl_sortPush_bytes {β : Type} (f : β → SortReq) (l : List β) (s : State) :
    SameBytes (l.foldl (fun s x => sortPush s (f x)) s).mem s.mem := by
  induction l generalizing s with
  | nil => exact SameBytes.refl _
  | cons x l ih => exact (ih _).trans (sortPush_bytes _ _)

theorem stackAsk_bytes (s : State) (wr : Bool) (a n : Nat) : SameBytes (stackAsk s wr a n).mem s.mem := foldl_sortPush_bytes _ _ _

/-- What every write does besides storing leaves the bytes alone. -/
theorem noteWrite_bytes (s : State) (a n : Nat) : SameBytes (noteWrite s a n).mem s.mem := by
  unfold noteWrite
  extract_lets t
  rw [foldl_dropCopies_mem]
  exact ⟨rfl, rfl, rfl, rfl, rfl, rfl, rfl, rfl, rfl⟩

theorem noteWrite_wf (s : State) (a n : Nat) (h : Memory.wf s.mem = true) : Memory.wf (noteWrite s a n).mem = true :=
  (noteWrite_bytes s a n).wf h

theorem stackAsk_wf (s : State) (wr : Bool) (a n : Nat) (h : Memory.wf s.mem = true) : Memory.wf (stackAsk s wr a n).mem = true :=
  (stackAsk_bytes s wr a n).wf h

theorem healStack_wf (s : State) (a n : Nat) (h : Memory.wf s.mem = true) : Memory.wf (healStack s a n).mem = true := h

theorem healBank_wf (s : State) (a n : Nat) (h : Memory.wf s.mem = true) : Memory.wf (healBank s a n).mem = true := h

theorem bankBeats_mem (s : State) (m a n : Nat) : (bankBeats s m a n).mem = s.mem := by
  unfold bankBeats
  split
  · split
    · exact count_mem _ _ _
    · rfl
  · rfl

theorem setSlice_wf (s : State) (n : Fin 8) (f : Slice → Slice) (h : Memory.wf s.mem = true) : Memory.wf (setSlice s n f).mem = true := h

/-- Dirty bytes that reach the stack leave memory canonical. -/
theorem Mem.flush_wf (m : Mem) (lo hi : Nat) (h : Memory.wf m = true) : Memory.wf (m.flush lo hi) = true := by
  obtain ⟨h1, h2, h3, h4, h5, h6, h7, h8, h9⟩ := (Memory.wf_iff _).1 h
  exact (Memory.wf_iff _).2 ⟨mapWf_foldl_mapPut _ _ _ h1, h2, h3, mapRising_mapDropRange _ _ _ h4, h5, h6, h7, h8, h9⟩

theorem writeBack_wf (s : State) (line : Nat) (h : Memory.wf s.mem = true) : Memory.wf (writeBack s line).mem = true := by
  unfold writeBack
  exact Mem.flush_wf _ _ _ ((foldl_sortPush_bytes (fun x => ⟨x, true⟩) _ _).wf h)

theorem l2Evict_wf (s : State) (n : Fin 8) (line : Nat) (h : Memory.wf s.mem = true) : Memory.wf (l2Evict s n line).mem = true := by
  unfold l2Evict
  exact setSlice_wf _ _ _ (writeBack_wf _ _ h)

theorem l2Install_wf (s : State) (n : Fin 8) (e : L2Line) (h : Memory.wf s.mem = true) : Memory.wf (l2Install s n e).mem = true := by
  unfold l2Install
  extract_lets set same keepMax s1 s2 way fresh
  have h1 : Memory.wf s1.mem = true := by
    unfold s1; split
    · split
      · exact setSlice_wf _ _ _ h
      · exact h
    · exact h
  have h2 : Memory.wf s2.mem = true := by
    unfold s2; split
    · split
      · exact l2Evict_wf _ _ _ h1
      · exact h1
    · exact h1
  clear_value way fresh
  split
  · exact h2
  · refine setSlice_wf _ _ _ ?_
    split
    · exact h2
    · exact h2

/-- A memory whose dirty overlay takes bytes stays canonical. -/
theorem dirtyOverlay_wf (m : Mem) (a : Nat) (bs : List Byte) (h : Memory.wf m = true) :
    Memory.wf { m with dirty := overlay m.dirty a bs } = true := by
  obtain ⟨h1, h2, h3, h4, h5, h6, h7, h8, h9⟩ := (Memory.wf_iff _).1 h
  exact (Memory.wf_iff _).2 ⟨h1, h2, h3, mapRising_overlay _ _ _ h4, h5, h6, h7, h8, h9⟩

/-- A memory whose stacked bytes are written stays canonical. -/
theorem stkWrite_wf (m : Mem) (a : Nat) (bs : List Byte) (h : Memory.wf m = true) :
    Memory.wf { m with stk := writeBytes zeroByte m.stk a bs } = true := by
  obtain ⟨h1, h2, h3, h4, h5, h6, h7, h8, h9⟩ := (Memory.wf_iff _).1 h
  exact (Memory.wf_iff _).2 ⟨mapWf_writeBytes _ _ _ _ h1, h2, h3, h4, h5, h6, h7, h8, h9⟩

theorem writePlain_wf (s : State) (m hint a : Nat) (bs : List Byte) (h : Memory.wf s.mem = true) :
    Memory.wf (writePlain s m hint a bs).mem = true := by
  unfold writePlain
  extract_lets line n present s1 s2 cached
  have h1 : Memory.wf s1.mem = true := by
    unfold s1; split
    · rw [count_mem]; exact h
    · exact h
  have h2 : Memory.wf s2.mem = true := noteWrite_wf _ _ _ h1
  have hc : ∀ e, Memory.wf (cached e).mem = true := fun e => dirtyOverlay_wf _ a bs (l2Install_wf s2 n e h2)
  clear_value present cached
  split
  · exact hc _
  · split
    · exact hc _
    · exact healStack_wf _ _ _ (stkWrite_wf _ _ _ (stackAsk_wf _ _ _ _ h2))

theorem ringSlot_wf (s : State) (sl : Slot) (x : Sap) (hx : mapRising x.bytes = true) (h : Memory.wf s.mem = true) :
    Memory.wf (setSap s sl x).mem = true := by
  obtain ⟨h1, h2, h3, h4, h5, h6, h7, h8, h9⟩ := (Memory.wf_iff _).1 h
  cases sl
  · exact (Memory.wf_iff _).2 ⟨h1, h2, h3, h4, h5, h6, hx, h8, h9⟩
  · exact (Memory.wf_iff _).2 ⟨h1, h2, h3, h4, h5, h6, h7, hx, h9⟩

theorem sapOf_rising (s : State) (sl : Slot) (h : Memory.wf s.mem = true) : mapRising (sapOf s sl).bytes = true := by
  obtain ⟨-, -, -, -, -, -, h7, h8, -⟩ := (Memory.wf_iff _).1 h
  cases sl
  · exact h7
  · exact h8

/-! ### Operations that change no memory -/

theorem wtEvent_mem (s : State) (k : Fin 6) (e r : Bool) : (wtEvent s k e r).1.mem = s.mem := by
  unfold wtEvent
  extract_lets a x f0 s1 rate n s2 s3
  have h1 : s1.mem = s.mem := rfl
  have h2 : s2.mem = s.mem := by unfold s2; split <;> rfl
  have h3 : s3.mem = s.mem := by
    unfold s3; split
    · exact h2
    · exact h2
  split
  · split
    · exact (count_mem _ _ _).trans h3
    · rfl
  · rfl

theorem sendPacket_mem (s : State) (p : Fin 36) (k : Packet) : (sendPacket s p k).mem = s.mem := rfl

theorem sendOn_mem (s : State) (k : Packet) (tried : List Nat) : (sendOn s k tried).1.mem = s.mem := by
  unfold sendOn
  split
  · rfl
  · split
    · rfl
    · rename_i p _
      have h := wtEvent_mem s 1 (xportEligible s k) false
      split <;> rename_i s1 heq <;> rw [heq] at h
      · exact (sendPacket_mem _ _ _).trans h
      · extract_lets param
        split
        · exact h
        · split
          · exact (sendPacket_mem _ _ _).trans h
          · exact h

theorem issueReq_mem (s : State) (k : Packet) (i : Issuer) (g : Nat) : (issueReq s k i g).mem = s.mem := by
  unfold issueReq
  extract_lets t k1 rest id own r0 s1
  have h1 : s1.mem = s.mem := rfl
  split
  rename_i s2 port heq
  have h2 : s2.mem = s.mem := by
    split at heq
    · cases heq; rfl
    · have := sendOn_mem s1 k1 []
      rw [heq] at this; exact this.trans h1
  exact h2

theorem issueOrWait_mem (s : State) (k : Packet) (i : Issuer) (g : Nat) : (issueOrWait s k i g).mem = s.mem := by
  unfold issueOrWait
  split
  · exact issueReq_mem s k i g
  · rfl

theorem logFault_mem (s : State) (r : FaultRec) : (logFault s r).mem = s.mem := by
  unfold logFault
  split
  · exact count_mem _ _ _
  · extract_lets r1 full log win f0 s1 s2 s3 s4
    have h2 : s2.mem = s.mem := count_mem _ _ _
    have h3 : s3.mem = s.mem := by
      unfold s3; split
      · exact (count_mem _ _ _).trans h2
      · exact h2
    have h4 : s4.mem = s.mem := by
      unfold s4; split
      · exact (count_mem _ _ _).trans h3
      · exact h3
    split
    · exact (raiseInt_mem _ _ _).trans h4
    · exact h4

theorem ringEvent_mem (s : State) (bit : Nat) : (ringEvent s bit).mem = s.mem := raiseMask_mem _ _ _

theorem setDoomBit_mem (s : State) (sl : Slot) (b : Bool) : (setDoomBit s sl b).mem = s.mem := by cases sl <;> rfl

theorem setSlot_mem (s : State) (sl : Slot) (r : RingSlot) : (setSlot s sl r).mem = s.mem := by cases sl <;> rfl

/-- A doom changes no memory. -/
theorem doomSlot_mem (s : State) (sl : Slot) (cause culprit : Nat) (i : DoomInfo) : (doomSlot s sl cause culprit i).mem = s.mem := by
  unfold doomSlot
  split
  · rfl
  · extract_lets r s1 r0 s2 s3 s4 s5 r1 s6
    have h1 : s1.mem = s.mem := setDoomBit_mem _ _ _
    have h5 : s5.mem = s.mem :=
      (logFault_mem _ _).trans <| (ringEvent_mem _ _).trans <| (show s3.mem = s2.mem from rfl).trans <| (setSlot_mem _ _ _).trans h1
    split
    · exact h1
    · split
      · exact h5
      · exact (issueOrWait_mem _ _ _ _).trans <| (setSlot_mem _ _ _).trans h5

/-! ### Writes of stacked memory -/

theorem poolShort_wf (s : State) (sl : Slot) (g a : Nat) (bs : List Byte) (h : Memory.wf s.mem = true) :
    Memory.wf (poolShort s sl g a bs).1.mem = true := by
  unfold poolShort
  split
  · rw [show (ringEvent s 8, WRes.wait a bs).1 = ringEvent s 8 from rfl, ringEvent_mem]; exact h
  · show Memory.wf (doomSlot s sl 7 (ownDevice s) {}).mem = true
    rw [doomSlot_mem]; exact h

theorem doomPoison_mem (s : State) (sl : Slot) (a : Nat) : (doomPoison s sl a).mem = s.mem := by
  unfold doomPoison
  extract_lets st s1
  exact (doomSlot_mem _ _ _ _ _).trans (logFault_mem _ _)

theorem writeSap_wf (s : State) (sl : Slot) (a : Nat) (bs : List Byte) (h : Memory.wf s.mem = true) :
    Memory.wf (writeSap s sl a bs).1.mem = true := by
  unfold writeSap
  have hs := mapRising_overlay _ a bs (sapOf_rising s sl h)
  extract_lets g sap put
  have hp : ∀ gran bad, Memory.wf (put gran bad).mem = true := by
    intro gran bad
    unfold put
    extract_lets left s1
    have h1 : Memory.wf s1.mem = true := ringSlot_wf _ _ _ hs (stackAsk_wf _ _ _ _ h)
    split
    · rw [doomPoison_mem]; exact h1
    · exact h1
  split
  · exact hp _ _
  · split
    · exact poolShort_wf _ _ _ _ _ h
    · exact hp _ _

/-- A memory one of whose ACCUM versions is written stays canonical. -/
theorem accWrite_wf (m : Mem) (f : AccVer → AccVer) (hf : ∀ w ∈ m.accVers, mapWf zeroByte (f w).bytes = true) (h : Memory.wf m = true) :
    Memory.wf { m with accVers := m.accVers.map f } = true := by
  obtain ⟨h1, h2, -, h4, h5, h6, h7, h8, h9⟩ := (Memory.wf_iff _).1 h
  refine (Memory.wf_iff _).2 ⟨h1, h2, fun w hw => ?_, h4, h5, h6, h7, h8, h9⟩
  obtain ⟨u, hu, rfl⟩ := List.mem_map.1 hw
  exact hf u hu

/-- A write of one version's bytes keeps every version canonical. -/
theorem accBytes_wf {m : Mem} {v : AccVer} (hv : v ∈ m.accVers) (h : Memory.wf m = true) (a : Nat) (bs : List Byte) (bad : List Nat) :
    ∀ w ∈ m.accVers, mapWf zeroByte (if w = v then { v with bytes := writeBytes zeroByte v.bytes a bs, bad := bad } else w).bytes = true := by
  obtain ⟨-, -, h3, -⟩ := (Memory.wf_iff _).1 h
  intro w hw
  split
  · exact mapWf_writeBytes _ _ _ _ (h3 v hv)
  · exact h3 w hw

theorem writeAccum_wf (s : State) (sub a : Nat) (bs : List Byte) (h : Memory.wf s.mem = true) :
    Memory.wf (writeAccum s sub a bs).1.mem = true := by
  obtain ⟨h1, h2, h3, h4, h5, h6, h7, h8, h9⟩ := (Memory.wf_iff _).1 h
  unfold writeAccum
  extract_lets g k note v
  have hn : ∀ t : State, Memory.wf t.mem = true → Memory.wf (note t).mem = true := fun t ht =>
    noteWrite_wf _ _ _ (stackAsk_wf _ _ _ _ ht)
  split
  · exact healStack_wf _ _ _ (hn _ (stkWrite_wf _ _ _ h))
  · split
    · rename_i v hv
      exact hn _ (accWrite_wf s.mem _ (accBytes_wf (List.mem_of_find?_eq_some hv) h a bs _) h)
    · split
      · exact poolShort_wf _ _ _ _ _ h
      · refine hn _ ((Memory.wf_iff _).2 ⟨h1, h2, fun w hw => ?_, h4, h5, h6, h7, h8, h9⟩)
        rcases List.mem_append.1 hw with hw | hw
        · exact h3 w hw
        · rw [List.mem_singleton.1 hw]
          exact mapWf_writeBytes _ _ _ _ (mapWf_mapRange _ _ _ _ h1)

/-- A write of the pool's own range keeps memory canonical, whatever granule it meets. -/
theorem writePool_wf (s : State) (a : Nat) (bs : List Byte) (h : Memory.wf s.mem = true) : Memory.wf (writePool s a bs).mem = true := by
  obtain ⟨h1, h2, h3, h4, h5, h6, h7, h8, h9⟩ := (Memory.wf_iff _).1 h
  unfold writePool State.free
  dsimp only
  split
  · exact (Memory.wf_iff _).2 ⟨h1, h2, h3, h4, h5, h6, mapRising_overlay _ _ _ h7, h8, h9⟩
  · exact (Memory.wf_iff _).2 ⟨h1, h2, h3, h4, h5, h6, h7, mapRising_overlay _ _ _ h8, h9⟩
  · exact (Memory.wf_iff _).2 ⟨h1, h2, h3, h4, h5, h6, h7, h8, mapRising_overlay _ _ _ h9⟩
  · rename_i hv
    exact accWrite_wf s.mem _ (accBytes_wf (List.mem_filter.1 (List.mem_of_getElem? hv)).1 h _ bs _) h
  · exact h

theorem writeStackLine_wf (s : State) (w : Wr) (a : Nat) (bs : List Byte) (h : Memory.wf s.mem = true) :
    Memory.wf (writeStackLine s w a bs).1.mem = true := by
  unfold writeStackLine
  split
  · exact writePool_wf _ _ _ h
  · extract_lets k
    split
    · exact writePlain_wf _ _ _ _ _ h
    · split
      · split
        · exact writeSap_wf _ _ _ _ h
        · exact h
      · exact writeAccum_wf _ _ _ _ h

theorem writeStack_wf (fuel : Nat) (s : State) (w : Wr) (a : Nat) (bs : List Byte) (h : Memory.wf s.mem = true) :
    Memory.wf (writeStack fuel s w a bs).1.mem = true := by
  induction fuel generalizing s a bs with
  | zero => exact h
  | succ fuel ih =>
    unfold writeStack
    extract_lets n
    have hl := writeStackLine_wf s w a (bs.take n) h
    split <;> rename_i heq
    · rw [heq] at hl
      split
      · exact hl
      · exact ih _ _ _ hl
    · rw [heq] at hl; exact hl
    · exact hl

/-- A write as it is performed keeps the canonical form, however it ends. -/
theorem memWriteNow_wf (s : State) (w : Wr) (a : Nat) (bs : List Byte) (h : Memory.wf s.mem = true) :
    Memory.wf (memWriteNow s w a bs).1.mem = true := by
  obtain ⟨h1, h2, h3, h4, h5, h6, h7, h8, h9⟩ := (Memory.wf_iff _).1 h
  unfold memWriteNow
  split
  · exact h
  · split
    · exact h
    · exact writeStack_wf _ _ _ _ _ h
    · split
      · exact h
      · refine healBank_wf _ _ _ (noteWrite_wf _ _ _ ?_)
        refine (Memory.wf_iff _).2 ?_
        simp only [State.modMem_mem, bankBeats_mem]
        exact ⟨h1, mapWf_writeBytes _ _ _ _ h2, h3, h4, h5, h6, h7, h8, h9⟩
    · exact noteWrite_wf _ _ _ ((Memory.wf_iff _).2 ⟨h1, h2, h3, h4, mapRising_overlay _ _ _ h5, h6, h7, h8, h9⟩)
    · exact noteWrite_wf _ _ _ ((Memory.wf_iff _).2 ⟨h1, h2, h3, h4, h5, mapRising_overlay _ _ _ h6, h7, h8, h9⟩)
    · exact h

/-- A write of memory keeps its canonical form, however it ends. -/
theorem memWrite_wf (s : State) (w : Wr) (a : Nat) (bs : List Byte) (h : Memory.wf s.mem = true) :
    Memory.wf (memWrite s w a bs).1.mem = true := by
  unfold memWrite
  split
  · exact h
  · exact memWriteNow_wf _ _ _ _ h

/-- A flip keeps the canonical form. -/
theorem flipMemory_wf (s : State) (sl : Slot) (h : Memory.wf s.mem = true) : Memory.wf (flipMemory s sl).mem = true := by
  obtain ⟨h1, h2, h3, h4, h5, h6, h7, h8, h9⟩ := (Memory.wf_iff _).1 h
  unfold flipMemory
  exact ringSlot_wf _ _ _ rfl ((Memory.wf_iff _).2 ⟨mapWf_foldl_mapPut _ _ _ h1, h2, h3, h4, h5, h6, h7, h8,
    mapRising_filter _ _ (mapRising_of_mapWf _ _ h1)⟩)

end Sys2Proof.Machine
end

