-- ==== Sys2Proof/Laws/Ops.lean ====
section
/-! SUPPORT. What the shared operations can do: an instruction at a ready boundary, a taken interrupt, a counter's advance. -/
namespace Sys2Proof.Machine
open Host

theorem next_pending {s t u : State} (h : next s t = .next u) : u.pending = s.pending := by
  cases h; rfl

/-- At a ready boundary an instruction does what its meaning answers, after the check of its level, unless that would have an entry of the
merging buffer performed before an earlier vector instruction has retired. -/
theorem runInstr_ready {s : State} {c : CoreId} {n : Need} (h : Ready s c n) (w : IWord) (ranger : Bool) (body : State → IRes) :
    runInstr c w ranger n body s =
      let r := finish s c w (if ranger ∧ s.fld (CORE_STATUS c) fldCORE_STATUS_LEVEL = 0 then illegal s c else body s)
      next s (if !(s.core c).vecQ.isEmpty && (r.core c).spilled then s else r) := by
  unfold runInstr boundaryApply passTiles
  simp [h.runs, h.issues, h.idle, h.noStep, h.noTiles, h.fetch, h.noCheck]

theorem next_of_pending {s t : State} (hp : t.pending = s.pending) : next s t = .next t := by
  unfold next; rw [← hp]

/-- An instruction of the level it needs does what its meaning answers. -/
theorem runInstr_level {s t : State} {c : CoreId} {n : Need} {ranger : Bool} {w : IWord} {body : State → IRes} (h : Ready s c n)
    (hr : ranger = true → atRanger s c) (ht : finish s c w (body s) = t) (hs : (s.core c).vecQ = [] ∨ (t.core c).spilled = false) :
    runInstr c w ranger n body s = next s t := by
  have : ¬(ranger = true ∧ s.fld (CORE_STATUS c) fldCORE_STATUS_LEVEL = 0) := fun ⟨a, b⟩ => hr a b
  rw [runInstr_ready h, if_neg this]
  rcases hs with hs | hs <;> simp [ht, hs]

@[simp] theorem setPc_spilled (s : State) (c : CoreId) (pc : Word) : ((setPc s c pc).core c).spilled = (s.core c).spilled := by
  simp [setPc]

/-- An instruction that completes at the next one. -/
theorem runInstr_done {s t : State} {c : CoreId} {n : Need} (h : Ready s c n) (w : IWord) (ranger : Bool) (body : State → IRes)
    (hr : ranger = true → atRanger s c) (hb : body s = .done t) (hp : t.pending = s.pending) (hs : (s.core c).vecQ = [] ∨ (t.core c).spilled = false) :
    runInstr c w ranger n body s = .next (setPc t c ((s.core c).pc + 4)) :=
  (runInstr_level h hr (by simp [hb, finish, complete, h.stepOff]) (by simpa using hs)).trans (next_of_pending hp)

/-- An instruction that completes at another address. -/
theorem runInstr_jump {s t : State} {c : CoreId} {n : Need} {pc : Word} (h : Ready s c n) (w : IWord) (ranger : Bool) (body : State → IRes)
    (hr : ranger = true → atRanger s c) (hb : body s = .jump t pc) (hp : t.pending = s.pending) (hs : (s.core c).vecQ = [] ∨ (t.core c).spilled = false) :
    runInstr c w ranger n body s = .next (setPc t c pc) :=
  (runInstr_level h hr (by simp [hb, finish, complete, h.stepOff]) (by simpa using hs)).trans (next_of_pending hp)

/-- An instruction that raises an exception takes it where no vector instruction is unretired. -/
theorem runInstr_trap {s t : State} {c : CoreId} {n : Need} {v a : Nat} {seq : Option Nat} {pc : Word} (h : Ready s c n) (w : IWord)
    (ranger : Bool) (body : State → IRes) (hr : ranger = true → atRanger s c) (hb : body s = .trap t v a seq pc)
    (hv : (s.core c).vecQ = []) :
    runInstr c w ranger n body s = next s (enter t c { vector := v, faddr := a, word := w.toNat, pc := pc, seq := seq }) :=
  runInstr_level h hr (by simp [hb, finish, h.noTiles, hv]) (.inl hv)

/-- An instruction that leaves its core waiting or stopped. -/
theorem runInstr_halt {s t : State} {c : CoreId} {n : Need} (h : Ready s c n) (w : IWord) (ranger : Bool) (body : State → IRes)
    (hr : ranger = true → atRanger s c) (hb : body s = .halt t) (hs : (s.core c).vecQ = [] ∨ (t.core c).spilled = false) :
    runInstr c w ranger n body s = next s t :=
  runInstr_level h hr (by simp [hb, finish, h.stepOff]) hs

/-- A Ranger instruction at Task level is illegal. -/
theorem runInstr_task {s : State} {c : CoreId} {n : Need} (h : Ready s c n) (w : IWord) (body : State → IRes) (ht : ¬ atRanger s c)
    (hv : (s.core c).vecQ = []) :
    runInstr c w true n body s = takes s c w 4 0 (s.core c).pc := by
  rw [runInstr_ready h]
  have : s.fld (CORE_STATUS c) fldCORE_STATUS_LEVEL = 0 := by simpa [atRanger] using ht
  simp [this, finish, illegal, trapAt, h.noTiles, takes, hv]

/-- Setting an interrupt's bit leaves every register but CORE_IPEND of that core alone; the lines into a domain that is down are clamped. -/
theorem raiseInt_reg (s : State) (c : CoreId) (v a : Nat) (hs : s.still = false) (hp : s.fld (PWR_CORE c) fldPWR_CORE_STATE < 3) :
    (raiseInt s c v).reg a = if a = CORE_IPEND c then s.reg a ||| BitVec.ofNat 64 (2 ^ v) else s.reg a := by
  have : ∀ t : State, (wfiCheck t c).reg a = t.reg a := by
    intro t; unfold wfiCheck; split
    · rfl
    · split <;> rfl
  unfold raiseInt
  rw [if_neg (by simp [hs]; omega), this, State.reg_setReg]
  split <;> simp_all

/-- An interrupt changes of a core's registers only the PC, and that only where the core waits in WFI. -/
theorem raiseInt_running (s : State) (c d : CoreId) (v : Nat) (h : (s.core c).wait ≠ .wfi) (hh : inHold s c = false) :
    (raiseInt s c v).core d = s.core d := by
  unfold raiseInt wfiCheck
  split
  · rfl
  · rw [if_neg, if_neg]
    · rfl
    · rintro ⟨hw, -⟩; exact h hw
    · rw [show inHold (s.setReg (CORE_IPEND c) _) c = inHold s c from ?_, hh]
      · simp
      · unfold inHold State.test
        rw [State.reg_setReg_ne]
        intro e
        simp [CORE_IPEND, FOR_CORE] at e
        omega

end Sys2Proof.Machine
end

