-- ==== Sys2Proof/Laws/PerInstr.lean ====
section
/-! SUPPORT. Per command: the beat boundary a command names for a cut is no part of its instruction's word. -/
namespace Sys2Proof.Laws
open Sys2Proof.Machine

/-- Removing the cut twice removes it once, and the instruction's word is the same without it. -/
def Uncut.Statement (i : Instr) : Prop := uncut (uncut i) = uncut i ∧ wordOf (uncut i) = wordOf i

theorem Uncut.add (c : CoreId) (o : OpR) : Uncut.Statement (.add c o) := ⟨rfl, rfl⟩
theorem Uncut.sub (c : CoreId) (o : OpR) : Uncut.Statement (.sub c o) := ⟨rfl, rfl⟩
theorem Uncut.and (c : CoreId) (o : OpR) : Uncut.Statement (.and c o) := ⟨rfl, rfl⟩
theorem Uncut.or (c : CoreId) (o : OpR) : Uncut.Statement (.or c o) := ⟨rfl, rfl⟩
theorem Uncut.xor (c : CoreId) (o : OpR) : Uncut.Statement (.xor c o) := ⟨rfl, rfl⟩
theorem Uncut.sll (c : CoreId) (o : OpR) : Uncut.Statement (.sll c o) := ⟨rfl, rfl⟩
theorem Uncut.srl (c : CoreId) (o : OpR) : Uncut.Statement (.srl c o) := ⟨rfl, rfl⟩
theorem Uncut.sra (c : CoreId) (o : OpR) : Uncut.Statement (.sra c o) := ⟨rfl, rfl⟩
theorem Uncut.slt (c : CoreId) (o : OpR) : Uncut.Statement (.slt c o) := ⟨rfl, rfl⟩
theorem Uncut.sltu (c : CoreId) (o : OpR) : Uncut.Statement (.sltu c o) := ⟨rfl, rfl⟩
theorem Uncut.mul (c : CoreId) (o : OpR) : Uncut.Statement (.mul c o) := ⟨rfl, rfl⟩
theorem Uncut.mulh (c : CoreId) (o : OpR) : Uncut.Statement (.mulh c o) := ⟨rfl, rfl⟩
theorem Uncut.mulhu (c : CoreId) (o : OpR) : Uncut.Statement (.mulhu c o) := ⟨rfl, rfl⟩
theorem Uncut.div (c : CoreId) (o : OpR) : Uncut.Statement (.div c o) := ⟨rfl, rfl⟩
theorem Uncut.divu (c : CoreId) (o : OpR) : Uncut.Statement (.divu c o) := ⟨rfl, rfl⟩
theorem Uncut.rem (c : CoreId) (o : OpR) : Uncut.Statement (.rem c o) := ⟨rfl, rfl⟩
theorem Uncut.remu (c : CoreId) (o : OpR) : Uncut.Statement (.remu c o) := ⟨rfl, rfl⟩
theorem Uncut.addi (c : CoreId) (o : OpI) : Uncut.Statement (.addi c o) := ⟨rfl, rfl⟩
theorem Uncut.andi (c : CoreId) (o : OpI) : Uncut.Statement (.andi c o) := ⟨rfl, rfl⟩
theorem Uncut.ori (c : CoreId) (o : OpI) : Uncut.Statement (.ori c o) := ⟨rfl, rfl⟩
theorem Uncut.xori (c : CoreId) (o : OpI) : Uncut.Statement (.xori c o) := ⟨rfl, rfl⟩
theorem Uncut.slti (c : CoreId) (o : OpI) : Uncut.Statement (.slti c o) := ⟨rfl, rfl⟩
theorem Uncut.slli (c : CoreId) (o : OpSh) : Uncut.Statement (.slli c o) := ⟨rfl, rfl⟩
theorem Uncut.srli (c : CoreId) (o : OpSh) : Uncut.Statement (.srli c o) := ⟨rfl, rfl⟩
theorem Uncut.srai (c : CoreId) (o : OpSh) : Uncut.Statement (.srai c o) := ⟨rfl, rfl⟩
theorem Uncut.lui (c : CoreId) (o : OpI) : Uncut.Statement (.lui c o) := ⟨rfl, rfl⟩
theorem Uncut.lb (c : CoreId) (o : OpI) : Uncut.Statement (.lb c o) := ⟨rfl, rfl⟩
theorem Uncut.lh (c : CoreId) (o : OpI) : Uncut.Statement (.lh c o) := ⟨rfl, rfl⟩
theorem Uncut.lw (c : CoreId) (o : OpI) : Uncut.Statement (.lw c o) := ⟨rfl, rfl⟩
theorem Uncut.ld (c : CoreId) (o : OpI) : Uncut.Statement (.ld c o) := ⟨rfl, rfl⟩
theorem Uncut.lbu (c : CoreId) (o : OpI) : Uncut.Statement (.lbu c o) := ⟨rfl, rfl⟩
theorem Uncut.lhu (c : CoreId) (o : OpI) : Uncut.Statement (.lhu c o) := ⟨rfl, rfl⟩
theorem Uncut.lwu (c : CoreId) (o : OpI) : Uncut.Statement (.lwu c o) := ⟨rfl, rfl⟩
theorem Uncut.sb (c : CoreId) (o : OpS) : Uncut.Statement (.sb c o) := ⟨rfl, rfl⟩
theorem Uncut.sh (c : CoreId) (o : OpS) : Uncut.Statement (.sh c o) := ⟨rfl, rfl⟩
theorem Uncut.sw (c : CoreId) (o : OpS) : Uncut.Statement (.sw c o) := ⟨rfl, rfl⟩
theorem Uncut.sd (c : CoreId) (o : OpS) : Uncut.Statement (.sd c o) := ⟨rfl, rfl⟩
theorem Uncut.beq (c : CoreId) (o : OpB) : Uncut.Statement (.beq c o) := ⟨rfl, rfl⟩
theorem Uncut.bne (c : CoreId) (o : OpB) : Uncut.Statement (.bne c o) := ⟨rfl, rfl⟩
theorem Uncut.blt (c : CoreId) (o : OpB) : Uncut.Statement (.blt c o) := ⟨rfl, rfl⟩
theorem Uncut.bge (c : CoreId) (o : OpB) : Uncut.Statement (.bge c o) := ⟨rfl, rfl⟩
theorem Uncut.bltu (c : CoreId) (o : OpB) : Uncut.Statement (.bltu c o) := ⟨rfl, rfl⟩
theorem Uncut.bgeu (c : CoreId) (o : OpB) : Uncut.Statement (.bgeu c o) := ⟨rfl, rfl⟩
theorem Uncut.jal (c : CoreId) (o : OpJ) : Uncut.Statement (.jal c o) := ⟨rfl, rfl⟩
theorem Uncut.jalr (c : CoreId) (o : OpI) : Uncut.Statement (.jalr c o) := ⟨rfl, rfl⟩
theorem Uncut.fadd (c : CoreId) (o : OpF) : Uncut.Statement (.fadd c o) := ⟨rfl, rfl⟩
theorem Uncut.fsub (c : CoreId) (o : OpF) : Uncut.Statement (.fsub c o) := ⟨rfl, rfl⟩
theorem Uncut.fmul (c : CoreId) (o : OpF) : Uncut.Statement (.fmul c o) := ⟨rfl, rfl⟩
theorem Uncut.fdiv (c : CoreId) (o : OpF) : Uncut.Statement (.fdiv c o) := ⟨rfl, rfl⟩
theorem Uncut.fsqrt (c : CoreId) (o : OpF) : Uncut.Statement (.fsqrt c o) := ⟨rfl, rfl⟩
theorem Uncut.fmadd (c : CoreId) (o : OpF) : Uncut.Statement (.fmadd c o) := ⟨rfl, rfl⟩
theorem Uncut.feq (c : CoreId) (o : OpF) : Uncut.Statement (.feq c o) := ⟨rfl, rfl⟩
theorem Uncut.flt (c : CoreId) (o : OpF) : Uncut.Statement (.flt c o) := ⟨rfl, rfl⟩
theorem Uncut.fle (c : CoreId) (o : OpF) : Uncut.Statement (.fle c o) := ⟨rfl, rfl⟩
theorem Uncut.fcvtff (c : CoreId) (o : OpF) : Uncut.Statement (.fcvtff c o) := ⟨rfl, rfl⟩
theorem Uncut.fcvtfh (c : CoreId) (o : OpF) : Uncut.Statement (.fcvtfh c o) := ⟨rfl, rfl⟩
theorem Uncut.fcvthf (c : CoreId) (o : OpF) : Uncut.Statement (.fcvthf c o) := ⟨rfl, rfl⟩
theorem Uncut.fcvtif (c : CoreId) (o : OpF) : Uncut.Statement (.fcvtif c o) := ⟨rfl, rfl⟩
theorem Uncut.fcvtuf (c : CoreId) (o : OpF) : Uncut.Statement (.fcvtuf c o) := ⟨rfl, rfl⟩
theorem Uncut.fcvtfi (c : CoreId) (o : OpF) : Uncut.Statement (.fcvtfi c o) := ⟨rfl, rfl⟩
theorem Uncut.fcvtfu (c : CoreId) (o : OpF) : Uncut.Statement (.fcvtfu c o) := ⟨rfl, rfl⟩
theorem Uncut.fmvxf (c : CoreId) (o : OpF) : Uncut.Statement (.fmvxf c o) := ⟨rfl, rfl⟩
theorem Uncut.fmvfx (c : CoreId) (o : OpF) : Uncut.Statement (.fmvfx c o) := ⟨rfl, rfl⟩
theorem Uncut.fstatr (c : CoreId) (o : OpF) : Uncut.Statement (.fstatr c o) := ⟨rfl, rfl⟩
theorem Uncut.fstatw (c : CoreId) (o : OpF) : Uncut.Statement (.fstatw c o) := ⟨rfl, rfl⟩
theorem Uncut.flw (c : CoreId) (o : OpFI) : Uncut.Statement (.flw c o) := ⟨rfl, rfl⟩
theorem Uncut.fld (c : CoreId) (o : OpFI) : Uncut.Statement (.fld c o) := ⟨rfl, rfl⟩
theorem Uncut.fsw (c : CoreId) (o : OpFS) : Uncut.Statement (.fsw c o) := ⟨rfl, rfl⟩
theorem Uncut.fsd (c : CoreId) (o : OpFS) : Uncut.Statement (.fsd c o) := ⟨rfl, rfl⟩
theorem Uncut.lcall (c : CoreId) (o : OpCode) : Uncut.Statement (.lcall c o) := ⟨rfl, rfl⟩
theorem Uncut.brk (c : CoreId) (o : OpCode) : Uncut.Statement (.brk c o) := ⟨rfl, rfl⟩
theorem Uncut.qwin (c : CoreId) (o : OpR) : Uncut.Statement (.qwin c o) := ⟨rfl, rfl⟩
theorem Uncut.wfi (c : CoreId) (o : OpR) : Uncut.Statement (.wfi c o) := ⟨rfl, rfl⟩
theorem Uncut.rfe (c : CoreId) (o : OpR) : Uncut.Statement (.rfe c o) := ⟨rfl, rfl⟩
theorem Uncut.fseal (c : CoreId) (o : OpR) : Uncut.Statement (.fseal c o) := ⟨rfl, rfl⟩
theorem Uncut.taskj (c : CoreId) (o : OpR) : Uncut.Statement (.taskj c o) := ⟨rfl, rfl⟩
theorem Uncut.canreq (c : CoreId) (o : OpR) : Uncut.Statement (.canreq c o) := ⟨rfl, rfl⟩
theorem Uncut.cstop (c : CoreId) (o : OpR) : Uncut.Statement (.cstop c o) := ⟨rfl, rfl⟩
theorem Uncut.tmma (c : CoreId) (o : OpMma) : Uncut.Statement (.tmma c o) := ⟨rfl, rfl⟩
theorem Uncut.tmma4 (c : CoreId) (o : OpMma) : Uncut.Statement (.tmma4 c o) := ⟨rfl, rfl⟩
theorem Uncut.tld (c : CoreId) (o : OpMov) : Uncut.Statement (.tld c o) := ⟨rfl, rfl⟩
theorem Uncut.tst (c : CoreId) (o : OpMov) : Uncut.Statement (.tst c o) := ⟨rfl, rfl⟩
theorem Uncut.tzero (c : CoreId) (o : OpTz) : Uncut.Statement (.tzero c o) := ⟨rfl, rfl⟩
theorem Uncut.tfree (c : CoreId) (o : OpTf) : Uncut.Statement (.tfree c o) := ⟨rfl, rfl⟩
theorem Uncut.tgetv (c : CoreId) (o : OpTv) : Uncut.Statement (.tgetv c o) := ⟨rfl, rfl⟩
theorem Uncut.tputv (c : CoreId) (o : OpTv) : Uncut.Statement (.tputv c o) := ⟨rfl, rfl⟩
theorem Uncut.vld (c : CoreId) (o : OpM) : Uncut.Statement (.vld c o) := ⟨rfl, rfl⟩
theorem Uncut.vldff (c : CoreId) (o : OpM) : Uncut.Statement (.vldff c o) := ⟨rfl, rfl⟩
theorem Uncut.vldw (c : CoreId) (o : OpM) : Uncut.Statement (.vldw c o) := ⟨rfl, rfl⟩
theorem Uncut.vst (c : CoreId) (o : OpM) : Uncut.Statement (.vst c o) := ⟨rfl, rfl⟩
theorem Uncut.vstn (c : CoreId) (o : OpM) : Uncut.Statement (.vstn c o) := ⟨rfl, rfl⟩
theorem Uncut.vstns (c : CoreId) (o : OpM) : Uncut.Statement (.vstns c o) := ⟨rfl, rfl⟩
theorem Uncut.vadd (c : CoreId) (o : OpV) : Uncut.Statement (.vadd c o) := ⟨rfl, rfl⟩
theorem Uncut.vsub (c : CoreId) (o : OpV) : Uncut.Statement (.vsub c o) := ⟨rfl, rfl⟩
theorem Uncut.vmul (c : CoreId) (o : OpV) : Uncut.Statement (.vmul c o) := ⟨rfl, rfl⟩
theorem Uncut.vmulhu (c : CoreId) (o : OpV) : Uncut.Statement (.vmulhu c o) := ⟨rfl, rfl⟩
theorem Uncut.vand (c : CoreId) (o : OpV) : Uncut.Statement (.vand c o) := ⟨rfl, rfl⟩
theorem Uncut.vor (c : CoreId) (o : OpV) : Uncut.Statement (.vor c o) := ⟨rfl, rfl⟩
theorem Uncut.vxor (c : CoreId) (o : OpV) : Uncut.Statement (.vxor c o) := ⟨rfl, rfl⟩
theorem Uncut.vsll (c : CoreId) (o : OpV) : Uncut.Statement (.vsll c o) := ⟨rfl, rfl⟩
theorem Uncut.vsrl (c : CoreId) (o : OpV) : Uncut.Statement (.vsrl c o) := ⟨rfl, rfl⟩
theorem Uncut.vsra (c : CoreId) (o : OpV) : Uncut.Statement (.vsra c o) := ⟨rfl, rfl⟩
theorem Uncut.vmin (c : CoreId) (o : OpV) : Uncut.Statement (.vmin c o) := ⟨rfl, rfl⟩
theorem Uncut.vmax (c : CoreId) (o : OpV) : Uncut.Statement (.vmax c o) := ⟨rfl, rfl⟩
theorem Uncut.vminu (c : CoreId) (o : OpV) : Uncut.Statement (.vminu c o) := ⟨rfl, rfl⟩
theorem Uncut.vmaxu (c : CoreId) (o : OpV) : Uncut.Statement (.vmaxu c o) := ⟨rfl, rfl⟩
theorem Uncut.vabsdu (c : CoreId) (o : OpV) : Uncut.Statement (.vabsdu c o) := ⟨rfl, rfl⟩
theorem Uncut.vfadd (c : CoreId) (o : OpV) : Uncut.Statement (.vfadd c o) := ⟨rfl, rfl⟩
theorem Uncut.vfsub (c : CoreId) (o : OpV) : Uncut.Statement (.vfsub c o) := ⟨rfl, rfl⟩
theorem Uncut.vfmul (c : CoreId) (o : OpV) : Uncut.Statement (.vfmul c o) := ⟨rfl, rfl⟩
theorem Uncut.vfdiv (c : CoreId) (o : OpV) : Uncut.Statement (.vfdiv c o) := ⟨rfl, rfl⟩
theorem Uncut.vfsqrt (c : CoreId) (o : OpV) : Uncut.Statement (.vfsqrt c o) := ⟨rfl, rfl⟩
theorem Uncut.vfmax (c : CoreId) (o : OpV) : Uncut.Statement (.vfmax c o) := ⟨rfl, rfl⟩
theorem Uncut.vfmin (c : CoreId) (o : OpV) : Uncut.Statement (.vfmin c o) := ⟨rfl, rfl⟩
theorem Uncut.vfabs (c : CoreId) (o : OpV) : Uncut.Statement (.vfabs c o) := ⟨rfl, rfl⟩
theorem Uncut.vfneg (c : CoreId) (o : OpV) : Uncut.Statement (.vfneg c o) := ⟨rfl, rfl⟩
theorem Uncut.vfexp (c : CoreId) (o : OpV) : Uncut.Statement (.vfexp c o) := ⟨rfl, rfl⟩
theorem Uncut.vflog (c : CoreId) (o : OpV) : Uncut.Statement (.vflog c o) := ⟨rfl, rfl⟩
theorem Uncut.vfrsqrt (c : CoreId) (o : OpV) : Uncut.Statement (.vfrsqrt c o) := ⟨rfl, rfl⟩
theorem Uncut.vfrecip (c : CoreId) (o : OpV) : Uncut.Statement (.vfrecip c o) := ⟨rfl, rfl⟩
theorem Uncut.vfceq (c : CoreId) (o : OpV) : Uncut.Statement (.vfceq c o) := ⟨rfl, rfl⟩
theorem Uncut.vfclt (c : CoreId) (o : OpV) : Uncut.Statement (.vfclt c o) := ⟨rfl, rfl⟩
theorem Uncut.vfcle (c : CoreId) (o : OpV) : Uncut.Statement (.vfcle c o) := ⟨rfl, rfl⟩
theorem Uncut.vfma (c : CoreId) (o : OpV) : Uncut.Statement (.vfma c o) := ⟨rfl, rfl⟩
theorem Uncut.vfms (c : CoreId) (o : OpV) : Uncut.Statement (.vfms c o) := ⟨rfl, rfl⟩
theorem Uncut.vfnma (c : CoreId) (o : OpV) : Uncut.Statement (.vfnma c o) := ⟨rfl, rfl⟩
theorem Uncut.vredsum (c : CoreId) (o : OpV) : Uncut.Statement (.vredsum c o) := ⟨rfl, rfl⟩
theorem Uncut.vredmax (c : CoreId) (o : OpV) : Uncut.Statement (.vredmax c o) := ⟨rfl, rfl⟩
theorem Uncut.vredmin (c : CoreId) (o : OpV) : Uncut.Statement (.vredmin c o) := ⟨rfl, rfl⟩
theorem Uncut.vfredsum (c : CoreId) (o : OpV) : Uncut.Statement (.vfredsum c o) := ⟨rfl, rfl⟩
theorem Uncut.vfredmax (c : CoreId) (o : OpV) : Uncut.Statement (.vfredmax c o) := ⟨rfl, rfl⟩
theorem Uncut.vfredmin (c : CoreId) (o : OpV) : Uncut.Statement (.vfredmin c o) := ⟨rfl, rfl⟩
theorem Uncut.vfdot (c : CoreId) (o : OpV) : Uncut.Statement (.vfdot c o) := ⟨rfl, rfl⟩
theorem Uncut.vsad (c : CoreId) (o : OpV) : Uncut.Statement (.vsad c o) := ⟨rfl, rfl⟩
theorem Uncut.vsadf (c : CoreId) (o : OpV) : Uncut.Statement (.vsadf c o) := ⟨rfl, rfl⟩
theorem Uncut.vsetvl (c : CoreId) (o : OpV) : Uncut.Statement (.vsetvl c o) := ⟨rfl, rfl⟩
theorem Uncut.vmv (c : CoreId) (o : OpV) : Uncut.Statement (.vmv c o) := ⟨rfl, rfl⟩
theorem Uncut.vsplat (c : CoreId) (o : OpV) : Uncut.Statement (.vsplat c o) := ⟨rfl, rfl⟩
theorem Uncut.vceq (c : CoreId) (o : OpV) : Uncut.Statement (.vceq c o) := ⟨rfl, rfl⟩
theorem Uncut.vclt (c : CoreId) (o : OpV) : Uncut.Statement (.vclt c o) := ⟨rfl, rfl⟩
theorem Uncut.vcltu (c : CoreId) (o : OpV) : Uncut.Statement (.vcltu c o) := ⟨rfl, rfl⟩
theorem Uncut.vmand (c : CoreId) (o : OpV) : Uncut.Statement (.vmand c o) := ⟨rfl, rfl⟩
theorem Uncut.vmor (c : CoreId) (o : OpV) : Uncut.Statement (.vmor c o) := ⟨rfl, rfl⟩
theorem Uncut.vmxor (c : CoreId) (o : OpV) : Uncut.Statement (.vmxor c o) := ⟨rfl, rfl⟩
theorem Uncut.vmandn (c : CoreId) (o : OpV) : Uncut.Statement (.vmandn c o) := ⟨rfl, rfl⟩
theorem Uncut.vmpop (c : CoreId) (o : OpV) : Uncut.Statement (.vmpop c o) := ⟨rfl, rfl⟩
theorem Uncut.vmfirst (c : CoreId) (o : OpV) : Uncut.Statement (.vmfirst c o) := ⟨rfl, rfl⟩
theorem Uncut.vcvtfw (c : CoreId) (o : OpV) : Uncut.Statement (.vcvtfw c o) := ⟨rfl, rfl⟩
theorem Uncut.vcvtwf (c : CoreId) (o : OpV) : Uncut.Statement (.vcvtwf c o) := ⟨rfl, rfl⟩
theorem Uncut.vcvtwfs (c : CoreId) (o : OpV) : Uncut.Statement (.vcvtwfs c o) := ⟨rfl, rfl⟩
theorem Uncut.vcvtif (c : CoreId) (o : OpV) : Uncut.Statement (.vcvtif c o) := ⟨rfl, rfl⟩
theorem Uncut.vcvtfi (c : CoreId) (o : OpV) : Uncut.Statement (.vcvtfi c o) := ⟨rfl, rfl⟩
theorem Uncut.vcvtb (c : CoreId) (o : OpV) : Uncut.Statement (.vcvtb c o) := ⟨rfl, rfl⟩
theorem Uncut.vcvtbf (c : CoreId) (o : OpV) : Uncut.Statement (.vcvtbf c o) := ⟨rfl, rfl⟩
theorem Uncut.vrand (c : CoreId) (o : OpV) : Uncut.Statement (.vrand c o) := ⟨rfl, rfl⟩
theorem Uncut.vrseed (c : CoreId) (o : OpV) : Uncut.Statement (.vrseed c o) := ⟨rfl, rfl⟩
theorem Uncut.vmom (c : CoreId) (o : OpU) : Uncut.Statement (.vmom c o) := ⟨rfl, rfl⟩
theorem Uncut.vbias (c : CoreId) (o : OpU) : Uncut.Statement (.vbias c o) := ⟨rfl, rfl⟩
theorem Uncut.vsign (c : CoreId) (o : OpU) : Uncut.Statement (.vsign c o) := ⟨rfl, rfl⟩
theorem Uncut.vsrnd (c : CoreId) (o : OpU) : Uncut.Statement (.vsrnd c o) := ⟨rfl, rfl⟩
theorem Uncut.fence (c : CoreId) (o : OpFence) : Uncut.Statement (.fence c o) := ⟨rfl, rfl⟩
theorem Uncut.fenceG (c : CoreId) (o : OpR) : Uncut.Statement (.fenceG c o) := ⟨rfl, rfl⟩
theorem Uncut.amoadd (c : CoreId) (o : OpAmo) : Uncut.Statement (.amoadd c o) := ⟨rfl, rfl⟩
theorem Uncut.amoswap (c : CoreId) (o : OpAmo) : Uncut.Statement (.amoswap c o) := ⟨rfl, rfl⟩
theorem Uncut.amoand (c : CoreId) (o : OpAmo) : Uncut.Statement (.amoand c o) := ⟨rfl, rfl⟩
theorem Uncut.amoor (c : CoreId) (o : OpAmo) : Uncut.Statement (.amoor c o) := ⟨rfl, rfl⟩
theorem Uncut.amoxor (c : CoreId) (o : OpAmo) : Uncut.Statement (.amoxor c o) := ⟨rfl, rfl⟩
theorem Uncut.amomax (c : CoreId) (o : OpAmo) : Uncut.Statement (.amomax c o) := ⟨rfl, rfl⟩
theorem Uncut.amomin (c : CoreId) (o : OpAmo) : Uncut.Statement (.amomin c o) := ⟨rfl, rfl⟩
theorem Uncut.amomaxu (c : CoreId) (o : OpAmo) : Uncut.Statement (.amomaxu c o) := ⟨rfl, rfl⟩
theorem Uncut.amominu (c : CoreId) (o : OpAmo) : Uncut.Statement (.amominu c o) := ⟨rfl, rfl⟩
theorem Uncut.amocas (c : CoreId) (o : OpAmo) : Uncut.Statement (.amocas c o) := ⟨rfl, rfl⟩
theorem Uncut.rget (c : CoreId) (o : OpRem) : Uncut.Statement (.rget c o) := ⟨rfl, rfl⟩
theorem Uncut.rput (c : CoreId) (o : OpRem) : Uncut.Statement (.rput c o) := ⟨rfl, rfl⟩
theorem Uncut.ratom (c : CoreId) (o : OpRem) : Uncut.Statement (.ratom c o) := ⟨rfl, rfl⟩
theorem Uncut.rexsum (c : CoreId) (o : OpRem) : Uncut.Statement (.rexsum c o) := ⟨rfl, rfl⟩
theorem Uncut.rexsumsq (c : CoreId) (o : OpRem) : Uncut.Statement (.rexsumsq c o) := ⟨rfl, rfl⟩
theorem Uncut.rservice (c : CoreId) (o : OpRem) : Uncut.Statement (.rservice c o) := ⟨rfl, rfl⟩
theorem Uncut.bsig (c : CoreId) (o : OpBlz) : Uncut.Statement (.bsig c o) := ⟨rfl, rfl⟩
theorem Uncut.bwait (c : CoreId) (o : OpBlz) : Uncut.Statement (.bwait c o) := ⟨rfl, rfl⟩
theorem Uncut.takeInterrupt (b : AtBoundary) : Uncut.Statement (.takeInterrupt b) := ⟨rfl, rfl⟩
theorem Uncut.fetchLineFill (c : CoreId) (line : Nat) : Uncut.Statement (.fetchLineFill c line) := ⟨rfl, rfl⟩
theorem Uncut.tileRetire (c : CoreId) : Uncut.Statement (.tileRetire c) := ⟨rfl, rfl⟩
theorem Uncut.mergePerform (c : CoreId) (idx : Nat) : Uncut.Statement (.mergePerform c idx) := ⟨rfl, rfl⟩
theorem Uncut.l2FillComplete (slice line : Nat) : Uncut.Statement (.l2FillComplete slice line) := ⟨rfl, rfl⟩
theorem Uncut.stackAccess (addr : Nat) (errs : List SymErr) : Uncut.Statement (.stackAccess addr errs) := ⟨rfl, rfl⟩
theorem Uncut.marchRunEnd (rep : List MarchRepair) (fail : List MarchFail) : Uncut.Statement (.marchRunEnd rep fail) := ⟨rfl, rfl⟩
theorem Uncut.pteSetComplete (st : Fin 12) : Uncut.Statement (.pteSetComplete st) := ⟨rfl, rfl⟩
theorem Uncut.subCloseEffect (k : Fin 64) : Uncut.Statement (.subCloseEffect k) := ⟨rfl, rfl⟩
theorem Uncut.poolWaitResume (idx : Nat) : Uncut.Statement (.poolWaitResume idx) := ⟨rfl, rfl⟩
theorem Uncut.claimResponse (p : Packet) : Uncut.Statement (.claimResponse p) := ⟨rfl, rfl⟩
theorem Uncut.voteReady (p : Packet) : Uncut.Statement (.voteReady p) := ⟨rfl, rfl⟩
theorem Uncut.voteDoom (p : Packet) : Uncut.Statement (.voteDoom p) := ⟨rfl, rfl⟩
theorem Uncut.voteRefuse (p : Packet) : Uncut.Statement (.voteRefuse p) := ⟨rfl, rfl⟩
theorem Uncut.voteFlipped (p : Packet) : Uncut.Statement (.voteFlipped p) := ⟨rfl, rfl⟩
theorem Uncut.voteClaim (p : Packet) : Uncut.Statement (.voteClaim p) := ⟨rfl, rfl⟩
theorem Uncut.voteMirrored (p : Packet) : Uncut.Statement (.voteMirrored p) := ⟨rfl, rfl⟩
theorem Uncut.recvCommit (p : Packet) : Uncut.Statement (.recvCommit p) := ⟨rfl, rfl⟩
theorem Uncut.recvDiscard (p : Packet) : Uncut.Statement (.recvDiscard p) := ⟨rfl, rfl⟩
theorem Uncut.recvRetire (p : Packet) : Uncut.Statement (.recvRetire p) := ⟨rfl, rfl⟩
theorem Uncut.xferCopy (e : Fin 16) : Uncut.Statement (.xferCopy e) := ⟨rfl, rfl⟩
theorem Uncut.xferGet (e : Fin 16) : Uncut.Statement (.xferGet e) := ⟨rfl, rfl⟩
theorem Uncut.xferPut (e : Fin 16) : Uncut.Statement (.xferPut e) := ⟨rfl, rfl⟩
theorem Uncut.xferZero (e : Fin 16) : Uncut.Statement (.xferZero e) := ⟨rfl, rfl⟩
theorem Uncut.xferExsum (e : Fin 16) : Uncut.Statement (.xferExsum e) := ⟨rfl, rfl⟩
theorem Uncut.xferExsumsq (e : Fin 16) : Uncut.Statement (.xferExsumsq e) := ⟨rfl, rfl⟩
theorem Uncut.xferSignal (e : Fin 16) : Uncut.Statement (.xferSignal e) := ⟨rfl, rfl⟩
theorem Uncut.requestIssue (e : Fin 16) : Uncut.Statement (.requestIssue e) := ⟨rfl, rfl⟩
theorem Uncut.requestComplete (e : Fin 16) (id : Nat) : Uncut.Statement (.requestComplete e id) := ⟨rfl, rfl⟩
theorem Uncut.descriptorComplete (e : Fin 16) (desc : Nat) : Uncut.Statement (.descriptorComplete e desc) := ⟨rfl, rfl⟩
theorem Uncut.flitReceive (port : Fin 36) (f : Flit) : Uncut.Statement (.flitReceive port f) := ⟨rfl, rfl⟩
theorem Uncut.trainingComplete (port : Fin 36) (errs syms : List Nat) (ok : Bool) : Uncut.Statement (.trainingComplete port errs syms ok) := ⟨rfl, rfl⟩
theorem Uncut.joinAccept (port : Fin 36) : Uncut.Statement (.joinAccept port) := ⟨rfl, rfl⟩
theorem Uncut.rideGet (p : Packet) : Uncut.Statement (.rideGet p) := ⟨rfl, rfl⟩
theorem Uncut.ridePut (p : Packet) : Uncut.Statement (.ridePut p) := ⟨rfl, rfl⟩
theorem Uncut.rideAtom (p : Packet) : Uncut.Statement (.rideAtom p) := ⟨rfl, rfl⟩
theorem Uncut.rideExsum (p : Packet) : Uncut.Statement (.rideExsum p) := ⟨rfl, rfl⟩
theorem Uncut.rideExsumsq (p : Packet) : Uncut.Statement (.rideExsumsq p) := ⟨rfl, rfl⟩
theorem Uncut.rideSignal (p : Packet) : Uncut.Statement (.rideSignal p) := ⟨rfl, rfl⟩
theorem Uncut.rideWait (p : Packet) : Uncut.Statement (.rideWait p) := ⟨rfl, rfl⟩
theorem Uncut.rideService (p : Packet) : Uncut.Statement (.rideService p) := ⟨rfl, rfl⟩
theorem Uncut.rideMirrorPut (p : Packet) : Uncut.Statement (.rideMirrorPut p) := ⟨rfl, rfl⟩
theorem Uncut.rideResponse (p : Packet) : Uncut.Statement (.rideResponse p) := ⟨rfl, rfl⟩
theorem Uncut.busyResend (id : Nat) : Uncut.Statement (.busyResend id) := ⟨rfl, rfl⟩
theorem Uncut.holdTimeout (src cls psn : Nat) : Uncut.Statement (.holdTimeout src cls psn) := ⟨rfl, rfl⟩
theorem Uncut.failover (id : Nat) : Uncut.Statement (.failover id) := ⟨rfl, rfl⟩
theorem Uncut.remoteCompletion (id : Nat) : Uncut.Statement (.remoteCompletion id) := ⟨rfl, rfl⟩
theorem Uncut.bwaitRetire (c : CoreId) : Uncut.Statement (.bwaitRetire c) := ⟨rfl, rfl⟩
theorem Uncut.post (v : Word) : Uncut.Statement (.post v) := ⟨rfl, rfl⟩
theorem Uncut.taskDone (c : CoreId) : Uncut.Statement (.taskDone c) := ⟨rfl, rfl⟩
theorem Uncut.holdEntry (c : CoreId) : Uncut.Statement (.holdEntry c) := ⟨rfl, rfl⟩
theorem Uncut.holdWake (c : CoreId) : Uncut.Statement (.holdWake c) := ⟨rfl, rfl⟩
theorem Uncut.activityStart (k : Fin 4) : Uncut.Statement (.activityStart k) := ⟨rfl, rfl⟩
theorem Uncut.coreRestWake (c : CoreId) : Uncut.Statement (.coreRestWake c) := ⟨rfl, rfl⟩
theorem Uncut.deviceWake (source : Fin 16) (b : BootIn) : Uncut.Statement (.deviceWake source b) := ⟨rfl, rfl⟩
theorem Uncut.avsFrame (m : Fin 2) (ok vdone : Bool) : Uncut.Statement (.avsFrame m ok vdone) := ⟨rfl, rfl⟩
theorem Uncut.poreset (b : BootIn) : Uncut.Statement (.poreset b) := ⟨rfl, rfl⟩
theorem Uncut.warmrst (b : BootIn) : Uncut.Statement (.warmrst b) := ⟨rfl, rfl⟩
theorem Uncut.wdnReset (b : BootIn) : Uncut.Statement (.wdnReset b) := ⟨rfl, rfl⟩
theorem Uncut.mgmtFrame (f : MgmtFrame) : Uncut.Statement (.mgmtFrame f) := ⟨rfl, rfl⟩
theorem Uncut.faultRecord (e : FaultIn) : Uncut.Statement (.faultRecord e) := ⟨rfl, rfl⟩
theorem Uncut.registerWrite (m a : Nat) (v : Word) : Uncut.Statement (.registerWrite m a v) := ⟨rfl, rfl⟩
theorem Uncut.timer (c : CoreId) : Uncut.Statement (.timer c) := ⟨rfl, rfl⟩
theorem Uncut.vectorRetire (c : CoreId) : Uncut.Statement (.vectorRetire c) := ⟨rfl, rfl⟩
theorem Uncut.quietWindowEnd (c : CoreId) : Uncut.Statement (.quietWindowEnd c) := ⟨rfl, rfl⟩
theorem Uncut.wardenStopTaken (c : CoreId) : Uncut.Statement (.wardenStopTaken c) := ⟨rfl, rfl⟩
theorem Uncut.coreSwiWrite (c : CoreId) (v : Word) : Uncut.Statement (.coreSwiWrite c v) := ⟨rfl, rfl⟩
theorem Uncut.numModeApply (c : CoreId) : Uncut.Statement (.numModeApply c) := ⟨rfl, rfl⟩
theorem Uncut.arrayRampStep (c : CoreId) : Uncut.Statement (.arrayRampStep c) := ⟨rfl, rfl⟩
theorem Uncut.vecVlApply (c : CoreId) : Uncut.Statement (.vecVlApply c) := ⟨rfl, rfl⟩
theorem Uncut.quiescentApply (c : CoreId) : Uncut.Statement (.quiescentApply c) := ⟨rfl, rfl⟩
theorem Uncut.prefetch (c : CoreId) (idx : Nat) : Uncut.Statement (.prefetch c idx) := ⟨rfl, rfl⟩
theorem Uncut.deadfall (c : CoreId) (v : Word) : Uncut.Statement (.deadfall c v) := ⟨rfl, rfl⟩
theorem Uncut.thrashWindow (slice : Fin 8) : Uncut.Statement (.thrashWindow slice) := ⟨rfl, rfl⟩
theorem Uncut.marchGo (v : Word) : Uncut.Statement (.marchGo v) := ⟨rfl, rfl⟩
theorem Uncut.pteSet (st : Fin 12) (v : Word) : Uncut.Statement (.pteSet st v) := ⟨rfl, rfl⟩
theorem Uncut.accClear (st : Fin 12) (idx : Fin 4096) (v : Word) : Uncut.Statement (.accClear st idx v) := ⟨rfl, rfl⟩
theorem Uncut.accAdd (st : Fin 12) (idx : Fin 4096) (v : Word) : Uncut.Statement (.accAdd st idx v) := ⟨rfl, rfl⟩
theorem Uncut.accAddsq (st : Fin 12) (idx : Fin 4096) (v : Word) : Uncut.Statement (.accAddsq st idx v) := ⟨rfl, rfl⟩
theorem Uncut.subOpen (k : Fin 64) : Uncut.Statement (.subOpen k) := ⟨rfl, rfl⟩
theorem Uncut.subCloseKeep (k : Fin 64) : Uncut.Statement (.subCloseKeep k) := ⟨rfl, rfl⟩
theorem Uncut.subCloseDiscard (k : Fin 64) : Uncut.Statement (.subCloseDiscard k) := ⟨rfl, rfl⟩
theorem Uncut.silenceTimeout (member : Nat) : Uncut.Statement (.silenceTimeout member) := ⟨rfl, rfl⟩
theorem Uncut.outcomeTimeout (ring : Nat) : Uncut.Statement (.outcomeTimeout ring) := ⟨rfl, rfl⟩
theorem Uncut.resolveRetry (ring : Nat) (lead : Bool) : Uncut.Statement (.resolveRetry ring lead) := ⟨rfl, rfl⟩
theorem Uncut.voteAlive (p : Packet) : Uncut.Statement (.voteAlive p) := ⟨rfl, rfl⟩
theorem Uncut.ringNextWrite (v : Word) : Uncut.Statement (.ringNextWrite v) := ⟨rfl, rfl⟩
theorem Uncut.ringGstepWrite (v : Word) : Uncut.Statement (.ringGstepWrite v) := ⟨rfl, rfl⟩
theorem Uncut.xferPost (m : Nat) (e : Fin 16) (v : Word) : Uncut.Statement (.xferPost m e v) := ⟨rfl, rfl⟩
theorem Uncut.xferAbort (e : Fin 16) : Uncut.Statement (.xferAbort e) := ⟨rfl, rfl⟩
theorem Uncut.replayRequest (port : Fin 36) (ack : Nat) : Uncut.Statement (.replayRequest port ack) := ⟨rfl, rfl⟩
theorem Uncut.replayTimeout (port : Fin 36) : Uncut.Statement (.replayTimeout port) := ⟨rfl, rfl⟩
theorem Uncut.portFailure (port : Fin 36) : Uncut.Statement (.portFailure port) := ⟨rfl, rfl⟩
theorem Uncut.fecThreshold (port : Fin 36) (ended : Bool) : Uncut.Statement (.fecThreshold port ended) := ⟨rfl, rfl⟩
theorem Uncut.retrain (port : Fin 36) : Uncut.Statement (.retrain port) := ⟨rfl, rfl⟩
theorem Uncut.joinRefuse (port : Fin 36) : Uncut.Statement (.joinRefuse port) := ⟨rfl, rfl⟩
theorem Uncut.streamExpiry (src cls : Nat) : Uncut.Statement (.streamExpiry src cls) := ⟨rfl, rfl⟩
theorem Uncut.duplicateWaitExpiry (id : Nat) : Uncut.Statement (.duplicateWaitExpiry id) := ⟨rfl, rfl⟩
theorem Uncut.blzValueWrite (b : Fin 16384) (v : Word) : Uncut.Statement (.blzValueWrite b v) := ⟨rfl, rfl⟩
theorem Uncut.blzAddWrite (b : Fin 16384) (v : Word) : Uncut.Statement (.blzAddWrite b v) := ⟨rfl, rfl⟩
theorem Uncut.cancel (v : Word) : Uncut.Statement (.cancel v) := ⟨rfl, rfl⟩
theorem Uncut.sensorReading (q : Fin 4) (t : Nat) : Uncut.Statement (.sensorReading q t) := ⟨rfl, rfl⟩
theorem Uncut.activityEnd (k : Fin 4) (mon : List MonRead) : Uncut.Statement (.activityEnd k mon) := ⟨rfl, rfl⟩
theorem Uncut.forActWrite (k : Fin 4) (v : Word) : Uncut.Statement (.forActWrite k v) := ⟨rfl, rfl⟩
theorem Uncut.coreRest (c : CoreId) : Uncut.Statement (.coreRest c) := ⟨rfl, rfl⟩
theorem Uncut.thermalTrip (q : Fin 4) (t : Nat) : Uncut.Statement (.thermalTrip q t) := ⟨rfl, rfl⟩
theorem Uncut.railAck (k : Fin 5) : Uncut.Statement (.railAck k) := ⟨rfl, rfl⟩
theorem Uncut.avsTimeout (k : Fin 5) : Uncut.Statement (.avsTimeout k) := ⟨rfl, rfl⟩
theorem Uncut.clockStep (c : CoreId) : Uncut.Statement (.clockStep c) := ⟨rfl, rfl⟩
theorem Uncut.ageMeasure (mon : List MonRead) : Uncut.Statement (.ageMeasure mon) := ⟨rfl, rfl⟩
theorem Uncut.mailboxPost (v : Word) : Uncut.Statement (.mailboxPost v) := ⟨rfl, rfl⟩
theorem Uncut.svcqBaseWrite (v : Word) : Uncut.Statement (.svcqBaseWrite v) := ⟨rfl, rfl⟩
theorem Uncut.wtSeedWrite (v : Word) : Uncut.Statement (.wtSeedWrite v) := ⟨rfl, rfl⟩
theorem Uncut.wtPointWrite (k : Fin 6) (v : Word) : Uncut.Statement (.wtPointWrite k v) := ⟨rfl, rfl⟩
theorem Uncut.pmbusPoll (r : List PmRead) : Uncut.Statement (.pmbusPoll r) := ⟨rfl, rfl⟩
theorem Uncut.gpioEdge (pin : Fin 16) : Uncut.Statement (.gpioEdge pin) := ⟨rfl, rfl⟩
theorem Uncut.updFallbackSet (c : CoreId) (v : Word) : Uncut.Statement (.updFallbackSet c v) := ⟨rfl, rfl⟩
theorem Uncut.updCountInc (c : CoreId) (k : Fin 2) : Uncut.Statement (.updCountInc c k) := ⟨rfl, rfl⟩
theorem Uncut.claimResend (ring : Nat) (lead : Bool) : Uncut.Statement (.claimResend ring lead) := ⟨rfl, rfl⟩
theorem Uncut.wtXportHoldRelease (idx : Nat) : Uncut.Statement (.wtXportHoldRelease idx) := ⟨rfl, rfl⟩
theorem Uncut.bankModeChange : Uncut.Statement .bankModeChange := ⟨rfl, rfl⟩
theorem Uncut.ringOpen : Uncut.Statement .ringOpen := ⟨rfl, rfl⟩
theorem Uncut.openAccept : Uncut.Statement .openAccept := ⟨rfl, rfl⟩
theorem Uncut.seal : Uncut.Statement .seal := ⟨rfl, rfl⟩
theorem Uncut.ringCtrlDiscard : Uncut.Statement .ringCtrlDiscard := ⟨rfl, rfl⟩
theorem Uncut.prepareComplete : Uncut.Statement .prepareComplete := ⟨rfl, rfl⟩
theorem Uncut.mirrorDrainComplete : Uncut.Statement .mirrorDrainComplete := ⟨rfl, rfl⟩
theorem Uncut.aliveTimer : Uncut.Statement .aliveTimer := ⟨rfl, rfl⟩
theorem Uncut.recoverResolve : Uncut.Statement .recoverResolve := ⟨rfl, rfl⟩
theorem Uncut.resetQuietEnd : Uncut.Statement .resetQuietEnd := ⟨rfl, rfl⟩
theorem Uncut.postAccept : Uncut.Statement .postAccept := ⟨rfl, rfl⟩
theorem Uncut.foresterTick : Uncut.Statement .foresterTick := ⟨rfl, rfl⟩
theorem Uncut.fcapAdjust : Uncut.Statement .fcapAdjust := ⟨rfl, rfl⟩
theorem Uncut.heatInAssert : Uncut.Statement .heatInAssert := ⟨rfl, rfl⟩
theorem Uncut.heatInRelease : Uncut.Statement .heatInRelease := ⟨rfl, rfl⟩
theorem Uncut.domainPowerDownDone : Uncut.Statement .domainPowerDownDone := ⟨rfl, rfl⟩
theorem Uncut.wakeComplete : Uncut.Statement .wakeComplete := ⟨rfl, rfl⟩
theorem Uncut.oscCalibration : Uncut.Statement .oscCalibration := ⟨rfl, rfl⟩
theorem Uncut.agePlan : Uncut.Statement .agePlan := ⟨rfl, rfl⟩
theorem Uncut.agePlanPeriod : Uncut.Statement .agePlanPeriod := ⟨rfl, rfl⟩
theorem Uncut.launchDrained : Uncut.Statement .launchDrained := ⟨rfl, rfl⟩
theorem Uncut.drainTimeout : Uncut.Statement .drainTimeout := ⟨rfl, rfl⟩
theorem Uncut.wdnInfo : Uncut.Statement .wdnInfo := ⟨rfl, rfl⟩
theorem Uncut.wdnQuote : Uncut.Statement .wdnQuote := ⟨rfl, rfl⟩
theorem Uncut.wdnCert : Uncut.Statement .wdnCert := ⟨rfl, rfl⟩
theorem Uncut.wdnLaunch : Uncut.Statement .wdnLaunch := ⟨rfl, rfl⟩
theorem Uncut.wdnStop : Uncut.Statement .wdnStop := ⟨rfl, rfl⟩
theorem Uncut.wdnRelease : Uncut.Statement .wdnRelease := ⟨rfl, rfl⟩
theorem Uncut.wdnRest : Uncut.Statement .wdnRest := ⟨rfl, rfl⟩
theorem Uncut.wdnOff : Uncut.Statement .wdnOff := ⟨rfl, rfl⟩
theorem Uncut.wdnFlashRead : Uncut.Statement .wdnFlashRead := ⟨rfl, rfl⟩
theorem Uncut.wdnFlashWrite : Uncut.Statement .wdnFlashWrite := ⟨rfl, rfl⟩
theorem Uncut.wdnAgeRead : Uncut.Statement .wdnAgeRead := ⟨rfl, rfl⟩
theorem Uncut.wdnLimits : Uncut.Statement .wdnLimits := ⟨rfl, rfl⟩
theorem Uncut.wdnEnroll : Uncut.Statement .wdnEnroll := ⟨rfl, rfl⟩
theorem Uncut.wdnFloorRaise : Uncut.Statement .wdnFloorRaise := ⟨rfl, rfl⟩
theorem Uncut.wdnFaultRead : Uncut.Statement .wdnFaultRead := ⟨rfl, rfl⟩
theorem Uncut.wdnMboxService : Uncut.Statement .wdnMboxService := ⟨rfl, rfl⟩
theorem Uncut.wdnTelemetry : Uncut.Statement .wdnTelemetry := ⟨rfl, rfl⟩
theorem Uncut.smbStatus : Uncut.Statement .smbStatus := ⟨rfl, rfl⟩
theorem Uncut.smbJunctionTemp : Uncut.Statement .smbJunctionTemp := ⟨rfl, rfl⟩
theorem Uncut.smbModulePower : Uncut.Statement .smbModulePower := ⟨rfl, rfl⟩
theorem Uncut.smbWdnBoot : Uncut.Statement .smbWdnBoot := ⟨rfl, rfl⟩
theorem Uncut.smbDieid : Uncut.Statement .smbDieid := ⟨rfl, rfl⟩
theorem Uncut.tapBypass : Uncut.Statement .tapBypass := ⟨rfl, rfl⟩
theorem Uncut.tapIdcode : Uncut.Statement .tapIdcode := ⟨rfl, rfl⟩
theorem Uncut.tapSamplePreload : Uncut.Statement .tapSamplePreload := ⟨rfl, rfl⟩
theorem Uncut.tapExtest : Uncut.Statement .tapExtest := ⟨rfl, rfl⟩
theorem Uncut.tapClamp : Uncut.Statement .tapClamp := ⟨rfl, rfl⟩
theorem Uncut.tapHighz : Uncut.Statement .tapHighz := ⟨rfl, rfl⟩
theorem Uncut.tapExtestPulse : Uncut.Statement .tapExtestPulse := ⟨rfl, rfl⟩
theorem Uncut.tapExtestTrain : Uncut.Statement .tapExtestTrain := ⟨rfl, rfl⟩
theorem Uncut.poresetNAssert : Uncut.Statement .poresetNAssert := ⟨rfl, rfl⟩
theorem Uncut.vddAonRemoval : Uncut.Statement .vddAonRemoval := ⟨rfl, rfl⟩
theorem Uncut.mgmtPortModeAlternate : Uncut.Statement .mgmtPortModeAlternate := ⟨rfl, rfl⟩

end Sys2Proof.Laws
end

