-- ==== Sys2Proof/Tests/Slice0.lean ====
section
/-! SUPPORT. Tests of the model: an ill-formed command for each check, words and results written out from the spec, and for each statement
of Certificates/Slice0/Obligations.lean that has premises a state and operands that meet them, clause by clause. -/
section
open Sys2Proof Sys2Proof.Machine Host

set_option maxRecDepth 100000
set_option Elab.async false
set_option linter.unusedTactic false
set_option linter.unreachableTactic false

/-! ### States -/

/-- A device that has booted: every domain up, physical cores numbered as the logical ones, device 5 joined with port 0 UP, and core 0
running at Ranger level in its own array with VL = 4. -/
def Tests.on : State :=
  let s : State := { State.reset with regs := (List.range 47).map fun n => (CORE_ID (n + 1), BitVec.ofNat 64 (256 * (n + 1) + (n + 1) / 12 * 64 + (n + 1))) }
  let s := s.setReg (CORE_STATUS 0) 1
  let s := s.setReg (VEC_VL 0) 4
  let s := s.setReg PWR_STATE 0xFFFFFFFFFF0
  let s := s.setReg RIDE_DEVICE 0x80000005
  let s := s.setFld (RIDE_PORT_STATUS 0) fldRIDE_PORT_STATUS_STATE 3
  s.modCore 0 fun k => { k with pc := 0xE1000001000 }

/-- `Tests.on` with a register of core 0 set. -/
def Tests.x (s : State) (r : BitVec 5) (w : Word) : State := s.modCore 0 fun k => k.setX r w

/-- `Ready` from its parts, all of which compute. -/
theorem Tests.ready (s : State) (c : CoreId) (n : Need) (h : (canRun s c && mayIssue s c n && boundaryIdle (s.core c) &&
    decide ((s.core c).stepDue = none) && decide ((s.core c).tileQ = []) && !s.test (CORE_STATUS c) fldCORE_STATUS_STEP &&
    fetchable s (s.core c).pc.toNat && decide ((s.core c).mcDue = []) && !(s.core c).spilled) = true) : Ready s c n := by
  simp only [Bool.and_eq_true, decide_eq_true_eq, Bool.not_eq_true'] at h
  obtain ⟨⟨⟨⟨⟨⟨⟨⟨h1, h2⟩, h3⟩, h4⟩, h5⟩, h6⟩, h7⟩, h8⟩, h9⟩ := h
  exact { runs := h1, issues := h2, idle := h3, noStep := h4, noTiles := h5, stepOff := h6, fetch := h7, noCheck := h8, noSpill := h9 }

/-- A core that is ready for a vector instruction runs it whole where nothing is upset and no interrupt or stop is due. -/
theorem Tests.vecReady (s : State) (c : CoreId) (hr : Ready s c .vector) (h : (!wtOn s && decide ((s.core c).bad = []) &&
    decide ((s.core c).badRes = []) && !cutDue s c) = true) : VecReady s c := by
  simp only [Bool.and_eq_true, decide_eq_true_eq, Bool.not_eq_true'] at h
  obtain ⟨⟨⟨hw, hb⟩, hc⟩, hu⟩ := h
  exact { ready := hr, quiet := hw, sound := ⟨hb, hc⟩, uncut := hu }

/-- Bytes of a core's array from their offset. -/
theorem Tests.inOneArray (s : State) (k off a n : Nat) (ha : a = windowBase + k * 0x1000000 + off)
    (h : (decide (k < 48) && arrayUp s k && decide (off + n + l1Share s k ≤ 0x800000)) = true) :
    ∀ i < n, regionOf s (a + i) = some (.array k (off + i)) := by
  simp only [Bool.and_eq_true, decide_eq_true_eq] at h
  obtain ⟨⟨hk, hu⟩, hl⟩ := h
  intro i hi
  have w : windowBase = 0xE1000000000 := rfl
  have b : bankBase = 0xE0000000000 := rfl
  have p : stackTop = 0x9000000000 := rfl
  rw [w] at ha
  have h1 : (a + i - windowBase) / 0x1000000 = k := by rw [w]; omega
  have h2 : (a + i - windowBase) % 0x1000000 = off + i := by rw [w]; omega
  rw [regionOf, if_neg (by rw [p]; omega), if_neg (by rw [b]; omega), if_neg (by rw [b]; omega), if_neg (by rw [w]; omega),
    if_pos (by rw [w]; omega)]
  simp only [h1, h2, hu, and_true]
  rw [if_pos (by omega)]

/-- Bytes of a bank. -/
theorem Tests.inOneBank (s : State) (b a n : Nat)
    (h : (decide (b < 64) && domainUp s (12 + b / 4) && !s.mem.bankOut.contains b && decide (bankBase + b * 0x1000000 ≤ a) &&
      decide (a + n ≤ bankBase + b * 0x1000000 + 0x1000000)) = true) : ∀ i < n, regionOf s (a + i) = some (.bank b) := by
  simp only [Bool.and_eq_true, decide_eq_true_eq, Bool.not_eq_true'] at h
  obtain ⟨⟨⟨⟨hb, hu⟩, ho⟩, hl⟩, hh⟩ := h
  intro i hi
  have b' : bankBase = 0xE0000000000 := rfl
  have p : stackTop = 0x9000000000 := rfl
  rw [b'] at hl hh
  have h1 : (a + i - bankBase) / 0x1000000 = b := by rw [b']; omega
  rw [regionOf, if_neg (by rw [p]; omega), if_neg (by rw [b']; omega), if_pos (by rw [b']; omega)]
  simp only [h1, hu, ho, Bool.false_eq_true, or_self, if_false, reduceCtorEq]

theorem Tests.on_ready : Ready Tests.on 0 .retired := Tests.ready _ _ _ (by decide +kernel)
theorem Tests.on_scalar : Ready Tests.on 0 .scalar := Tests.ready _ _ _ (by decide +kernel)
theorem Tests.on_vec : VecReady Tests.on 0 := Tests.vecReady _ _ (Tests.ready _ _ _ (by decide +kernel)) (by decide +kernel)
theorem Tests.on_errorFree : errorFree Tests.on := by and_intros <;> decide +kernel
theorem Tests.on_physical : ∀ d e : CoreId, physOf Tests.on d = physOf Tests.on e → d = e := by decide +kernel
theorem Tests.on_canonical : Canonical Tests.on := by and_intros <;> decide +kernel

/-! ### Well-formedness: an ill-formed command for each check -/

/-- A packet of the GET kind, from device 9 to device 5. -/
def Tests.pkt : Packet :=
  { op := 1, resp := false, seq := false, cls := 1, stamp := false, mirror := false, retx := false, new := false, src := 9, dst := 5, psn := 7,
    addr := 0xE1000002000, arg := 3, status := 0, tag := 0, rsv := false, data := [] }

/-- A boot at which no flash chip answers. -/
def Tests.boot : BootIn :=
  { sfdpA := false, sfdpB := false, readErr := [], coreFail := [], wayFail := [], tsvFail := [], rep := [], fail := [], mon := [], straps := 0,
    elapsed := 1000 }

/-- A fault record. -/
def Tests.rec : FaultRec :=
  { seq := 0, time := 0, cls := 14, sev := 1, kind := 0, flags := 0, cause := 0, unit := 0, phys := 0, sub := 0, culprit := 0, addr := 0, ring := 0,
    arg := 0 }

theorem test_well_formed : ([.add 47 ⟨31, 31, 31⟩, .rideGet Tests.pkt, .trainingComplete 35 [0, 1, 2, 3, 4] [4, 4, 4, 4, 4] true, .poreset Tests.boot, .faultRecord (.record Tests.rec), .faultRecord (.upset (.residue 47 true 3 64)),
    .registerWrite 78 (2 ^ 44 - 1) 0, .stackAccess 0 [⟨18, 1⟩, ⟨0, 1⟩], .marchRunEnd [⟨67, false, 0, 0⟩] [⟨67, 0⟩],
    .mgmtFrame ⟨0, 0x88B5, List.replicate 64 0, []⟩, .pmbusPoll [⟨127, some (0, 0, 0, 65535)⟩, ⟨0, none⟩]] : List Instr).all wellFormed = true := by
  decide +kernel

theorem test_ill_formed_refused : ([.registerWrite 79 0 0, .registerWrite 0 (2 ^ 44) 0, .xferPost 79 0 0, .fetchLineFill 0 (2 ^ 37),
    .l2FillComplete 8 0, .l2FillComplete 0 (2 ^ 37), .stackAccess (2 ^ 44) [], .stackAccess 0 [⟨19, 1⟩], .stackAccess 0 [⟨0, 0⟩],
    .stackAccess 0 [⟨3, 1⟩, ⟨3, 2⟩], .marchRunEnd [⟨68, false, 0, 0⟩] [], .marchRunEnd [] [⟨68, 0⟩], .silenceTimeout (2 ^ 18),
    .outcomeTimeout (2 ^ 64), .resolveRetry (2 ^ 64) true, .claimResend (2 ^ 64) true, .replayRequest 0 (2 ^ 32), .trainingComplete 0 [0, 0, 0, 0] [9, 9, 9, 9, 9] true, .trainingComplete 0 [0, 0, 0, 0, 0] [9, 9, 9, 9] true,
    .trainingComplete 0 [0, 0, 10, 0, 0] [9, 9, 9, 9, 9] true,
    .holdTimeout (2 ^ 18) 0 0, .holdTimeout 0 4 0, .holdTimeout 0 0 (2 ^ 32), .streamExpiry (2 ^ 18) 0, .streamExpiry 0 4,
    .pmbusPoll [⟨128, none⟩], .pmbusPoll [⟨0, some (65536, 0, 0, 0)⟩], .pmbusPoll [⟨0, some (0, 65536, 0, 0)⟩],
    .pmbusPoll [⟨0, some (0, 0, 65536, 0)⟩], .pmbusPoll [⟨0, some (0, 0, 0, 65536)⟩], .mgmtFrame ⟨2 ^ 48, 0, List.replicate 64 0, []⟩,
    .mgmtFrame ⟨0, 65536, List.replicate 64 0, []⟩, .mgmtFrame ⟨0, 0, List.replicate 63 0, []⟩] : List Instr).all (fun i => !wellFormed i) = true := by
  decide +kernel

theorem test_ill_formed_packets : ([{ Tests.pkt with op := 256 }, { Tests.pkt with cls := 4 }, { Tests.pkt with src := 2 ^ 18 },
    { Tests.pkt with dst := 2 ^ 18 }, { Tests.pkt with psn := 2 ^ 32 }, { Tests.pkt with addr := 2 ^ 48 }, { Tests.pkt with arg := 256 },
    { Tests.pkt with status := 256 }, { Tests.pkt with tag := 2 ^ 64 }, { Tests.pkt with data := [0] },
    { Tests.pkt with data := List.replicate 8224 0 }] : List Packet).all
    (fun p => !([.claimResponse p, .voteAlive p, .voteReady p, .voteDoom p, .voteRefuse p, .voteFlipped p, .voteClaim p, .voteMirrored p,
      .recvCommit p, .recvDiscard p, .recvRetire p, .rideGet p, .ridePut p, .rideAtom p, .rideExsum p, .rideExsumsq p, .rideSignal p, .rideWait p,
      .rideService p, .rideMirrorPut p, .rideResponse p] : List Instr).any wellFormed) = true := by decide +kernel

theorem test_ill_formed_records : ([{ Tests.rec with seq := 2 ^ 64 }, { Tests.rec with time := 2 ^ 64 }, { Tests.rec with cls := 65536 },
    { Tests.rec with sev := 256 }, { Tests.rec with kind := 256 }, { Tests.rec with flags := 256 }, { Tests.rec with cause := 256 },
    { Tests.rec with unit := 65536 }, { Tests.rec with phys := 65536 }, { Tests.rec with sub := 65536 }, { Tests.rec with culprit := 2 ^ 32 },
    { Tests.rec with addr := 2 ^ 64 }, { Tests.rec with ring := 2 ^ 64 }, { Tests.rec with arg := 2 ^ 64 }] : List FaultRec).all
    (fun r => !wellFormed (.faultRecord (.record r))) = true := by decide +kernel

theorem test_ill_formed_upsets : ([.reg 0 (.tile 0 2048), .reg 0 (.scale 0 128), .reg 0 (.vec 0 128), .reg 0 (.mask 0 16), .residue 0 false 4 0,
    .residue 0 true 0 65, .word (2 ^ 44), .l1 0 (2 ^ 44), .sap true (2 ^ 44), .version 64 0, .version 0 (2 ^ 44), .soft (2 ^ 44)] : List Upset).all
    (fun u => !wellFormed (.faultRecord (.upset u))) = true := by decide +kernel

theorem test_ill_formed_boots : ([{ Tests.boot with coreFail := [52] }, { Tests.boot with wayFail := [(8, 0)] }, { Tests.boot with wayFail := [(0, 17)] },
    { Tests.boot with tsvFail := [(12, 0)] }, { Tests.boot with rep := [⟨68, true, 0, 0⟩] }, { Tests.boot with fail := [⟨68, 0⟩] },
    { Tests.boot with mon := [⟨0, 0, 2 ^ 32⟩] }, { Tests.boot with straps := 4 }] : List BootIn).all
    (fun b => !([.deviceWake 1 b, .poreset b, .warmrst b, .wdnReset b] : List Instr).any wellFormed) = true := by decide +kernel

/-! ### Words written out from the encodings of the spec -/

/-- Tables 2.1, 2.2a and 2.4: format A, I, shift immediate, S, B, J and the floating opcodes. -/
theorem test_scalar_words :
    decodeCore 3 0b000000_00001_00010_00011_00000000000 = some (.add 3 ⟨1, 2, 3⟩) ∧
    decodeCore 3 0b000000_11111_00000_00001_00000010000 = some (.remu 3 ⟨31, 0, 1⟩) ∧
    decodeCore 3 0b000001_00101_00110_1111111111111111 = some (.addi 3 ⟨5, 6, 0xFFFF⟩) ∧
    decodeCore 3 0b000110_00101_00110_00000000_10_111111 = some (.srai 3 ⟨5, 6, 0, 63⟩) ∧
    decodeCore 3 0b000111_00101_00000_1000000000000000 = some (.lui 3 ⟨5, 0, 0x8000⟩) ∧
    decodeCore 3 0b001011_00101_00110_0000000000001000 = some (.ld 3 ⟨5, 6, 8⟩) ∧
    decodeCore 3 0b010011_00111_01000_1111111111111000 = some (.sd 3 ⟨7, 8, 0xFFF8⟩) ∧
    decodeCore 3 0b010110_00001_00010_1111111111111111 = some (.blt 3 ⟨1, 2, 0xFFFF⟩) ∧
    decodeCore 3 0b011010_00001_100000000000000000001 = some (.jal 3 ⟨1, 0x100001⟩) ∧
    decodeCore 3 0b011111_00000_00000_0000000000000000 = none ∧
    decodeCore 3 0b000000_00001_00010_00011_00000010001 = none := by decide +kernel

/-- Tables 2.3, 7.3, 7.4, 12.7 to 12.9: system, fences and atomics, remote operations, blazes. -/
theorem test_system_words :
    decodeCore 3 0b100000_000000000000001_00000000001 = some (.lcall 3 ⟨1⟩) ∧
    decodeCore 3 0b100000_00001_00010_00000_00000000011 = some (.qwin 3 ⟨1, 2, 0⟩) ∧
    decodeCore 3 0b100000_00000_00000_00000_00000010000 = some (.rfe 3 ⟨0, 0, 0⟩) ∧
    decodeCore 3 0b100001_00000_00000_00000_0000000_01_10 = some (.fence 3 ⟨0, 0, 0, 1, 2⟩) ∧
    decodeCore 3 0b100001_00000_00000_00000_00000010000 = some (.fenceG 3 ⟨0, 0, 0⟩) ∧
    decodeCore 3 0b100001_00001_00010_00011_001_1001_1_0_1_0 = some (.amocas 3 ⟨1, 2, 3, true, false, true⟩) ∧
    decodeCore 3 0b100010_00001_00010_00011_0010_10_111_1_0 = some (.ratom 3 ⟨1, 2, 3, 2, 7, true, false⟩) ∧
    decodeCore 3 0b100011_00001_00010_00011_0001_11_00000 = some (.bwait 3 ⟨1, 2, 3, 3, 0⟩) ∧
    decodeCore 3 0b100100_00000_00000_00000_00000000000 = none := by decide +kernel

/-- The words that chapters 4 and 5 spell out, with Tables 4.5, 4.8, 5.1, 5.2 and 5.6. -/
theorem test_tile_and_vector_words :
    decodeCore 3 0xE22A5810 = some (.tmma4 3 ⟨false, 1, 10, 11, 0, 0, 4, 0⟩) ∧
    decodeCore 3 0xCC411810 = some (.vfma 3 ⟨2, 1, 3, false, 0, 0, true, none⟩) ∧
    decodeCore 3 0xC02A0040 = some (.vld 3 ⟨1, 10, 0, false, 0, 2, 0, none⟩) ∧
    decodeCore 3 0b111001_1_101_00001_00010_00011_0000000 = some (.tst 3 ⟨5, 1, 2, 3, 0, none⟩) ∧
    decodeCore 3 0b111010_0001_10000001_00000000000000 = some (.tfree 3 ⟨0x81, 0⟩) ∧
    decodeCore 3 0b111010_0011_111_00001_0010_0000000000 = some (.tputv 3 ⟨7, 1, 2, 0, false⟩) ∧
    decodeCore 3 0b110001_00001_00010_00011_1_101_01_0_0010 = some (.vmul 3 ⟨1, 2, 3, true, 5, 1, false, none⟩) ∧
    decodeCore 3 0b111111_00001_00010_00011_1_111_1_0_00100 = some (.vsrnd 3 ⟨1, 2, 3, true, 7, true, false, 4, none⟩) ∧
    decodeCore 3 0b111011_00000_00000_00000_00000000000 = none := by decide +kernel

/-! ### Worked examples of the spec, and results by hand -/

/-- Whether a command answers a next state that meets a test. -/
def Tests.after (i : Instr) (s : State) (p : State → Bool) : Bool :=
  match exec i s with
  | .next t => p t
  | _ => false

/-- Chapter 0: core 17's block and blaze 5. -/
theorem test_addresses : CORE_ID 17 = 0xF0001110000 ∧ blazeBase + 64 * 5 = 0xF0100000140 := by decide +kernel

/-- Chapter 3: FP32 0x3F80C000 to BF16, stochastic with two draws and to nearest. -/
theorem test_rounding_to_bf16 :
    (engConvertSR bf16 ⟨false, false, false⟩ 0x3FFF 0x3F80C000).1 = 0x3F80 ∧ (engConvertSR bf16 ⟨false, false, false⟩ 0x4000 0x3F80C000).1 = 0x3F81 ∧
    (engConvert f32 bf16 ⟨false, false, false⟩ 0x3F80C000).1 = 0x3F81 := by decide +kernel

/-- Chapter 3: a row of 1000.0, 0.001, -0.5 and zeros as an AB8 block. -/
theorem test_block_conversion :
    let b := toBlock ab8 ⟨false, false, false⟩ ([0x447A0000, 0x3A83126F, 0xBF000000] ++ List.replicate 29 0)
    b.scale = 0x81 ∧ b.codes.take 3 = [0x78, 0x00, 0xA0] := by decide +kernel

/-- Tables 3.5 and 3.6: the BF16 group and the AB8 block pair. -/
theorem test_defined_dot_product :
    (groupFloat bf16 false [(0x3F80, 0x3F80), (0x3980, 0x3980), (0x3480, 0x3400)]).1 = 0x3F800000 ∧
    (groupBlock ab8 false 0x7E ([0x3C, 0x7F, 0x01] ++ List.replicate 29 0) 0x80 ([0x3A, 0xC4, 0x7F] ++ List.replicate 29 0)).1 = 0xC4B3A600 := by
  decide +kernel

/-- Chapter 10: 0x01234567890 lies in stack 6, pseudo-channel 24, DRAM bank 24, row 4142. -/
theorem test_stack_placement : stackOf Tests.on (granule 0x01234567890) = 6 ∧ dramRow Tests.on 0x01234567890 = (6, 24, 24, 4142) := by decide +kernel

/-- Chapter 10: 2^100, 1.0 and -2^100 leave an exact 1.0. -/
theorem test_exact_accumulation :
    ((({ val := 0, st := 0 } : ExAcc).addF 0x71800000).addF 0x3F800000).addF 0xF1800000 = { val := 2 ^ 298, st := 0 } := by decide +kernel

/-- R22: addition wraps, and x0 stays 0. -/
theorem test_add_wraps :
    Tests.after (.add 0 ⟨1, 2, 3⟩) (Tests.x (Tests.x Tests.on 2 0xFFFFFFFFFFFFFFFF) 3 3) (fun t => (t.core 0).getX 1 == 2 && (t.core 0).pc == 0xE1000001004) = true ∧
    Tests.after (.add 0 ⟨0, 2, 3⟩) (Tests.x (Tests.x Tests.on 2 4) 3 3) (fun t => (t.core 0).getX 0 == 0) = true := by decide +kernel

/-- R23: the most negative number divided by -1, and a division by zero. -/
theorem test_division_corners :
    Tests.after (.div 0 ⟨1, 2, 3⟩) (Tests.x (Tests.x Tests.on 2 0x8000000000000000) 3 0xFFFFFFFFFFFFFFFF)
      (fun t => (t.core 0).getX 1 == 0x8000000000000000) = true ∧
    Tests.after (.rem 0 ⟨1, 2, 3⟩) (Tests.x Tests.on 2 7) (fun t => (t.core 0).getX 1 == 7) = true := by decide +kernel

/-- R449: LUI shifts by 16 and sign-extends. -/
theorem test_lui : Tests.after (.lui 0 ⟨1, 0, 0x8000⟩) Tests.on (fun t => (t.core 0).getX 1 == 0xFFFFFFFF80000000) = true := by decide +kernel

/-- R27: a branch offset counts words from the branch itself. -/
theorem test_branch_back : Tests.after (.beq 0 ⟨1, 2, 0xFFFF⟩) Tests.on (fun t => (t.core 0).pc == 0xE1000000FFC) = true := by decide +kernel

/-- Chapter 2: FSEAL at Task level raises ILLEGAL: the frame 256 bytes below CORE_RSP, vector 4, the handler at core-local 0x80. -/
theorem test_illegal_enters_vector_4 :
    Tests.after (.fseal 0 ⟨0, 1, 0⟩) ((Tests.on.setReg (CORE_STATUS 0) 0).setReg (CORE_RSP 0) 0xE1000500000) (fun t =>
      t.reg (CORE_RSP 0) == 0xE10004FFF00 && t.fld (CORE_CAUSE 0) fldCORE_CAUSE_VECTOR == 4 && t.fld (CORE_CAUSE 0) fldCORE_CAUSE_FROM_LEVEL == 0 &&
        t.fld (CORE_CAUSE 0) fldCORE_CAUSE_INSTR == 0b100000_00000_00001_00000_00000010001 && (t.core 0).pc == 0xE1000000080 &&
        t.fld (CORE_STATUS 0) fldCORE_STATUS_LEVEL == 1) = true := by decide +kernel

/-- Chapter 2: a window of 4096 cycles opened at cycle 10000 refuses a request at 14200 and grants one at 14352. -/
theorem test_quiet_windows :
    let s := Tests.x (Tests.on.modCore 0 fun k => { k with qwEnd := some 14096 }) 2 4096
    Tests.after (.qwin 0 ⟨1, 2, 0⟩) (s.setReg (CORE_CYCLE 0) 14200) (fun t => (t.core 0).getX 1 == 0) = true ∧
    Tests.after (.qwin 0 ⟨1, 2, 0⟩) (s.setReg (CORE_CYCLE 0) 14352) (fun t => (t.core 0).getX 1 == 4096) = true := by decide +kernel

/-- Table 7.4: AMOCAS writes where the old value equals rd, and rd takes the old value. -/
theorem test_compare_and_swap :
    let s := Tests.x (Tests.x Tests.on 2 0xE0000000008) 3 7
    Tests.after (.amocas 0 ⟨1, 2, 3, true, false, false⟩) s (fun t => memBytes t 0 0xE0000000008 2 == [7, 0] && (t.core 0).getX 1 == 0) = true ∧
    Tests.after (.amocas 0 ⟨1, 2, 3, true, false, false⟩) (Tests.x s 1 5) (fun t => memBytes t 0 0xE0000000008 2 == [0, 0] && (t.core 0).getX 1 == 0) =
      true := by decide +kernel

/-- A step takes the command at the front of the queue. -/
theorem test_step :
    (match step { Tests.on with pending := [.add 0 ⟨1, 0, 0⟩, .tapIdcode] } with
      | .next t => (t.core 0).pc == 0xE1000001004 && t.pending == [.tapIdcode]
      | _ => false) = true := by decide +kernel

/-- Chapter 5: VSADF adds in pairwise order. -/
theorem test_vsadf_order :
    Tests.after (.vsadf 0 ⟨3, 1, 2, false, 0, 0, false, none⟩) (((Tests.on.setReg (VEC_VL 0) 32).modCore 0 fun k =>
      (k.setV 1 0xBF0000003F0000003F4000003F800000).setV 2 0xBEFFFFFE3EFFFFFE3F40000000000000))
      (fun t => elemV ((t.core 0).getV 3) 32 0 == 0x3F800001) = true := by decide +kernel

/-- R442, Table 18.4: the identification code that the TAP shifts. -/
theorem test_tap_idcode : Tests.after .tapIdcode Tests.on (fun t => t.modu.tapDr == some 0x1A048A4F) = true := by decide +kernel

/-! ### Premises met: the machine, the integer core, exceptions and interrupts

One theorem a statement, of the same name: a state and operands that meet its premises, clause by clause. -/

/-- Core 0 at Task level. -/
def Tests.task : State := Tests.on.setReg (CORE_STATUS 0) 0

/-- A vector instruction of core 0 that has issued and not retired. -/
def Tests.vop : VecOp :=
  let k := Tests.on.core 0
  { pc := 0xE1000000FFC, whole := false, block := false, done := 1, nv := none, x := k.x, f := k.f, v := k.v, m := k.m, mbuf := [],
    words := [(CORE_FSTAT 0, 0)], lanes := none, undo := [] }

/-- A stack pointer with room for a frame in core 0's array, and VPROG and CORE_CYCLE at marked values. -/
def Tests.rsp : State := (Tests.on.setReg (CORE_RSP 0) 0xE1000003000).setReg (CORE_CYCLE 0) 1000

/-- An exception of vector 8. -/
def Tests.trap : Trap := { vector := 8, faddr := 2 ^ 64 - 1, word := 2 ^ 32 - 1, pc := 0xE1000001000, seq := none }

theorem Tests.witness_StepTakesFrontCommand : Tests.on.pending = [] ∧ Tests.on.still = false ∧
    (State.reset.setReg PWR_STATE 4).pending = [] ∧ (State.reset.setReg PWR_STATE 4).still = true := by decide +kernel

theorem Tests.witness_DecodeOfEncode : wordOf (.add 3 ⟨1, 2, 3⟩) = some (3, 0b000000_00001_00010_00011_00000000000) ∧
    decodeCore 3 0b000000_00001_00010_00011_00000000000 = some (.add 3 ⟨1, 2, 3⟩) ∧
    wordOf (.tzero 3 ⟨1, 0, true⟩) = wordOf (.tzero 3 ⟨1, 0, false⟩) := by decide +kernel

theorem Tests.witness_StepKeepsTheCanonicalForm : Canonical { Tests.on with pending := [.tapIdcode] } ∧ ∃ t, step { Tests.on with pending := [.tapIdcode] } = .next t :=
  ⟨by and_intros <;> decide +kernel, ⟨_, rfl⟩⟩

theorem Tests.witness_ResetState : 0 < stackTop ∧ inPool State.reset (granule 0) = false ∧ inPool State.reset (granule (stackTop - 1)) = false := by
  decide +kernel

theorem Tests.witness_CoresThatCannotRunIssueNothing : wordOf (.add 0 ⟨1, 2, 3⟩) = some (0, 0b000000_00001_00010_00011_00000000000) ∧ canRun State.reset 0 = false ∧
    (let s := Tests.on.modCore 0 fun k => { k with pc := 0xDFFFFFFFFFC }
     canRun s 0 = true ∧ boundaryIdle (s.core 0) = true ∧ (s.core 0).stepDue = none ∧ (s.core 0).mcDue = [] ∧ (s.core 0).tileQ = [] ∧
       fetchable s (s.core 0).pc.toNat = false ∧ (s.core 0).vecQ = []) := by decide +kernel

theorem Tests.witness_IntegerResults : Ready Tests.on 0 .scalar ∧ (⟨1, 0, 0xFFFF⟩ : OpI).rs1 = 0 ∧ (⟨1, 2, 0, 63⟩ : OpSh).hi = 0 :=
  ⟨Tests.on_scalar, rfl, rfl⟩

/-- By zero, the overflow, and an ordinary division. -/
theorem Tests.witness_DivisionLaw : Ready Tests.on 0 .scalar ∧ (Tests.on.core 0).getX 3 = 0 ∧
    (let s := Tests.x (Tests.x Tests.on 2 0x8000000000000000) 3 0xFFFFFFFFFFFFFFFF
     Ready s 0 .scalar ∧ ((s.core 0).getX 2).toInt = -2 ^ 63 ∧ ((s.core 0).getX 3).toInt = -1) ∧
    (let s := Tests.x (Tests.x Tests.on 2 0x8000000000000000) 3 1
     Ready s 0 .scalar ∧ (s.core 0).getX 3 ≠ 0 ∧ ((s.core 0).getX 3).toInt ≠ -1) := by
  and_intros <;> first | exact Tests.ready _ _ _ (by decide +kernel) | decide +kernel

theorem Tests.witness_BranchesAndJumps : Ready (Tests.x Tests.on 2 0xE1000002004) 0 .scalar ∧
    (((Tests.x Tests.on 2 0xE1000002004).core 0).getX 2 + (0xFFFC : BitVec 16).signExtend 64).toNat % 4 = 0 := by
  and_intros <;> first | exact Tests.ready _ _ _ (by decide +kernel) | decide +kernel

/-- The first bytes of an array, and the last of the banks. -/
theorem Tests.witness_LoadsFromArrayAndBank : (let s := Tests.x Tests.on 2 0xE1000000000
     Ready s 0 .retired ∧ errorFree s ∧ ((s.core 0).getX 2 + (0 : BitVec 16).signExtend 64).toNat % 8 = 0 ∧ (∀ e ∈ (s.core 0).mbuf, e.sub = coreSub s 0) ∧
       ((s.core 0).getX 2 + ((0 : BitVec 15) ++ (0 : BitVec 1)).signExtend 64).toNat = 0xE1000000000 ∧ inArray s 0 0 0xE1000000000 8) ∧
    (let s := Tests.x Tests.on 2 0xE0040000000
     Ready s 0 .retired ∧ errorFree s ∧ ((s.core 0).getX 2 + (0xFFF8 : BitVec 16).signExtend 64).toNat = 0xE003FFFFFF8 ∧ inBank s 63 0xE003FFFFFF8 8 ∧
       s.test BANK_MODE fldBANK_MODE_NOW = true ∧ (s.setReg BANK_MODE 0).test BANK_MODE fldBANK_MODE_NOW = false ∧ Ready (s.setReg BANK_MODE 0) 0 .retired) := by
  and_intros <;> first
    | exact Tests.ready _ _ _ (by decide +kernel)
    | exact Tests.inOneArray _ _ _ _ _ (by decide) (by decide +kernel)
    | exact Tests.inOneBank _ _ _ _ (by decide +kernel)
    | decide +kernel

/-- A store to the core's own array; a buffered one to a bank with the buffer empty, and with an entry for the line. -/
theorem Tests.witness_ScalarStores : (let s := Tests.x Tests.on 2 0xE1000002000
     Ready s 0 .retired ∧ (∀ d : CoreId, d ≠ 0 → physOf s d ≠ physOf s 0) ∧ ((s.core 0).getX 2 + (0 : BitVec 16).signExtend 64).toNat % 8 = 0 ∧
       inArray s 0 0x2000 0xE1000002000 8) ∧
    (let s := Tests.x Tests.on 2 0xE0000000000
     Ready s 0 .retired ∧ inBank s 0 0xE0000000000 8 ∧ (s.core 0).mbuf.length < 8 ∧ ∀ e ∈ (s.core 0).mbuf, e.line ≠ 0xE0000000000 / 128) ∧
    (let e : MergeEntry := { line := 0xE0000000000 / 128, sub := 0, bytes := [(0xE0000000000, 1)], hint := 0 }
     let s := Tests.x (Tests.on.modCore 0 fun k => { k with mbuf := [e] }) 2 0xE0000000000
     Ready s 0 .retired ∧ (∃ e ∈ (s.core 0).mbuf, e.line = 0xE0000000000 / 128) ∧ (∀ e ∈ (s.core 0).mbuf, e.line = 0xE0000000000 / 128 → e.sub = coreSub s 0) ∧
       (s.core 0).mbuf.countP (fun e => e.line == 0xE0000000000 / 128) = 1 ∧ ∀ e ∈ (s.core 0).mbuf, ∀ p ∈ e.bytes, p.1 / 128 = e.line) := by
  and_intros <;> first
    | exact Tests.ready _ _ _ (by decide +kernel)
    | exact Tests.inOneArray _ _ _ _ _ (by decide) (by decide +kernel)
    | exact Tests.inOneBank _ _ _ _ (by decide +kernel)
    | decide +kernel

theorem Tests.witness_MisalignedScalarAccessTraps : (let s := Tests.x Tests.on 2 0xE1000002001
     Ready s 0 .retired ∧ ((s.core 0).getX 2 + (0 : BitVec 16).signExtend 64).toNat % 2 ≠ 0) ∧
    wordOf (.lh 0 ⟨1, 2, 0⟩) = some (0, 0b001001_00001_00010_0000000000000000) ∧ wordOf (.sd 0 ⟨1, 2, 0⟩) = some (0, 0b010011_00001_00010_0000000000000000) ∧
    wordOf (.flw 0 ⟨1, 2, 0⟩) = some (0, 0b011101_00001_00010_0000000000000000) ∧ wordOf (.fsd 0 ⟨1, 2, 0⟩) = some (0, 0b011110_00001_00010_0000000000000001) := by
  and_intros <;> first | exact Tests.ready _ _ _ (by decide +kernel) | decide +kernel

theorem Tests.witness_UnusedFieldsAreIllegal : Ready Tests.on 0 .scalar ∧ Ready Tests.on 0 .retired ∧
    decodeCore 0 0x7C000000 = none ∧ (Tests.on.core 0).stepDue = none ∧
    (wordOf (.vsetvl 0 ⟨0, 0, 0, false, 1, 0, 0, none⟩)).any (fun p => wordBad p.2.toNat) = true ∧
    wordOf (.lui 0 ⟨1, 1, 0⟩) = some (0, 0b000111_00001_00001_0000000000000000) ∧ wordOf (.slli 0 ⟨1, 1, 1, 0⟩) = some (0, 0b000110_00001_00001_00000001_00_000000) ∧
    (wordOf (.fadd 0 ⟨1, 2, 3, false, 1⟩)).isSome = true ∧ (wordOf (.fsqrt 0 ⟨1, 2, 1, false, 0⟩)).isSome = true ∧
    wordOf (.qwin 0 ⟨1, 2, 1⟩) = some (0, 0b100000_00001_00010_00001_00000000011) ∧ wordOf (.wfi 0 ⟨0, 0, 1⟩) = some (0, 0b100000_00000_00000_00001_00000000100) ∧
    wordOf (.taskj 0 ⟨1, 0, 0⟩) = some (0, 0b100000_00001_00000_00000_00000010010) := by
  and_intros <;> first | exact Tests.ready _ _ _ (by decide +kernel) | decide +kernel

theorem Tests.witness_RangerInstructionsNeedRanger : Ready Tests.task 0 .retired ∧ ¬ atRanger Tests.task 0 ∧
    wordOf (.rfe 0 ⟨0, 0, 0⟩) = some (0, 0b100000_00000_00000_00000_00000010000) ∧ wordOf (.lcall 0 ⟨1⟩) = some (0, 0b100000_000000000000001_00000000001) ∧
    wordOf (.brk 0 ⟨1⟩) = some (0, 0b100000_000000000000001_00000000010) ∧ (Tests.task.core 0).getX 2 = 0 ∧ qwOpen Tests.task 0 = false ∧
    (let s := (Tests.task.setReg (CORE_IPEND 0) 0x10000).setReg (CORE_IEN 0) 0x10000
     Ready s 0 .retired ∧ ¬ atRanger s 0 ∧ enabledPending s 0 ≠ 0) := by
  and_intros <;> first | exact Tests.ready _ _ _ (by decide +kernel) | decide +kernel | (delta atRanger; decide +kernel)

/-- Windows of 0, 1, 4096 and 4097 cycles, one inside another window's 256 cycles of grace, WFI with and without an interrupt, TASKJ and CANREQ. -/
theorem Tests.witness_SystemInstructionResults : (let s := Tests.on.modCore 0 fun k => { k with qwEnd := some 9 }
     Ready s 0 .retired ∧ qwOpen s 0 = true ∧ (s.core 0).getX 2 = 0) ∧
    (Ready Tests.on 0 .retired ∧ qwOpen Tests.on 0 = false ∧ (Tests.on.core 0).qwEnd = none ∧ enabledPending Tests.on 0 = 0 ∧ atRanger Tests.on 0 ∧
      ((Tests.on.core 0).getX 2).toNat % 4 = 0 ∧ (Tests.on.core 0).mbuf = [] ∧ storesWait Tests.on 0 = false) ∧
    (Ready (Tests.x Tests.on 2 1) 0 .retired ∧ Ready (Tests.x Tests.on 2 4096) 0 .retired ∧ Ready (Tests.x Tests.on 2 4097) 0 .retired) ∧
    (let s := Tests.x ((Tests.on.setReg (CORE_CYCLE 0) 256).modCore 0 fun k => { k with qwEnd := some 1 }) 2 1
     Ready s 0 .retired ∧ ((s.core 0).qwEnd = some 1 ∧ (s.reg (CORE_CYCLE 0)).toNat < (1 : Word).toNat + 256) ∧
       (s.reg (CORE_QREFUSE 0)).toNat % 2 ^ 48 < 2 ^ 48 - 1) ∧
    (let s := (Tests.on.setReg (CORE_IPEND 0) 0x10000).setReg (CORE_IEN 0) 0x10000
     Ready s 0 .retired ∧ enabledPending s 0 ≠ 0) := by
  and_intros <;> first | exact Tests.ready _ _ _ (by decide +kernel) | decide +kernel | (delta atRanger; decide +kernel)

theorem Tests.witness_StoppingACore : Ready Tests.on 0 .retired ∧ atRanger Tests.on 0 ∧
    (let s := Tests.on.modCore 0 fun k => { k with stopReq := 3 }
     alive s 0 = true ∧ (s.core 0).stopReq ≠ 0 ∧ (s.core 0).tileQ = [] ∧ (s.core 0).vecQ = [] ∧ (s.core 0).wait = .running) ∧
    (let s := Tests.on.modCore 0 fun k => { k with stopReq := 3, vecQ := [Tests.vop] }
     alive s 0 = true ∧ (s.core 0).stopReq ≠ 0 ∧ (s.core 0).tileQ = [] ∧ (s.core 0).vecQ = [Tests.vop] ∧ (s.core 0).wait = .running) ∧
    Tests.vop.words.all (fun e => e.1 ≠ CORE_STATUS 0 ∧ e.1 ≠ CORE_STOPINFO 0 ∧ e.1 ≠ VEC_VPROG 0) = true ∧
    alive State.reset 0 = false ∧ (Tests.on.core 0).stopReq = 0 := by
  and_intros <;> first | exact Tests.ready _ _ _ (by decide +kernel) | decide +kernel | (delta atRanger; decide +kernel)

theorem Tests.witness_ExceptionEntry : 1 ≤ Tests.trap.vector ∧ Tests.trap.vector < 64 ∧ Tests.trap.faddr < 2 ^ 64 ∧ Tests.trap.word < 2 ^ 32 ∧
    Tests.trap.seq = none ∧ (Tests.rsp.core 0).tileQ = [] ∧ (Tests.rsp.core 0).vecQ = [] ∧ boundaryIdle (Tests.rsp.core 0) = true ∧
    (Tests.rsp.core 0).wait = .running ∧ Tests.rsp.test (CORE_STATUS 0) fldCORE_STATUS_RSV = false ∧ (Tests.rsp.reg (CORE_RSP 0)).toNat = 0xE1000003000 ∧
    inArray Tests.rsp 0 0x2F00 0xE1000002F00 256 ∧ ∀ d : CoreId, d ≠ 0 → physOf Tests.rsp d ≠ physOf Tests.rsp 0 := by
  and_intros <;> first
    | exact Tests.ready _ _ _ (by decide +kernel)
    | exact Tests.inOneArray _ _ _ _ _ (by decide) (by decide +kernel)
    | exact Tests.inOneBank _ _ _ _ (by decide +kernel)
    | decide +kernel

theorem Tests.witness_FrameFaultUsesTheReserveFrame : (let s := Tests.on.setReg (CORE_RSP 0) 0xE1000003020
     (s.core 0).tileQ = [] ∧ (s.core 0).vecQ = [] ∧ boundaryIdle (s.core 0) = true ∧ (s.core 0).wait = .running ∧
       s.test (CORE_STATUS 0) fldCORE_STATUS_RSV = false ∧ (s.reg (CORE_RSP 0)).toNat % 64 ≠ 0 ∧ inArray s 0 0x800 0xE1000000800 256) ∧
    (let s := Tests.on.setReg (CORE_RSP 0) 0xDFFFFFFFFC0
     s.test (CORE_STATUS 0) fldCORE_STATUS_RSV = false ∧ (s.reg (CORE_RSP 0)).toNat % 64 = 0 ∧
       spanRegion s (s.reg (CORE_RSP 0) - 256).toNat 256 = none ∧ inArray s 0 0x800 0xE1000000800 256) ∧
    (Tests.on.setReg (CORE_STATUS 0) 0x41).test (CORE_STATUS 0) fldCORE_STATUS_RSV = true := by
  and_intros <;> first
    | exact Tests.ready _ _ _ (by decide +kernel)
    | exact Tests.inOneArray _ _ _ _ _ (by decide) (by decide +kernel)
    | exact Tests.inOneBank _ _ _ _ (by decide +kernel)
    | decide +kernel


/-- Core 0's array holding given bytes at 0x3000, where CORE_RSP points. -/
def Tests.frame (bs : List Byte) : State :=
  let s := Tests.on.setReg (CORE_RSP 0) 0xE1000003000
  { s with mem := { s.mem with arr := overlay [] 0x3000 bs } }

/-- A frame of zeros under its seal. -/
def Tests.sealed : List Byte := bytesOfNat 8 (Config.seal 0 (List.replicate 248 0)).toNat ++ List.replicate 248 0

theorem Tests.natOfBytes_bytesOfNat (n v : Nat) : natOfBytes (bytesOfNat n v) = v % 256 ^ n := by
  induction n generalizing v with
  | zero => simp [bytesOfNat, natOfBytes, Nat.mod_one]
  | succ n ih =>
    rw [bytesOfNat, natOfBytes, ih, BitVec.toNat_ofNat, Nat.pow_succ' (n := n), Nat.mod_mul]

theorem Tests.upFrom_getElem (a n i : Nat) (h : i < (upFrom a n).length) : (upFrom a n)[i] = a + i := by
  induction n generalizing a i with
  | zero => simp [upFrom] at h
  | succ n ih =>
    cases i with
    | zero => simp [upFrom]
    | succ i =>
      simp only [upFrom, List.getElem_cons_succ]
      rw [ih]
      omega

theorem Tests.upFrom_length (a n : Nat) : (upFrom a n).length = n := by
  induction n generalizing a with
  | zero => rfl
  | succ n ih => simp [upFrom, ih]

theorem Tests.frame_bytes (bs : List Byte) (h : bs.length = 256) (sub : Nat) : memBytes (Tests.frame bs) sub 0xE1000003000 256 = bs := by
  have phys : physOf (Tests.frame bs) (coreOf 0) = 0 := by
    change physOf (Tests.on.setReg (CORE_RSP 0) 0xE1000003000) (coreOf 0) = 0
    decide +kernel
  have key : ∀ o, arrKey (Tests.frame bs) 0 o = o := fun o => by rw [arrKey, phys, Nat.zero_mul, Nat.zero_add]
  have there : ∀ i < 256, regionOf (Tests.frame bs) (0xE1000003000 + i) = some (.array 0 (0x3000 + i)) := Tests.inOneArray _ _ _ _ _ (by decide) (show _ from
    (by decide +kernel : (decide (0 < 48) && arrayUp (Tests.on.setReg (CORE_RSP 0) 0xE1000003000) 0 &&
      decide (0x3000 + 256 + l1Share (Tests.on.setReg (CORE_RSP 0) 0xE1000003000) 0 ≤ 0x800000)) = true))
  refine List.ext_getElem (by simp [memBytes, Tests.upFrom_length, h]) fun i h1 h2 => ?_
  simp only [memBytes, List.getElem_map, Tests.upFrom_getElem]
  have f := mapFind_overlay_inside [] 0x3000 bs i h2
  rw [memByte, there i (h ▸ h2)]
  simp only [key, arrByte]
  rw [show (Tests.frame bs).mem.arr = overlay [] 0x3000 bs from rfl, f]

/-- A frame that its seal covers, one that is not aligned to an instruction, and FSEAL of an aligned and a misaligned frame. -/
theorem Tests.witness_ReturnAndSeal :
    (let s := Tests.frame Tests.sealed
     let f := memBytes s (coreSub s 0) 0xE1000003000 256
     Ready s 0 .retired ∧ atRanger s 0 ∧ errorFree s ∧ (s.core 0).mbuf = [] ∧ s.test (CORE_STATUS 0) fldCORE_STATUS_RSV = false ∧
       (s.reg (CORE_RSP 0)).toNat = 0xE1000003000 ∧ inArray s 0 0x3000 0xE1000003000 256 ∧
       BitVec.ofNat 64 (natOfBytes ((f.drop 0).take 8)) = Config.seal (s.core 0).sealKey (f.drop 8) ∧
       fldCORE_STATUS_LEVEL.get (BitVec.ofNat 64 (natOfBytes ((f.drop 16).take 8))) < 2 ∧ (BitVec.ofNat 64 (natOfBytes ((f.drop 8).take 8))).toNat % 4 = 0) ∧
    (let s := Tests.frame (List.replicate 8 0 ++ 1 :: List.replicate 247 0)
     let f := memBytes s (coreSub s 0) 0xE1000003000 256
     Ready s 0 .retired ∧ atRanger s 0 ∧ errorFree s ∧ inArray s 0 0x3000 0xE1000003000 256 ∧
       (BitVec.ofNat 64 (natOfBytes ((f.drop 8).take 8))).toNat % 4 ≠ 0 ∧ (wordOf (.rfe 0 ⟨0, 0, 0⟩)).isSome = true) ∧
    (let s := Tests.x Tests.on 2 0xE10007FFF00
     Ready s 0 .retired ∧ atRanger s 0 ∧ errorFree s ∧ ((s.core 0).getX 2).toNat % 64 = 0 ∧ inArray s 0 0x7FFF00 ((s.core 0).getX 2).toNat 256 ∧
       (∀ d : CoreId, d ≠ 0 → physOf s d ≠ physOf s 0)) ∧
    (Ready (Tests.x Tests.on 2 0xE1000003020) 0 .retired ∧ (((Tests.x Tests.on 2 0xE1000003020).core 0).getX 2).toNat % 64 ≠ 0 ∧
      (wordOf (.fseal 0 ⟨0, 2, 0⟩)).isSome = true) := by
  and_intros
  on_goal 11 =>
    rw [Tests.frame_bytes _ (by simp [Tests.sealed, bytesOfNat]), show ((Tests.frame Tests.sealed).core 0).sealKey = 0 by decide +kernel,
      show (Tests.sealed.drop 0).take 8 = bytesOfNat 8 (Config.seal 0 (List.replicate 248 0)).toNat by simp [Tests.sealed, bytesOfNat],
      show Tests.sealed.drop 8 = List.replicate 248 0 by simp [Tests.sealed, bytesOfNat], Tests.natOfBytes_bytesOfNat]
    exact BitVec.eq_of_toNat_eq (by rw [BitVec.toNat_ofNat]; have := (Config.seal 0 (List.replicate 248 0)).isLt; omega)
  all_goals first
    | exact Tests.ready _ _ _ (by decide +kernel)
    | exact Tests.inOneArray _ _ _ _ _ (by decide +kernel) (by decide +kernel)
    | (delta atRanger; decide +kernel)
    | (rw [Tests.frame_bytes _ (by simp [Tests.sealed, bytesOfNat])]; decide +kernel)
    | decide +kernel

theorem Tests.witness_EntryThenReturn : 1 ≤ Tests.trap.vector ∧ Tests.trap.vector < 64 ∧ Tests.trap.faddr < 2 ^ 64 ∧ Tests.trap.word < 2 ^ 32 ∧
    Tests.trap.seq = none ∧ Tests.trap.pc.toNat % 4 = 0 ∧ canRun Tests.rsp 0 = true ∧ boundaryIdle (Tests.rsp.core 0) = true ∧
    (Tests.rsp.core 0).tileQ = [] ∧ (Tests.rsp.core 0).vecQ = [] ∧ (Tests.rsp.core 0).mcDue = [] ∧ (Tests.rsp.core 0).mbuf = [] ∧ errorFree Tests.rsp ∧
    fetchable Tests.rsp (0xE1000000000 + 0 * 0x1000000 + 32 * Tests.trap.vector) = true ∧ Tests.rsp.test (CORE_STATUS 0) fldCORE_STATUS_RSV = false ∧
    Tests.rsp.fld (CORE_STATUS 0) fldCORE_STATUS_LEVEL < 2 ∧ Tests.rsp.fld (VEC_VPROG 0) fldVEC_VPROG_DONE ≤ 1024 ∧
    (Tests.rsp.reg (CORE_RSP 0)).toNat = 0xE1000003000 ∧ inArray Tests.rsp 0 0x2F00 0xE1000002F00 256 := by
  and_intros <;> first
    | exact Tests.ready _ _ _ (by decide +kernel)
    | exact Tests.inOneArray _ _ _ _ _ (by decide) (by decide +kernel)
    | exact Tests.inOneBank _ _ _ _ (by decide +kernel)
    | decide +kernel

/-- An enabled interrupt 63 alone pending, by itself and behind what comes first; and the core events with something and with nothing to apply. -/
theorem Tests.witness_InterruptsAndCoreEvents : (let s := ((Tests.on.setReg (CORE_STATUS 0) 8).setReg (CORE_IPEND 0) 0x8000000000000000).setReg (CORE_IEN 0) 0x8000000000000000
     (s.core 0).pendTimer = false ∧ alive s 0 = true ∧ (s.core 0).wait = .running ∧ s.test (CORE_STATUS 0) fldCORE_STATUS_IE = true ∧ qwOpen s 0 = false ∧
       (s.core 0).mcDue = [] ∧ (s.core 0).stepDue = none ∧ fetchable s (s.core 0).pc.toNat = true ∧ (s.reg (CORE_IPEND 0)).getLsbD 63 = true ∧
       (s.reg (CORE_IEN 0)).getLsbD 63 = true ∧ (∀ u, u < 63 → (s.reg (CORE_IPEND 0)).getLsbD u = false) ∧ illegalDue s 0 0 = false ∧
       (let t := s.modCore 0 fun k => { k with stepDue := some 5 }
        t.test (CORE_STATUS 0) fldCORE_STATUS_IE = true ∧ (t.core 0).stepDue = some 5 ∧ (t.core 0).mcDue = [] ∧ (t.core 0).vecQ = [] ∧ (t.core 0).tileQ = []) ∧
       (let t := s.modCore 0 fun k => { k with pc := 0xDFFFFFFFFFC }
        (t.core 0).stepDue = none ∧ fetchable t (t.core 0).pc.toNat = false) ∧
       let t := s.modCore 0 fun k => { k with mcDue := [(none, 7)] }
       alive t 0 = true ∧ (t.core 0).wait = .running ∧ (t.core 0).mcDue = [(none, 7)] ∧ (t.core 0).vecQ = [] ∧ (t.core 0).tileQ = []) ∧
    Tests.on.test (CORE_STATUS 0) fldCORE_STATUS_IE = false ∧ isStopped State.reset 0 = true ∧
    (let k := Tests.on.core 0
     Tests.on.still = false ∧ k.wait = .running ∧ inHold Tests.on 0 = false ∧ alive Tests.on 0 = true ∧ 0xE1000001000 / 128 = k.pc.toNat / 128 ∧
       0xE1000001000 / 128 ∉ k.fetch ∧ (∀ e ∈ k.mbuf, e.sub = coreSub Tests.on 0) ∧ k.pendMode = none ∧ k.vecQ = [] ∧ k.tileQ = [] ∧ k.pendRng = [] ∧
       k.pendSeed = none ∧ k.pendRngMode = none ∧ Tests.on.fld (PWR_CORE 0) fldPWR_CORE_STATE < 3) ∧
    errorFree Tests.on ∧ inArray Tests.on 0 0x1000 (0xE1000001000 / 128 * 128) 128 ∧
    (let s := Tests.on.modCore 0 fun k => { k with pc := 0xE003FFFFFC0 }
     alive s 0 = true ∧ 0xE003FFFFFC0 / 128 = (s.core 0).pc.toNat / 128 ∧ inBank s 63 (0xE003FFFFFC0 / 128 * 128) 128) ∧
    (let k := (Tests.on.modCore 0 fun k => { k with pendMode := some 3, pendRng := [(31, 9)], pendRngMode := some true, pendSeed := some 2 }).core 0
     k.pendMode = some 3 ∧ k.vecQ = [] ∧ k.tileQ = [] ∧ k.pendRng = [(31, 9)] ∧ k.pendRngMode = some true ∧ k.pendSeed = some 2) ∧
    ((Tests.on.modCore 0 fun k => { k with vecQ := [Tests.vop] }).core 0).vecQ = [Tests.vop] := by
  and_intros <;> first
    | exact Tests.ready _ _ _ (by decide +kernel)
    | exact Tests.inOneArray _ _ _ _ _ (by decide) (by decide +kernel)
    | exact Tests.inOneBank _ _ _ _ (by decide +kernel)
    | decide +kernel

theorem Tests.witness_FloatingResults : Ready Tests.on 0 .scalar ∧ (⟨1, 2, 0, false, 0⟩ : OpF).lo = 0 ∧ (⟨1, 2, 0, false, 0⟩ : OpF).rs2 = 0 :=
  ⟨Tests.on_scalar, rfl, rfl⟩

theorem Tests.witness_FloatingOperationsRoundTheExactResult : unpack f32 0x3F800000 = .fin false 0x800000 (-23) ∧
    unpack f64 0x8000000000000001 = .fin true 1 (-1074) := by decide +kernel

/-- The smallest number above 1 and a number half way between two. -/
theorem Tests.witness_RoundingIsCorrect : (scalarRound f32 .rne { neg := false, m := 2 ^ 25 + 1, e := -25, sticky := false }).2.ov = false ∧
    (scalarRound f64 .rup { neg := true, m := 2 ^ 53 + 1, e := -53, sticky := false }).2.ov = false ∧
    unpack f32 0x3F800000 = .fin false 0x800000 (-23) := by decide +kernel

/-- An addition of infinities of both signs, whose result is not a number. -/
theorem Tests.witness_ScalarNanIsCanonical :
    (let s := Tests.on.modCore 0 fun k => (k.setF 2 0xFFFFFFFF7F800000).setF 3 0xFFFFFFFFFF800000
     Ready s 0 .scalar ∧ Tests.after (.fadd 0 ⟨1, 2, 3, false, 0⟩) s (fun t => ((t.core 0).getF 1).toNat == 0xFFFFFFFF7FC00000) = true) :=
  ⟨Tests.ready _ _ _ (by decide +kernel), by decide +kernel⟩

/-- A shape of one element and the largest of BF16 and AB4; an image region that ends with the array. -/
theorem Tests.witness_TileComputeResults : Ready Tests.on 0 .tile ∧ Tests.on.still = false ∧ errorFree Tests.on ∧ runningRing Tests.on = 0 ∧
    ((Tests.on.core 0).getX 2).toNat = 0 ∧ 0x007F3F3F < 2 ^ 25 ∧ 0x007F3F3F / 2 ^ 14 % 4 = 0 ∧ 0x007F3F3F / 2 ^ 6 % 4 = 0 ∧ 0x7F + 1 ≤ rowCap 1 ∧
    511 + 1 ≤ rowCap 4 ∧ Tests.on.fld (TILE_CFG 0) fldTILE_CFG_OUT % 4 = 0 ∧
    (let s := Tests.x Tests.on 3 0xE10007EF000
     Ready s 0 .tile ∧ ((s.core 0).getX 3).toNat % 256 = 0 ∧ inArray s 0 0x7EF000 ((s.core 0).getX 3).toNat 69632) := by
  and_intros <;> first
    | exact Tests.ready _ _ _ (by decide +kernel)
    | exact Tests.inOneArray _ _ _ _ _ (by decide +kernel) (by decide +kernel)
    | exact Tests.inOneBank _ _ _ _ (by decide +kernel)
    | decide +kernel

/-- One row of two FP32 elements, moved into t0 and out of it. -/
theorem Tests.witness_TileMoveResults : (let s := Tests.x (Tests.x Tests.on 1 0xE1000002000) 2 0x0000010000000040
     let w := ((s.core 0).getX 2).toNat
     Ready s 0 .tile ∧ Ready s 0 .retired ∧ s.still = false ∧ errorFree s ∧ runningRing s = 0 ∧ (∀ d : CoreId, d ≠ 0 → physOf s d ≠ physOf s 0) ∧
       w / 2 ^ 22 % 2 ^ 10 = 0 ∧ w / 2 ^ 15 % 8 < 3 ∧ w / 2 ^ 18 % 8 < 3 ∧ w / 64 % 512 + 1 = 2 ∧ 2 ≤ rowCap 0 ∧ w % 64 + 1 = 1 ∧
       2 * tfBits 0 / 8 = 8 ∧ 8 ≤ w / 2 ^ 32 ∧ ((s.core 0).getX 1).toNat = 0xE1000002000 ∧ inArray s 0 0x2000 0xE1000002000 8 ∧
       (∀ e ∈ (s.core 0).mbuf, e.sub = coreSub s 0) ∧ cutDue s 0 = false) := by
  and_intros <;> first
    | exact Tests.ready _ _ _ (by decide +kernel)
    | exact Tests.inOneArray _ _ _ _ _ (by decide) (by decide +kernel)
    | exact Tests.inOneBank _ _ _ _ (by decide +kernel)
    | decide +kernel

theorem Tests.witness_TileClearsFlagsAndGroups : Ready Tests.on 0 .retired ∧ Ready Tests.on 0 .scalar ∧ Tests.on.still = false ∧ wtOn Tests.on = false ∧ (Tests.on.core 0).bad = [] ∧
    (⟨7, 0, false⟩ : OpTz).rest = 0 ∧ (⟨0xFF, 0⟩ : OpTf).rest = 0 ∧ (⟨7, 31, 15, 0, true⟩ : OpTv).rest = 0 ∧ cutDue Tests.on 0 = false ∧
    (let s := Tests.on.modCore 0 fun k => { k with stopReq := 3 }
     Ready s 0 .retired ∧ cutDue s 0 = true ∧ wtOn s = false ∧ (s.core 0).bad = []) := by
  and_intros <;> first | exact Tests.ready _ _ _ (by decide +kernel) | decide +kernel


/-! ### Premises met: vectors, atomics and fences -/

/-- `Tests.on` with VL = 32. -/
def Tests.vl32 : State := Tests.on.setReg (VEC_VL 0) 32

theorem Tests.witness_VectorIntegerResults : VecReady Tests.on 0 ∧ (2 : BitVec 2) ≠ 3 ∧ 0 < Tests.on.fld (VEC_VL 0) fldVEC_VL_VL := by
  and_intros <;> first
    | exact Tests.on_vec
    | exact Tests.ready _ _ _ (by decide +kernel)
    | exact Tests.vecReady _ _ (Tests.ready _ _ _ (by decide +kernel)) (by decide +kernel)
    | exact Tests.inOneArray _ _ _ _ _ (by decide) (by decide +kernel)
    | decide +kernel

theorem Tests.witness_VectorFloatingResults : VecReady Tests.on 0 ∧ 0 < Tests.on.fld (VEC_VL 0) fldVEC_VL_VL ∧ runningRing Tests.on = 0 ∧
    (⟨1, 2, 0, true, 7, 2, false, none⟩ : OpV).w ≠ 3 ∧ (⟨1, 2, 0, true, 7, 2, false, none⟩ : OpV).vs2 = 0 := by
  and_intros <;> first
    | exact Tests.on_vec
    | exact Tests.ready _ _ _ (by decide +kernel)
    | exact Tests.vecReady _ _ (Tests.ready _ _ _ (by decide +kernel)) (by decide +kernel)
    | exact Tests.inOneArray _ _ _ _ _ (by decide) (by decide +kernel)
    | decide +kernel

theorem Tests.witness_VectorComparesAndMasks : VecReady Tests.on 0 ∧ 0 < Tests.on.fld (VEC_VL 0) fldVEC_VL_VL ∧ runningRing Tests.on = 0 ∧
    (let o : OpV := ⟨7, 7, 7, false, 0, 2, false, none⟩
     o.w ≠ 3 ∧ o.vd.toNat < 8 ∧ o.men = false ∧ o.km = 0 ∧ o.s = false ∧ o.vs1.toNat < 8 ∧ o.vs2.toNat < 8) := by
  and_intros <;> first
    | exact Tests.on_vec
    | exact Tests.ready _ _ _ (by decide +kernel)
    | exact Tests.vecReady _ _ (Tests.ready _ _ _ (by decide +kernel)) (by decide +kernel)
    | exact Tests.inOneArray _ _ _ _ _ (by decide) (by decide +kernel)
    | decide +kernel

theorem Tests.witness_VectorLengthMovesAndCounts : VecReady Tests.on 0 ∧ 0 < Tests.on.fld (VEC_VL 0) fldVEC_VL_VL ∧
    (let o : OpV := ⟨1, 7, 0, false, 0, 2, false, none⟩
     o.w ≠ 3 ∧ o.men = false ∧ o.km = 0 ∧ o.vs2 = 0 ∧ o.s = false ∧ o.vs1.toNat < 8) ∧ (⟨1, 0, 2, true, 7, 0, true, none⟩ : OpV).vs1 = 0 := by
  and_intros <;> first
    | exact Tests.on_vec
    | exact Tests.ready _ _ _ (by decide +kernel)
    | exact Tests.vecReady _ _ (Tests.ready _ _ _ (by decide +kernel)) (by decide +kernel)
    | exact Tests.inOneArray _ _ _ _ _ (by decide) (by decide +kernel)
    | decide +kernel

theorem Tests.witness_VectorReductions : VecReady Tests.on 0 ∧ 0 < Tests.on.fld (VEC_VL 0) fldVEC_VL_VL ∧ runningRing Tests.on = 0 ∧
    Tests.on.fld (VEC_VPROG 0) fldVEC_VPROG_DONE = 0 ∧ (⟨1, 2, 0, true, 7, 2, false, none⟩ : OpV).vs2 = 0 ∧
    (let o : OpV := ⟨1, 2, 3, true, 7, 1, true, none⟩
     o.w.toNat < 2 ∧ o.vd ≠ o.vs1 ∧ o.vd ≠ o.vs2) ∧ (⟨1, 2, 3, true, 7, 0, true, none⟩ : OpV).w = 0 := by
  and_intros <;> first
    | exact Tests.on_vec
    | exact Tests.ready _ _ _ (by decide +kernel)
    | exact Tests.vecReady _ _ (Tests.ready _ _ _ (by decide +kernel)) (by decide +kernel)
    | exact Tests.inOneArray _ _ _ _ _ (by decide) (by decide +kernel)
    | decide +kernel

theorem Tests.witness_VectorConversions : VecReady Tests.vl32 0 ∧ 0 < Tests.vl32.fld (VEC_VL 0) fldVEC_VL_VL ∧ runningRing Tests.vl32 = 0 ∧
    min (Tests.vl32.fld (VEC_VL 0) fldVEC_VL_VL) 256 % 32 = 0 ∧
    (let o : OpV := ⟨1, 2, 0, false, 0, 2, false, none⟩
     o.w ≠ 3 ∧ o.vs2 = 0 ∧ o.s = false ∧ o.w ≠ 0 ∧ o.vd ≠ o.vs1 ∧ o.men = false ∧ o.km = 0) ∧
    (⟨1, 0, 0, true, 7, 1, false, none⟩ : OpV).vs1 = 0 ∧ (⟨0, 2, 0, false, 0, 0, false, none⟩ : OpV).vd = 0 := by
  and_intros <;> first
    | exact Tests.on_vec
    | exact Tests.ready _ _ _ (by decide +kernel)
    | exact Tests.vecReady _ _ (Tests.ready _ _ _ (by decide +kernel)) (by decide +kernel)
    | exact Tests.inOneArray _ _ _ _ _ (by decide) (by decide +kernel)
    | decide +kernel

/-- A state in which x2 names four words in core 0's array, for a vector load or store of VL = 4. -/
def Tests.words : State := Tests.x Tests.on 2 0xE1000002000

theorem Tests.words_vec : VecReady Tests.words 0 := Tests.vecReady _ _ (Tests.ready _ _ _ (by decide +kernel)) (by decide +kernel)

theorem Tests.words_array (e : Nat) (h : acts Tests.words 0 32 false 0 e = true) :
    inArray Tests.words 0 (0x2000 + e * 4) ((0xE1000002000 + e * 4) % 2 ^ 64) 4 := by
  have four : min (Tests.words.fld (VEC_VL 0) fldVEC_VL_VL) (8192 / 32) = 4 := by decide +kernel
  have all : ∀ e < 4, (∀ i < 4, regionOf Tests.words ((0xE1000002000 + e * 4) % 2 ^ 64 + i) = some (.array 0 (0x2000 + e * 4 + i))) ∧
    behindWait Tests.words ((0xE1000002000 + e * 4) % 2 ^ 64) 4 = false := by decide +kernel
  simp only [acts, Bool.and_eq_true, decide_eq_true_eq] at h
  exact all e (four ▸ h.1.2)

/-- Four words at the start of core 0's array, read, and written where no other logical core is the same physical one. -/
theorem Tests.witness_VectorLoads : VecReady Tests.words 0 ∧ errorFree Tests.words ∧ 0 < Tests.words.fld (VEC_VL 0) fldVEC_VL_VL ∧
    runningRing Tests.words = 0 ∧ (∀ e ∈ (Tests.words.core 0).mbuf, e.sub = coreSub Tests.words 0) ∧
    ((Tests.words.core 0).getX 2 + (Tests.words.core 0).getX 0).toNat = 0xE1000002000 ∧
    ∀ e, acts Tests.words 0 32 false 0 e = true → inArray Tests.words 0 (0x2000 + e * 4) ((0xE1000002000 + e * 4) % 2 ^ 64) 4 :=
  ⟨Tests.words_vec, by and_intros <;> decide +kernel, by decide +kernel, by decide +kernel, by decide +kernel, by decide +kernel, Tests.words_array⟩

theorem Tests.witness_VectorStores : VecReady Tests.words 0 ∧ 0 < Tests.words.fld (VEC_VL 0) fldVEC_VL_VL ∧ runningRing Tests.words = 0 ∧
    (∀ d : CoreId, d ≠ 0 → physOf Tests.words d ≠ physOf Tests.words 0) ∧ ((Tests.words.core 0).getX 2 + (Tests.words.core 0).getX 0).toNat = 0xE1000002000 ∧
    ∀ e, acts Tests.words 0 32 false 0 e = true → inArray Tests.words 0 (0x2000 + e * 4) ((0xE1000002000 + e * 4) % 2 ^ 64) 4 :=
  ⟨Tests.words_vec, by decide +kernel, by decide +kernel, by decide +kernel, by decide +kernel, Tests.words_array⟩

/-- The first element of a load below the banks, where nothing is populated. -/
theorem Tests.witness_VectorElementFault : (let s := Tests.x Tests.rsp 2 0xDFFFFFFFFFC
     VecReady s 0 ∧ (s.core 0).vecQ = [] ∧ s.fld (VEC_VPROG 0) fldVEC_VPROG_DONE = 0 ∧ runningRing s = 0 ∧ acts s 0 32 false 0 0 = true ∧
       (∀ i, i < 0 → acts s 0 32 false 0 i = false) ∧ regionOf s (((s.core 0).getX 2 + (s.core 0).getX 0).toNat + 0 * 4) = none ∧
       (s.reg (CORE_RSP 0)).toNat = 0xE1000003000 ∧ inArray s 0 0x2F00 (0xE1000003000 - 256) 256 ∧ s.test (CORE_STATUS 0) fldCORE_STATUS_RSV = false ∧
       ∀ d : CoreId, d ≠ 0 → physOf s d ≠ physOf s 0) := by
  and_intros <;> first
    | exact Tests.on_vec
    | exact Tests.ready _ _ _ (by decide +kernel)
    | exact Tests.vecReady _ _ (Tests.ready _ _ _ (by decide +kernel)) (by decide +kernel)
    | exact Tests.inOneArray _ _ _ _ _ (by decide) (by decide +kernel)
    | decide +kernel

/-- VMOM with and without D at the last registers, VSIGN, VSRND in both forms, VBIAS. -/
theorem Tests.witness_FusedUpdates : VecReady Tests.on 0 ∧ 0 < Tests.on.fld (VEC_VL 0) fldVEC_VL_VL ∧ runningRing Tests.on = 0 ∧
    (let o : OpU := ⟨30, 29, 29, true, 7, true, false, 0, none⟩
     o.lo = 0 ∧ o.a.toNat + 1 ≤ 31 ∧ o.d.toNat + 2 ≤ 31 ∧ o.b.toNat < o.a.toNat) ∧
    (let o : OpU := ⟨29, 28, 26, true, 7, true, true, 0, none⟩
     o.lo = 0 ∧ o.a.toNat + 2 ≤ 31 ∧ o.d.toNat + 5 ≤ 31 ∧ o.b.toNat < o.a.toNat) ∧
    (let o : OpU := ⟨1, 2, 0, true, 7, false, false, 0, none⟩
     o.d = 0 ∧ o.p6 = false ∧ o.p5 = false ∧ o.lo = 0) ∧ (⟨1, 2, 3, true, 7, true, true, 30, none⟩ : OpU).lo ≠ 31 ∧
    (let o : OpU := ⟨30, 2, 30, false, 0, false, false, 0, none⟩
     o.men = false ∧ o.km = 0 ∧ o.p6 = false ∧ o.p5 = false ∧ o.lo = 0 ∧ o.a ≠ 31 ∧ o.d ≠ 31) := by
  and_intros <;> first
    | exact Tests.on_vec
    | exact Tests.ready _ _ _ (by decide +kernel)
    | exact Tests.vecReady _ _ (Tests.ready _ _ _ (by decide +kernel)) (by decide +kernel)
    | exact Tests.inOneArray _ _ _ _ _ (by decide) (by decide +kernel)
    | decide +kernel

theorem Tests.witness_AtomicResults : (let s := Tests.x Tests.on 2 0xE0000000008
     Ready s 0 .retired ∧ errorFree s ∧ (s.core 0).mbuf = [] ∧ storesWait s 0 = false ∧ (∀ d e : CoreId, physOf s d = physOf s e → d = e) ∧
       ((s.core 0).getX 2).toNat % 8 = 0 ∧ inBank s 0 ((s.core 0).getX 2).toNat 8 ∧ s.test BANK_MODE fldBANK_MODE_NOW = true ∧
       (s.setReg BANK_MODE 0).test BANK_MODE fldBANK_MODE_NOW = false ∧ isHome (s.setReg (BANK_REGION 0 3) 0x8000000000000000) 0 0 = true) ∧
    (let s := Tests.x Tests.on 2 0xE1000000004
     Ready s 0 .retired ∧ errorFree s ∧ ((s.core 0).getX 2).toNat % 4 = 0 ∧ inArray s 0 4 ((s.core 0).getX 2).toNat 4) := by
  and_intros <;> first
    | exact Tests.on_vec
    | exact Tests.ready _ _ _ (by decide +kernel)
    | exact Tests.vecReady _ _ (Tests.ready _ _ _ (by decide +kernel)) (by decide +kernel)
    | exact Tests.inOneArray _ _ _ _ _ (by decide) (by decide +kernel)
    | decide +kernel

/-- Fences, and a merging buffer of one entry for a bank. -/
theorem Tests.witness_FencesAndTheMergingBuffer : Ready Tests.on 0 .retired ∧
    (let o : OpFence := ⟨0, 0, 0, 2, 1⟩
     o.rd = 0 ∧ o.rs1 = 0 ∧ o.rs2 = 0 ∧ o.pp ≠ 0 ∧ o.ss ≠ 0 ∧ o.pp.getLsbD 0 = false) ∧ (⟨0, 0, 0, 1, 2⟩ : OpFence).pp.getLsbD 0 = true ∧
    remoteOut Tests.on 0 = 0 ∧ storesWait Tests.on 0 = false ∧ (State.reset.setReg PWR_STATE 4).still = true ∧
    (let e : MergeEntry := { line := 0xE0000000000 / 128, sub := 0, bytes := [(0xE0000000000, 1)], hint := 0 }
     let s := Tests.on.modCore 0 fun k => { k with mbuf := [e] }
     s.still = false ∧ (s.core 0).mbuf[0]? = some e ∧ entryFirm (s.core 0) e = true ∧ mapRising e.bytes = true ∧
       (∀ x ∈ e.bytes, regionOf s x.1 = some (.bank 0) ∧ marchWait s (.bank 0) = false ∧ behindWait s x.1 1 = false) ∧
       (s.reg (BANK_HOME_BEATS 0)).toNat % 2 ^ 48 + e.bytes.length ≤ max48 ∧ (s.core 0).mbuf.length ≤ 1 ∧
       let t := s.modCore 0 fun k => { k with vecQ := [Tests.vop] }
       entryFirm (t.core 0) e = false) := by
  and_intros <;> first
    | exact Tests.on_vec
    | exact Tests.ready _ _ _ (by decide +kernel)
    | exact Tests.vecReady _ _ (Tests.ready _ _ _ (by decide +kernel)) (by decide +kernel)
    | exact Tests.inOneArray _ _ _ _ _ (by decide) (by decide +kernel)
    | decide +kernel


/-! ### Premises met: caches, rings, banks and stacks -/

theorem Tests.witness_CacheEvents : (let f : Fill := { line := 8, kind := 0, flipped := false, reqs := [(0, 15, 0)], cls := 0 }
     let s : State := { Tests.on with mem := { Tests.on.mem with slices := Tests.on.mem.slices.set 0 { Slice.empty with fills := [f] } } }
     s.still = false ∧ wtOn s = false ∧ (s.mem.slices.get 0).fills.find? (fun f => f.line == 8) = some f ∧ homeSlice s 8 = 0 ∧
       (f.reqs.any fun r => heldBack (s.core (coreOf r.1)) (false, 8)) = false ∧ Memory.wf s.mem = true ∧ kindAt s (8 * 128) = 0 ∧ l2Find s 8 = none ∧ l2Ways s 0 ≠ 0 ∧
       let t := s.modCore 0 fun k => { k with order := [(false, 7), (false, 8)] }
       (f.reqs.any fun r => heldBack (t.core (coreOf r.1)) (false, 8)) = true) ∧
    (let e : PfEntry := { last := 0, stride := 2, run := 4, ahead := 0, hint := 0 }
     let fills := fun (n : Nat) (r : Nat × Nat × Nat) => ({ Slice.empty with fills := List.replicate n ⟨8, 0, false, [r], 0⟩ } : Slice)
     let s := (Tests.on.setReg (CORE_PF 0) 0x11).modCore 0 fun k => { k with pf := [e] }
     let own : State := { s.setBit (CORE_ISSUE 0) fldCORE_ISSUE_NOW true with mem := { s.mem with slices := Vector.replicate 8 (fills 4 (0, 15, 4)) } }
     let full : State := { s with mem := { s.mem with slices := Vector.replicate 8 (fills 256 (1, 15, 0)) } }
     (s.core 0).pf[0]? = some e ∧ pfNext s 0 e = some 2 ∧ l1Hit s 0 2 15 = false ∧ 8 * prefetchesOf s 0 < missMax s 0 ∧
       fillsAt s 0 (stackOf s (2 / 512)) < stackCap s 0 ∧ linesAccepted s 0 (missedOf s 0 [(2, 15)]) = true ∧ l2Find s 2 = none ∧
       pfNext own 0 e = some 2 ∧ missMax own 0 ≤ 8 * prefetchesOf own 0 ∧ 8 * prefetchesOf full 0 < missMax full 0 ∧
       linesAccepted full 0 (missedOf full 0 [(2, 15)]) = false) ∧
    (let l : L2Line := { line := 8, kind := 0, cls := 0, dirty := true, marker := false, sharers := 0 }
     let s : State := { Tests.on with mem := { Tests.on.mem with slices := Tests.on.mem.slices.set 0 { Slice.empty with lines := [l] } } }
     (s.core 0).mbuf = [] ∧ (s.core 0).vecQ = [] ∧ storesWait s 0 = false ∧ fldCORE_DEADFALL_LINE.get 1024 = 8 ∧ fldCORE_DEADFALL_LM1.get 1024 = 0 ∧
       regionOf s (8 * 128) = some .stack ∧ kindAt s (8 * 128) = 0 ∧ (l2Find s 8).isSome = true ∧ inPool s (granule (8 * 128)) = false) := by decide +kernel

/-- Device 5 leading a group of itself and device 9, with the newer ring 1 in a state. -/
def Tests.ring (st : Nat) : State :=
  let s := Tests.on.setFld RING_GROUP fldRING_GROUP_LEADER 5
  let s := s.setReg RING_NEWER 1
  let s := s.setFld RING_STATUS fldRING_STATUS_NEW_STATE st
  let s := s.setReg RING_HOLDERS (BitVec.ofNat 64 (9 * 2 ^ 32 + 5))
  { s with ring := { s.ring with members := [5, 9] },
           ride := { s.ride with rx := [{ src := 9, cls := 3, mark := 7, done := [] }, { src := 9, cls := 1, mark := 7, done := [] }] } }

/-- `Tests.ring` of a state, with a write waiting: for a core or an atomic, at an address, of ring 1. -/
def Tests.waits (st ring addr : Nat) (src : WSrc) : State :=
  let s := Tests.ring st
  { s with mem := { s.mem with poolWait := [{ addr := addr, bytes := [1], sub := 0, ring := ring, src := src }] } }

/-- Opening, sealing, sub-rings, closing, preparing, mirroring and the timers, in each state that a clause names. -/
theorem Tests.witness_RingControl :
    (let s := (Tests.ring 0).setBit RING_STATUS fldRING_STATUS_OPEN_PEND true
     s.still = false ∧ s.reg RING_NEXT ≠ BitVec.allOnes 64 ∧ openable s = true ∧ newerState s = 0 ∧ s.test RING_STATUS fldRING_STATUS_OPEN_PEND = true ∧
       allFree s = true ∧ endpointTakes s (leaderDev s) = true ∧
       (s.setReg RING_NEXT (BitVec.allOnes 64)).reg RING_NEXT = BitVec.allOnes 64 ∧ openable (s.setReg RING_NEXT (BitVec.allOnes 64)) = true) ∧
    (openable (Tests.ring 4) = true ∧ (Tests.ring 4).test RING_STATUS fldRING_STATUS_OPEN_PEND = false ∧ newerState (Tests.ring 4) ≠ 0 ∧ allFree (Tests.ring 4) = false ∧
      slotState (Tests.ring 4) .older = 0 ∧ undecidedState (slotState (Tests.ring 4) .newer) = true ∧ undecidedState (slotState (Tests.ring 4) .older) = false) ∧
    (openable (Tests.ring 1) = false ∧ (Tests.ring 1).test RING_STATUS fldRING_STATUS_OPEN_PEND = false ∧ (Tests.ring 1).reg RING_SUBOPEN = 0 ∧
      mirrored (Tests.ring 1) = false ∧ newerState (Tests.ring 1) = 1 ∧ bitOf (Tests.ring 1).ring.used 63 = false ∧ subIsOpen (Tests.ring 1) 63 = false ∧
      preparingSlot (Tests.ring 1) = none) ∧
    (let s := (Tests.ring 1).setBit RING_MODE fldRING_MODE_MIRROR true
     newerState s = 1 ∧ s.reg RING_SUBOPEN = 0 ∧ mirrored s = true ∧ writesWait s (newerRing s) = false) ∧
    ((Tests.ring 0).test RING_STATUS fldRING_STATUS_OPEN_PEND = false ∧ newerState (Tests.ring 2) ≠ 1) ∧
    (let s := (Tests.ring 1).setReg RING_SUBOPEN (1 <<< 63)
     let s : State := { s with ring := { s.ring with used := 2 ^ 63, closing := [(63, true)] } }
     newerState s = 1 ∧ s.reg RING_SUBOPEN ≠ 0 ∧ bitOf s.ring.used 63 = true ∧ subIsOpen s 63 = true ∧
       s.ring.closing.find? (fun c => c.1 == 63) = some (63, true) ∧ subBusy s 63 = false ∧ wbit (s.reg RING_SUBDOOM) 63 = false ∧
       subBusy (s.modCore 0 fun k => { k with mbuf := [⟨1, 63, [], 0⟩] }) 63 = true) ∧
    (let s := (Tests.ring 1).setReg RING_SUBOPEN (1 <<< 63)
     subIsOpen s 63 = true ∧ ∀ c ∈ s.ring.closing, c.1 ≠ 63) ∧
    (let s := Tests.ring 3
     preparingSlot s = some .newer ∧ mirrored s = false ∧ writesWait s (slotRing s .newer) = false ∧ olderState s = 0 ∧
       s.fld RING_MODE fldRING_MODE_MIRROR_IN ≤ s.ring.mirrored.countP (fun e => e.1 == slotRing s .newer) ∧ slotDoomed s .newer = false ∧
       s.test RING_REFUSE fldRING_REFUSE_VALID = false ∧ endpointTakes s (leaderDev s) = true) ∧
    (let s := (Tests.ring 3).setBit RING_MODE fldRING_MODE_MIRROR true
     let d : State := { s with ring := { s.ring with newer := { s.ring.newer with draining := true } } }
     preparingSlot d = some .newer ∧ mirrored d = true ∧ (slotOf d .newer).draining = true ∧ (slotOf d .newer).mirrorLeft = 0 ∧
       (slotOf d .newer).drained = false ∧ slotDoomed d .newer = false ∧ (slotOf s .newer).draining = false) ∧
    (let s := (Tests.ring 3).setReg RIDE_DEVICE 5
     preparingSlot s = some .newer ∧ endpointTakes s (leaderDev (s.setFld RING_GROUP fldRING_GROUP_LEADER 9)) = false) ∧
    (let s := Tests.waits 1 9 0xE0000000000 (.core 0)
     ∃ w, s.mem.poolWait[0]? = some w ∧ waitDoomed s w = true ∧ w.bytes ≠ [] ∧ (∀ e ∈ s.mem.poolWait.take 0, e.overlaps w.addr w.bytes.length = false) ∧
       s.mem.poolWait.length ≤ 1) ∧
    (let s := Tests.waits 1 0 0xE0000000000 (.atom 0 31 7)
     let t := s.modCore 0 fun k => { k with wait := .atom }
     ∃ w, t.mem.poolWait[0]? = some w ∧ w.ring = 0 ∧ (∀ j < w.bytes.length, regionOf t (w.addr + j) = some (.bank 0)) ∧ (t.core 0).wait = .atom ∧
       marchWait t (.bank 0) = false ∧ marchWait (t.setReg BANK_MODE 1) (.bank 0) = true) ∧
    (let s := Tests.waits 1 0 0xE0000000000 (.core 0)
     let s : State := { s with mem := { s.mem with poolWait := s.mem.poolWait ++ s.mem.poolWait } }
     ∃ w, s.mem.poolWait[1]? = some w ∧ ∃ e ∈ s.mem.poolWait.take 1, e.overlaps w.addr w.bytes.length = true) ∧
    (let s := Tests.waits 1 1 127 (.core 0)
     let s : State := { s with mem := { s.mem with pte := [(0, 1)], sapNew := { s.mem.sapNew with gran := [0] } } }
     ∃ w, s.mem.poolWait[0]? = some w ∧ w.addr % 128 + w.bytes.length ≤ 128 ∧ regionOf s w.addr = some .stack ∧ inPool s (granule w.addr) = false ∧
       kindAt s w.addr = 1 ∧ slotOfRing s w.ring = some .newer ∧ slotDoomed s .newer = false ∧ (sapOf s .newer).gran.contains (granule w.addr) = true) := by
  and_intros <;> first | decide +kernel | exact ⟨_, rfl, by decide +kernel⟩

/-- A closing sub-ring of a canonical state with one ACCUM version. -/
theorem Tests.witness_RingControl_subCloseEffect :
    (let x : AccVer := { sub := 63, gran := 2, bytes := [(2 * 65536, 1)], bad := [] }
     let s := (Tests.ring 1).setReg RING_SUBOPEN (1 <<< 63)
     let s : State := { s with ring := { s.ring with closing := [(63, true)] }, mem := { s.mem with accVers := [x] } }
     Canonical s ∧ subBusy s 63 = false ∧ s.mem.accVers.filter (fun y => y.sub == 63) = [x]) := by
  and_intros <;> decide +kernel

/-- A message of the ring protocol from device 9 about ring 1. -/
def Tests.msg (kind arg group : Nat) : RingPayload :=
  { ring := 1, g := 0, group := group, kind := kind, arg := arg, source := 9, culprit := 0, shard := 0, step := 0, members := 0, cause := 0 }

/-- Its packet. -/
def Tests.vote (op kind arg group : Nat) : Packet :=
  { Tests.pkt with op := op, cls := 3, addr := 0, arg := 0, data := ringBytes (Tests.msg kind arg group) }

/-- A state in whose receive buffer a packet stands. -/
def Tests.got (s : State) (p : Packet) : State := { s with ride := { s.ride with inbox := [(0, p)] } }

/-- `Arrives` from its parts, all of which compute. -/
theorem Tests.arrives (s : State) (p : Packet) (op : Nat) (h : (s.still = false ∧ (0, p) ∈ s.ride.inbox ∧ portState s 0 = 3) ∧ (p.op = op ∧ p.resp = false) ∧
    (p.dst = ownDevice s ∧ p.src ≠ ownDevice s) ∧ (s.ride.held = [] ∧ s.mem.poolWait = [] ∧ wtOn s = false) ∧
    (p.psn < 2 ^ 32 ∧ rxFind s p.src p.cls = some { src := p.src, cls := p.cls, mark := p.psn, done := [] }) ∧
    (p.addr < 2 ^ 44 ∧ p.status = 0 ∧ p.rsv = false)) : Arrives s p op :=
  { live := h.1.1, came := ⟨0, h.1.2.1⟩, isOp := h.2.1, here := h.2.2.1.1, other := h.2.2.1.2, up := ⟨0, h.1.2.2⟩, idle := h.2.2.2.1,
    fresh := h.2.2.2.2.1, sound := h.2.2.2.2.2 }

/-- What a message of the ring protocol needs to be heard: it arrives, in class 3 with nothing in the fields it does not use. -/
def Tests.heard (s : State) (p : Packet) (op kind : Nat) : Prop := Arrives s p op ∧ p.cls = 3 ∧ p.tag = 0 ∧ p.addr = 0 ∧ p.arg = 0 ∧ p.stamp = false ∧
  p.mirror = false ∧ p.data.length = 64 ∧ (payloadOf p.data).kind = kind

/-- The leader's record of ring 1. -/
def Tests.lead (st : Nat) (votes : List RingPayload) (flipped : List Nat) : State :=
  let s := Tests.ring 1
  { s with ring := { s.ring with leads := [{ ring := 1, state := st, votes := votes, why := none, flipped := flipped, g := 0 }] } }

/-- Votes of each kind: of the group and of another, with a vote missing and none missing, and CLAIMs of a decided and an undecided ring. -/
theorem Tests.witness_RingProtocol : (let s := Tests.ring 1
     let got := fun (k a g : Nat) => Tests.got s (Tests.vote 8 k a g)
     Tests.heard (got 0 0 0) (Tests.vote 8 0 0 0) 8 0 ∧ Tests.heard (got 1 0 1) (Tests.vote 8 1 0 1) 8 1 ∧
       (payloadOf (Tests.vote 8 1 0 1).data).group ≠ groupId s ∧ Tests.heard (got 6 0 0) (Tests.vote 8 6 0 0) 8 6 ∧
       payloadOf (Tests.vote 8 6 0 0).data = Tests.msg 6 0 0 ∧ groupId s = 0 ∧ Tests.heard (got 5 2 0) (Tests.vote 8 5 2 0) 8 5 ∧
       (0, 1) ∉ s.ring.evicted ∧ logFind s 0 1 = none) ∧
    (let s : State := { Tests.ring 1 with ring := { (Tests.ring 1).ring with log := [Tests.msg 1 0 0] } }
     let s := Tests.got s (Tests.vote 8 5 1 0)
     Tests.heard s (Tests.vote 8 5 1 0) 8 5 ∧ (0, 1) ∉ s.ring.evicted ∧ logFind s 0 1 = some (Tests.msg 1 0 0)) ∧
    (let s := Tests.lead 1 [{ Tests.msg 1 0 0 with source := 5 }] []
     isLeader s = true ∧ 9 ∈ membersOf s ∧ (leadFind s 1).map (fun l => (l.state, l.why)) = some (1, none) ∧ leadFind s 2 = none ∧
       logFind s (groupId s) 1 = none ∧ (prevRing s 1).1 = 1 ∧ (∀ w ∈ [{ Tests.msg 1 0 0 with source := 5 }], w.g = (Tests.msg 1 0 0).g) ∧
       (∀ x ∈ membersOf s, x ≠ 9 → ∃ w ∈ [{ Tests.msg 1 0 0 with source := 5 }], w.source = x ∧ w.kind = 1) ∧
       Tests.heard (Tests.got s (Tests.vote 8 1 0 0)) (Tests.vote 8 1 0 0) 8 1 ∧ Tests.heard (Tests.got s (Tests.vote 8 2 7 0)) (Tests.vote 8 2 7 0) 8 2 ∧
       Tests.heard (Tests.got s (Tests.vote 8 3 0 0)) (Tests.vote 8 3 0 0) 8 3) ∧
    (let s := Tests.got (Tests.lead 1 [] []) (Tests.vote 8 1 0 0)
     isLeader s = true ∧ allFree s = false ∧ 9 ∈ membersOf s ∧ (∃ x ∈ membersOf s, x ≠ 9 ∧ ∀ w ∈ ([] : List RingPayload), w.source ≠ x) ∧
       Tests.heard s (Tests.vote 8 1 0 0) 8 1) ∧
    (let s := Tests.got (Tests.lead 3 [] []) (Tests.vote 8 4 0 0)
     (leadFind s 1).map LeadRec.state = some 3 ∧ (∃ x ∈ membersOf s, x ≠ 9 ∧ x ∉ ([] : List Nat)) ∧ Tests.heard s (Tests.vote 8 4 0 0) 8 4 ∧
       ∀ x ∈ membersOf s, x = 9 ∨ x ∈ [5]) ∧
    (leadFind (Tests.lead 2 [] []) 1).map LeadRec.state = some 2 := by
  and_intros <;> first | exact Tests.arrives _ _ _ (by decide +kernel) | decide +kernel

/-- Outcomes at a member, whose ring is PREPARED, COMMITTED and OPEN. -/
theorem Tests.witness_RingProtocol_outcomes : (let s := Tests.got (Tests.ring 4) (Tests.vote 9 0 0 0)
     slotOfRing s 1 = some .newer ∧ Canonical s ∧ slotState s .newer = 4 ∧ Tests.heard s (Tests.vote 9 0 0 0) 9 0 ∧ groupId s = 0) ∧
    (slotState (Tests.ring 5) .newer = 5 ∧ Tests.heard (Tests.got (Tests.ring 5) (Tests.vote 9 0 0 0)) (Tests.vote 9 0 0 0) 9 0 ∧
      Tests.heard (Tests.got (Tests.ring 5) (Tests.vote 9 1 0 0)) (Tests.vote 9 1 0 0) 9 1) ∧
    (undecidedState (slotState (Tests.ring 1) .newer) = true ∧ Tests.heard (Tests.got (Tests.ring 1) (Tests.vote 10 2 0 0)) (Tests.vote 10 2 0 0) 10 2 ∧
      (Tests.ring 1).ring.newer.cause = none) ∧
    (let s := (Tests.ring 4).setReg RING_OLDER 1
     let s := (s.setReg RING_NEWER 2).setFld RING_STATUS fldRING_STATUS_OLD_STATE 5
     slotOfRing s 1 = some .older ∧ slotState s .older = 5 ∧ slotOfRing s 2 = some .newer ∧ slotState s .newer = 4 ∧ olderState s ≠ 0) := by
  and_intros <;> first | exact Tests.arrives _ _ _ (by decide +kernel) | decide +kernel

/-- A resolve in a phase, with its CLAIM out. -/
def Tests.resolve (phase : Nat) : State :=
  let s := Tests.ring 4
  let c : Packet := { Tests.vote 8 5 2 0 with src := 5, dst := 9 }
  { s with ring := { s.ring with resolves := [{ ring := 1, lead := false, prop := Tests.msg 5 2 0, atH2 := false, v1 := none, phase := phase }] },
           ride := { s.ride with reqs := [{ id := 0, pkt := c, issuer := .claim 1 false false, gaddr := 0, tried := [0], sends := 1, busy := false,
                                            dup := false, anyPort := false, answer := none }] } }

/-- A CLAIM's response, the silence of a member, an outcome that does not come, resolves in each phase, and recovery. -/
theorem Tests.witness_RingProtocol_resolves : (let p : Packet := { Tests.vote 8 1 0 0 with resp := true }
     let s := Tests.got (Tests.resolve 0) p
     s.still = false ∧ wtOn s = false ∧ s.ride.held = [] ∧ (0, p) ∈ s.ride.inbox ∧ p.dst = ownDevice s ∧ p.src ≠ ownDevice s ∧ portState s 0 = 3 ∧
       p.status = 0 ∧ 64 ≤ p.data.length ∧
       (respReq s p).map (fun q => q.issuer) = some (.claim 1 false false) ∧ (findResolve s 1 false).map (fun z => (z.phase, z.atH2)) = some (0, false) ∧
       (payloadOf p.data).ring = 1 ∧ (payloadOf p.data).group = groupId s ∧ (payloadOf p.data).kind = 1) ∧
    (let s := Tests.lead 1 [] []
     s.still = false ∧ isLeader s = true ∧ allFree s = false ∧ 9 ∈ membersOf s ∧ s.ring.leads.length = 1 ∧ logFind s (groupId s) 1 = none ∧ (prevRing s 1).1 = 1) ∧
    (isLeader State.reset = false ∨ allFree State.reset = true) ∧
    (let s := Tests.ring 4
     let s : State := { s with ring := { s.ring with newer := { s.ring.newer with doomSent := true } } }
     s.still = false ∧ slotOfRing s 1 = some .newer ∧ undecidedState (slotState s .newer) = true ∧ (slotOf s .newer).doomSent = true ∧ findResolve s 1 false = none) ∧
    slotOfRing (Tests.ring 4) 2 = none ∧ (Tests.resolve 2).still = false ∧ ((findResolve (Tests.resolve 2) 1 false).map Resolve.phase = some 2) ∧
    ((findResolve (Tests.resolve 1) 1 false).map Resolve.phase = some 1) ∧
    (let s : State := { Tests.ring 4 with ring := { (Tests.ring 4).ring with recovering := 1 } }
     let u := s.setFld RING_STATUS fldRING_STATUS_NEW_STATE 6
     s.still = false ∧ s.ring.recovering = 1 ∧ s.test RIDE_DEVICE fldRIDE_DEVICE_JOINED = true ∧ newerState s ≠ 6 ∧ olderState s ≠ 6 ∧ slotState u .newer = 6) ∧
    (Tests.ring 4).ring.recovering ≠ 1 := by decide +kernel

theorem Tests.witness_BankModeAndMarchTest : (let s := Tests.x (Tests.on.setReg BANK_MODE 0) 2 0xE0000000000
     let one := s.setBit BANK_MODE fldBANK_MODE_SINGLE true
     let test := (s.setBit BANK_MARCH_STATUS fldBANK_MARCH_STATUS_BUSY true).setFld BANK_MARCH_CTRL fldBANK_MARCH_CTRL_LAST 67
     Ready one 0 .retired ∧ (∀ i < 8, regionOf one (0xE0000000000 + i) = some (.bank 0)) ∧ one.test BANK_MODE fldBANK_MODE_SINGLE = true ∧
       one.test BANK_MODE fldBANK_MODE_NOW = false ∧ Ready test 0 .retired ∧ test.still = false ∧ (∀ i < 8, regionOf test (0xE0000000000 + i) = some (.bank 0)) ∧
       test.test BANK_MARCH_STATUS fldBANK_MARCH_STATUS_BUSY = true ∧ test.test BANK_MARCH_CTRL fldBANK_MARCH_CTRL_MODE = false ∧
       inRun test (physBank test 0) = true ∧ inRun test 67 = true ∧ sparesUsed test 67 true < 16 ∧
       (let t : State := { test with mem := { test.mem with bankSpare := [(134, 32), (135, 16)] } }
        ¬ sparesUsed t 67 false < 32 ∧ ¬ sparesUsed t 67 true < 16)) ∧
    State.reset.test BANK_MARCH_STATUS fldBANK_MARCH_STATUS_BUSY = false ∧ fldBANK_MARCH_CTRL_GO.test 0x8000000000000000 = true ∧
    logicalBank State.reset 0 = some 0 := by
  and_intros <;> first | exact Tests.ready _ _ _ (by decide +kernel) | decide +kernel

/-- A device with requests waiting in the sorter of a pseudo-channel of stack 0. -/
def Tests.sorts (q : List SortReq) : State := { Tests.on with mem := { Tests.on.mem with sorter := q } }

/-- Accesses with no error, one bad die, two of them, one beside a failed die, of a sector that is waited for, in turn and out of it; and PTE
commands taken, refused and completed. -/
theorem Tests.witness_StackAccessesAndPageKinds : Tests.on.still = false ∧ stackTop - 1 < stackTop ∧ (∀ e ∈ [(⟨18, 1⟩ : SymErr), ⟨0, 65535⟩], e.bits ≠ 0 ∧ e.die < 19) ∧
    (([⟨18, 1⟩].map SymErr.die).dedup.filter fun d => d + 1 != Tests.on.fld (STK_CFG 0) fldSTK_CFG_DIEFAIL).length = 1 ∧
    (([⟨18, 1⟩, ⟨0, 65535⟩].map SymErr.die).dedup.filter fun d => d + 1 != Tests.on.fld (STK_CFG 0) fldSTK_CFG_DIEFAIL).length = 2 ∧
    Tests.on.fld (STK_CFG 0) fldSTK_CFG_DIEFAIL = 0 ∧
    (let s := Tests.on.setFld (STK_CFG 0) fldSTK_CFG_DIEFAIL 3
     s.fld (STK_CFG 0) fldSTK_CFG_DIEFAIL ≠ 0 ∧
       (([⟨18, 1⟩].map SymErr.die).dedup.filter fun d => d + 1 != s.fld (STK_CFG 0) fldSTK_CFG_DIEFAIL).length = 1) ∧
    (let s := Tests.sorts [⟨0, true⟩]
     sortPick s (channelOf s 0) = some ⟨0, true⟩ ∧ (s.mem.sorter.any fun r => r.sector == 0 / 32) = true) ∧
    (let s := Tests.sorts [⟨0, false⟩]
     sortPick s (channelOf s 0) = some ⟨0, false⟩ ∧ (s.mem.sorter.any fun r => r.sector == 0 / 32) = true) ∧
    (let s := Tests.sorts [⟨0, false⟩, ⟨1, false⟩]
     (s.mem.sorter.any fun r => r.sector == 32 / 32) = true ∧ channelOf s 32 = channelOf s 0 ∧ sortPick s (channelOf s 32) = some ⟨0, false⟩) ∧
    Tests.on.mem.sorter.any (fun r => r.sector == 0) = false ∧
    Tests.on.test (STK_PTE_STATUS 0) fldSTK_PTE_STATUS_BUSY = false ∧ allFree Tests.on = true ∧ mapFind Tests.on.mem.pteCmd 0 = none ∧
    fldSTK_PTE_SET_FIRST.get 0xBFFFF000001 + (fldSTK_PTE_SET_COUNTM1.get 0xBFFFF000001 + 1) = 786432 ∧ fldSTK_PTE_SET_KIND.get 3 = 3 ∧
    (let k : PteCmd := { next := 0, left := 1, entry := 1 }
     let s : State := { Tests.on with mem := { Tests.on.mem with pteCmd := [(0, k)] } }
     mapFind s.mem.pteCmd 0 = some k ∧ k.left ≤ 786432 ∧ Canonical s) := by
  and_intros <;> decide +kernel

/-- The smallest subnormal, a signalling NaN and an infinity. -/
theorem Tests.witness_ExactAccumulators : State.reset.still = false ∧ unpack f32 ((0x80000001 : Word).toNat % 2 ^ 32) = .fin true 1 (-149) ∧
    unpack f32 ((0x7F800001 : Word).toNat % 2 ^ 32) = .nan true ∧ unpack f32 ((0xFF800000 : Word).toNat % 2 ^ 32) = .inf true ∧
    accGet State.reset 4095 = { val := 0, st := 0 } := by decide +kernel


/-! ### Premises met: transfers, the fabric and its ports -/

/-- A descriptor of one 32-byte row between two banks, with control bits. -/
def Tests.desc (ctrl : Nat) : List Byte :=
  bytesOfNat 8 ctrl ++ bytesOfNat 8 0xE0000001000 ++ bytesOfNat 8 0xE0001002000 ++ bytesOfNat 4 32 ++ List.replicate 36 0

/-- Engine 0 with a descriptor posted at an address, the bytes of `Tests.desc` at the start of the banks, and descriptors active. -/
def Tests.eng (ctrl addr : Nat) (act : List XDesc) : State :=
  let q : XPost := { addr := addr, core := some 0, tag := 0, sub := 0, aborted := false }
  { Tests.on with mem := { Tests.on.mem with bank := writeBytes zeroByte [] 0 (Tests.desc ctrl) },
                  xfer := Tests.on.xfer.set 0 { XEng.reset with queue := [q], active := act, nextReq := 9 } }

/-- An active descriptor with requests to issue and issued. -/
def Tests.act (ctrl : Nat) (todo issued : List XReq) (fail : Option (Nat × Nat × Nat)) (aborted : Bool) : XDesc :=
  { id := 7, post := { addr := 0xE0000000000, core := some 0, tag := 0, sub := 0, aborted := false }, ctrl := ctrl, src := 0xE0000001000,
    dst := 0xE0001002000, len := 32, sstride := 0, dstride := 0, sigaddr := 0x9F0100000000, siginc := 1, todo := todo, issued := issued, gens := [],
    stale := false, fail := fail, aborted := aborted, signal := 0 }

/-- A request of 32 bytes, read or to be read. -/
def Tests.xreq (data : List Byte) : XReq := { id := 8, off := 0, src := 0xE0000001000, dst := 0xE0001002000, len := 32, data := data, wr := false }

/-- Descriptors to start, refuse, leave to another command and keep behind a fence; requests to issue and to complete; completions. -/
theorem Tests.witness_TransferEngines : (let s := Tests.eng 0 0xE0000000000 []
     let b := memBytes s 0 0xE0000000000 56
     s.still = false ∧ errorFree s ∧ (∀ d e : CoreId, physOf s d = physOf s e → d = e) ∧ (s.xfer.get 0).active.length < 8 ∧ (s.xfer.get 0).posts = [] ∧
       (∀ i < 56, regionOf s (0xE0000000000 + i) = some (.bank 0)) ∧ marchWait s (.bank 0) = false ∧ behindWait s 0xE0000000000 56 = false ∧
       natOfBytes ((b.drop 0).take 8) % 16 = 0 ∧ bitOf (natOfBytes ((b.drop 0).take 8)) 5 = false ∧ badDesc b = false ∧
       (s.core 0).mbuf = [] ∧ (s.core 0).vecQ = [] ∧ storesWait s 0 = false ∧ postFull s 0 = false) ∧
    (let s := Tests.on
     let s : State := { s with xfer := s.xfer.set 0 { XEng.reset with queue := List.replicate 64 ⟨0xDFFFFFFFFC0, some 0, 0, 0, false⟩, posts := [(47, 9)] } }
     postFull s 0 = true ∧ (s.xfer.get 0).posts = [(47, 9)] ∧ 63 < 64) ∧
    natOfBytes (((memBytes (Tests.eng 6 0xE0000000000 []) 0 0xE0000000000 56).drop 0).take 8) % 16 = 6 ∧
    (let s := Tests.eng 0x400 0xE0000000000 []
     badDesc (memBytes s 0 0xE0000000000 56) = true ∧ natOfBytes (((memBytes s 0 0xE0000000000 56).drop 0).take 8) % 16 = 0) ∧
    (let s := Tests.eng 32 0xE0000000000 [Tests.act 0 [] [] none false]
     bitOf (natOfBytes (((memBytes s 0 0xE0000000000 56).drop 0).take 8)) 5 = true ∧ (s.xfer.get 0).active ≠ []) ∧
    spanRegion (Tests.eng 0 0xDFFFFFFFFC0 []) 0xDFFFFFFFFC0 56 = none ∧ (Tests.on.xfer.get 0).queue = [] ∧ pickReq Tests.on (Tests.on.xfer.get 0) = none ∧
    (let d := Tests.act 0 [Tests.xreq []] [] none false
     let s := Tests.eng 0 0xE0000000000 [d]
     pickReq s (s.xfer.get 0) = some (d, Tests.xreq []) ∧ (s.xfer.get 0).active = [d] ∧ d.id ≤ (s.xfer.get 0).nextReq ∧
       ∀ i < 32, regionOf s (0xE0000001000 + i) = some (.bank 0)) ∧
    (let d := Tests.act 0 [] [Tests.xreq (List.replicate 32 5)] none false
     let s := Tests.eng 0 0xE0000000000 [d]
     findReq s 0 8 = some (d, Tests.xreq (List.replicate 32 5)) ∧ findReq s 0 0 = none ∧ (Tests.xreq (List.replicate 32 5)).wr = false ∧
       (Tests.xreq (List.replicate 32 5)).data.length = 32 ∧ (∀ i < 32, regionOf s (0xE0001002000 + i) = some (.bank 1)) ∧ d.issued ≠ []) ∧
    (Tests.act 0x40 [] [] none false).live = true ∧ bitOf (Tests.act 0x40 [] [] none false).ctrl 6 = true ∧ Tests.on.fld (PWR_CORE 0) fldPWR_CORE_STATE < 3 ∧
    (Tests.act 0x80 [] [] none true).live = false ∧ (Tests.act 0 [] [Tests.xreq []] none true).live = false ∧
    (Tests.act 0 [] [] (some (2 ^ 32 - 1, 255, 255)) false).live = false ∧
    (let d := Tests.act 0x80 [] [] none false
     let s := Tests.eng 0 0xE0000000000 [d]
     bitOf d.ctrl 7 = true ∧ d.live = true ∧ endpointTakes s (gDevice d.sigaddr) = true ∧ endpointTakes (s.setReg RIDE_DEVICE 5) (gDevice d.sigaddr) = false ∧
       ∀ i < 8, regionOf s (d.post.addr + 56 + i) = some (.bank 0)) := by
  and_intros <;> first
    | exact Tests.ready _ _ _ (by decide +kernel)
    | exact Tests.arrives _ _ _ (by decide +kernel)
    | exact Tests.inOneBank _ _ _ _ (by decide +kernel)
    | decide +kernel

/-- A GET and PUT of 256 bytes, an ATOM with a compare value, an EXSUM, a SERVICE and blazes, to device 9. -/
theorem Tests.witness_RemoteInstructions : (let s := Tests.x (Tests.x Tests.on 1 0xE0000000000) 2 (BitVec.ofNat 64 (9 * 2 ^ 44 + 0xF0200000000))
     Ready s 0 .retired ∧ errorFree s ∧ (s.core 0).mbuf = [] ∧ storesWait s 0 = false ∧ ((s.core 0).getX 1).toNat % 64 = 0 ∧
       ((s.core 0).getX 2).toNat % 128 = 0 ∧ inBank s 0 ((s.core 0).getX 1).toNat 256 ∧ ((s.core 0).getX 2).toNat < 2 ^ 62 ∧
       accepts s 0 (((s.core 0).getX 2).toNat / 2 ^ 44) = true ∧ isSelf s (((s.core 0).getX 2).toNat / 2 ^ 44) = false) ∧
    (let o : OpRem := ⟨1, 2, 0, 3, 3, false, false⟩
     o.z = false ∧ o.d = false ∧ o.arg.toNat < 4 ∧ o.rs2 = 0) ∧
    (let o : OpRem := ⟨1, 2, 3, 3, 7, true, false⟩
     o.z = false ∧ ¬(o.d = true ∧ (o.arg = 1 ∨ o.arg = 4 ∨ o.arg = 5))) ∧
    (let o : OpRem := ⟨0, 2, 3, 3, 0, false, false⟩
     o.z = false ∧ o.d = false ∧ o.arg = 0 ∧ o.ra = 0) ∧
    (let s := Tests.x (Tests.x Tests.on 1 0xE0000000000) 2 (BitVec.ofNat 64 (9 * 2 ^ 44))
     Ready s 0 .retired ∧ ((s.core 0).getX 2).toNat % 2 ^ 44 = 0 ∧ accepts s 0 (((s.core 0).getX 2).toNat / 2 ^ 44) = true) ∧
    (let b : OpBlz := ⟨0, 2, 3, 3, 0⟩
     b.lo = 0 ∧ b.rd = 0) := by
  and_intros <;> first
    | exact Tests.ready _ _ _ (by decide +kernel)
    | exact Tests.arrives _ _ _ (by decide +kernel)
    | exact Tests.inOneBank _ _ _ _ (by decide +kernel)
    | decide +kernel

/-- The last blaze of this device, met and unmet, and cores that wait. -/
theorem Tests.witness_BlazesAndWaits : (let s := Tests.x Tests.on 2 (BitVec.ofNat 64 (5 * 2 ^ 44 + 0xF0100000000 + 64 * 16383))
     let g := ((s.core 0).getX 2).toNat
     Ready s 0 .retired ∧ s.still = false ∧ (s.core 0).mbuf = [] ∧ storesWait s 0 = false ∧ g < 2 ^ 62 ∧ isSelf s (g / 2 ^ 44) = true ∧
       g % 2 ^ 44 = 0xF0100000000 + 64 * 16383 ∧ ((s.core 0).getX 3).toNat % 2 ^ 32 ≤ blzValue s 16383) ∧
    (let s := Tests.x (Tests.x Tests.on 2 (BitVec.ofNat 64 (5 * 2 ^ 44 + 0xF0100000000 + 64 * 16383))) 3 1
     Ready s 0 .retired ∧ blzValue s 16383 < ((s.core 0).getX 3).toNat % 2 ^ 32) ∧
    2 ^ 32 ≤ blzValue (Tests.on.setReg (BLZ_VALUE 0) 0xFFFFFFFF) 0 + 1 ∧
    (let s := Tests.on.modCore 0 fun k => { k with wait := .bwait 1 0 1 0 none (some 0) }
     (s.core 0).wait = .bwait 1 0 1 0 none (some 0) ∧ alive s 0 = true) ∧
    (let s := Tests.on.modCore 0 fun k => { k with wait := .bwait 1 16384 1 0 (some 3) (some 2) }
     (s.core 0).wait = .bwait 1 16384 1 0 (some 3) (some 2) ∧ alive s 0 = true) ∧
    ((Tests.on.modCore 0 fun k => { k with wait := .bwait 1 0 1 0 none none }).core 0).wait = .bwait 1 0 1 0 none none := by
  and_intros <;> first
    | exact Tests.ready _ _ _ (by decide +kernel)
    | exact Tests.arrives _ _ _ (by decide +kernel)
    | exact Tests.inOneBank _ _ _ _ (by decide +kernel)
    | decide +kernel

/-- A request from device 9 of an operation, at an address of this device. -/
def Tests.req (op arg addr : Nat) (data : List Byte) : Packet := { Tests.pkt with op := op, arg := arg, addr := addr, data := data }

/-- A GET and a PUT up to the last byte that each can name, a mirror copy, and an ATOM. -/
theorem Tests.witness_RequestsAtTheDestination :
    (let s := Tests.ring 1
     let at_ := fun (p : Packet) (op : Nat) => Arrives (Tests.got s p) p op
     errorFree s ∧ (∀ d e : CoreId, physOf s d = physOf s e → d = e) ∧ at_ (Tests.req 1 31 0xE0000FFFF00 []) 1 ∧
       inBank s 0 0xE0000FFFF00 256 ∧ at_ (Tests.req 1 32 0xE0000000000 []) 1 ∧ at_ (Tests.req 2 3 0xE0000FFE008 (List.replicate 8192 1)) 2 ∧
       inBank s 0 0xE0000FFE008 (32 * 256 - 8 * 3) ∧ slotOfRing s 0 = none ∧ slotOfRing s 1 = some .newer ∧ slotState s .newer = 1 ∧
       at_ { Tests.req 2 0 0xE0000000000 (List.replicate 32 1) with mirror := true, tag := 1 } 2 ∧ (Tests.req 1 0 0 []).stamp = false ∧
       at_ (Tests.req 3 15 0xE0000000008 (List.replicate 32 1)) 3 ∧ inBank s 0 0xE0000000008 8) := by
  and_intros <;> first
    | exact Tests.arrives _ _ _ (by decide +kernel)
    | exact Tests.inOneBank _ _ _ _ (by decide +kernel)
    | decide +kernel

/-- The accumulating operations at the last accumulator of stack 0, a SIGNAL, a WAIT met and unmet, a SERVICE taken and refused, and a held request. -/
theorem Tests.witness_RequestsAtTheDestination_others :
    (let s := Tests.ring 1
     let at_ := fun (p : Packet) (op : Nat) => Arrives (Tests.got s p) p op
     at_ (Tests.req 4 63 0xF020007FF80 (List.replicate 256 0)) 4 ∧ regionOf s 0xF020007FF80 = some .exacc ∧
       at_ (Tests.req 5 63 0xF020007FF80 (List.replicate 256 0)) 5 ∧ 0xF020007FF80 % 128 = 0 ∧
       at_ (Tests.req 6 0 0xF01000FFFC0 (List.replicate 32 0)) 6 ∧ 0xF01000FFFC0 = 0xF0100000000 + 64 * 16383 ∧
       at_ (Tests.req 7 0 0xF0100000000 (List.replicate 32 0)) 7 ∧ natOfBytes (((List.replicate 32 (0 : Byte)).drop 0).take 4) ≤ blzValue s 0 ∧
       at_ (Tests.req 7 0 0xF0100000000 (1 :: List.replicate 31 0)) 7 ∧ blzValue s 0 < natOfBytes (((1 :: List.replicate 31 (0 : Byte)).drop 0).take 4) ∧
       at_ (Tests.req 11 0 0 (List.replicate 64 0)) 11 ∧ svcFull s = true) ∧
    (let s := Tests.got ((Tests.ring 1).setReg WDN_SVCQ_BASE 1) (Tests.req 11 0 0 (List.replicate 64 0))
     Arrives s (Tests.req 11 0 0 (List.replicate 64 0)) 11 ∧ svcFull s = false ∧ svcWaits s = false) ∧
    (let p := Tests.req 7 0 0xF0100000000 (1 :: List.replicate 31 0)
     let s : State := { Tests.ring 1 with ride := { (Tests.ring 1).ride with held := [p] } }
     s.still = false ∧ p ∈ s.ride.held ∧ (∀ q ∈ s.ride.held, q.src = p.src → q.cls = p.cls → q.psn = p.psn → q = p) ∧ p.src ≠ ownDevice s) ∧
    (∀ q ∈ (Tests.ring 1).ride.held, ¬(q.src = 9 ∧ q.cls = 1)) := by
  and_intros <;> first
    | exact Tests.arrives _ _ _ (by decide +kernel)
    | decide +kernel

/-- A request of core 0 to device 9, in a state of its answers. -/
def Tests.out (busy dup : Bool) (tried : List Nat) (sends : Nat) (answer : Option (Nat × List Byte)) (i : Issuer) : State :=
  let p : Packet := { Tests.pkt with src := 5, dst := 9 }
  let s := Tests.on.setBit (RIDE_PORT_STATUS 0) fldRIDE_PORT_STATUS_ACTIVE true
  let r : RideReq := { id := 0, pkt := p, issuer := i, gaddr := 0, tried := tried, sends := sends, busy := busy, dup := dup, anyPort := false, answer := answer }
  { s with ride := { s.ride with quiet := false, nextId := 1, reqs := [r] } }

/-- Responses that find no request, BUSY, DUPLICATE and OK; resends, failover with and without an untried port, and completions. -/
theorem Tests.witness_RequestsAtTheSource : (let p : Packet := { Tests.pkt with resp := true }
     let s := Tests.got (Tests.out false false [0] 2 none (.corePost 0)) p
     s.still = false ∧ wtOn s = false ∧ s.ride.held = [] ∧ (0, p) ∈ s.ride.inbox ∧ p.dst = ownDevice s ∧ portState s 0 = 3 ∧ (respReq s p).isSome = true ∧
       (respReq s p).map (fun r => (r.issuer, r.busy, r.dup)) = some (.corePost 0, false, false) ∧
       respReq s { p with psn := 8 } = none ∧ 1 < 2 ∧ (reqFind s 0).map (fun r => (untried s r).isEmpty) = some true ∧
       (∀ q ∈ s.ride.reqs, q.id = 0 ∧ q.pkt.dst ≠ ownDevice s ∧ q.pkt.resp = false ∧ q.pkt.dst < 2 ^ 18) ∧ 0 < s.ride.nextId ∧ s.ride.outbox = []) ∧
    (let s := Tests.out false false [] 1 none (.corePost 0)
     (reqFind s 0).map (fun r => (untried s r).isEmpty) = some false) ∧
    (let s := Tests.out true false [0] 1 none (.corePost 0)
     (reqFind s 0).map RideReq.busy = some true ∧ portActive s 0 = true ∧ portState s 0 = 3 ∧ s.ride.quiet = false ∧
       ∀ i : Fin 36, portState (s.setFld (RIDE_PORT_STATUS 0) fldRIDE_PORT_STATUS_STATE 1) i ≠ 3) ∧
    ((reqFind (Tests.out false true [0] 1 none (.corePost 0)) 0).map RideReq.dup = some true) ∧
    (let s := Tests.out false false [0] 1 (some (255, [])) (.corePost 0)
     (reqFind s 0).map RideReq.answer = some (some (255, [])) ∧ heldBack (s.core 0) (true, 0) = false ∧ s.test (CORE_RSTAT 0) fldCORE_RSTAT_ERR = false ∧
       (s.setBit (CORE_RSTAT 0) fldCORE_RSTAT_ERR true).test (CORE_RSTAT 0) fldCORE_RSTAT_ERR = true ∧
       heldBack ((s.modCore 0 fun k => { k with order := [(false, 1), (true, 0)] }).core 0) (true, 0) = true) ∧
    (let s := Tests.out false false [0] 1 (some (0, List.replicate 8 1)) (.coreGet 0 0xE0000000000 8)
     (reqFind s 0).map RideReq.issuer = some (.coreGet 0 0xE0000000000 8) ∧ (∀ d e : CoreId, physOf s d = physOf s e → d = e) ∧
       s.test BANK_MODE fldBANK_MODE_NOW = true) ∧
    inBank (Tests.out false false [0] 1 (some (0, List.replicate 8 1)) (.coreGet 0 0xE0000000000 8)) 0 0xE0000000000 8 := by
  and_intros <;> first
    | exact Tests.ready _ _ _ (by decide +kernel)
    | exact Tests.arrives _ _ _ (by decide +kernel)
    | exact Tests.inOneBank _ _ _ _ (by decide +kernel)
    | decide +kernel

/-- Port 0 in a state, with flits unacknowledged and failures counted. -/
def Tests.port (st fails : Nat) (l : List TxFlit) : State :=
  let s := Tests.on.setFld (RIDE_PORT_STATUS 0) fldRIDE_PORT_STATUS_STATE st
  { s with ride := { s.ride with ports := s.ride.ports.set 0 { Port.reset with fails := fails, unacked := l } } }

/-- An idle flit with two credits for requests, as it leaves. -/
def Tests.idle (fseq : Nat) : TxFlit :=
  { fseq := fseq, ack := 0, type := 1, credit0 := 2, credit1 := 0, credit2 := 0, parts := [], join := none, replays := 0 }

/-- What the idle flit that is next decodes to. -/
theorem Tests.rx_idle : rxFlit (flitWords (Tests.idle 0)) = ⟨some (flitBytes (Tests.idle 0)), [0, 0, 0, 0]⟩ := by decide +kernel

/-- A flit that no lane carries whole, an idle one in and out of sequence; replays; thresholds, training with four lanes, with five and with
fewer; and joining. -/
theorem Tests.witness_Ports : Tests.on.still = false ∧ wtOn Tests.on = false ∧ portState Tests.on 0 = 3 ∧ portState Tests.on 35 ≠ 3 ∧ portState Tests.on 35 ≠ 2 ∧
    (rxFlit ⟨0, 0, 0, 0⟩).bytes.filter flitOk = none ∧
    (let l := flitBytes (Tests.idle 0)
     flitOk l = true ∧ natOfBytes ((l.drop 0).take 4) = (Tests.on.ride.ports.get 0).rxNext ∧ natOfBytes ((l.drop 8).take 1) ≠ 2 ∧
       natOfBytes ((l.drop 8).take 1) ≠ 0 ∧ Tests.on.ride.outbox = [] ∧
       natOfBytes ((l.drop 0).take 4) ≠ (({ Port.reset with rxNext := 2 ^ 32 - 1 } : Port)).rxNext) ∧
    (Tests.on.ride.ports.get 0).unacked = [] ∧
    (let s := Tests.port 3 0 [{ Tests.idle 7 with replays := 62 }]
     portState s 0 = 3 ∧ (∀ g ∈ (s.ride.ports.get 0).unacked.filter (fun g => psnBelow 6 g.fseq), g.replays < 63) ∧
       (s.ride.ports.get 0).unacked.filter (fun g => psnBelow 6 g.fseq) ≠ [] ∧ (s.reg (RIDE_PORT_REPLAY 0)).toNat % 2 ^ 48 + 1 ≤ max48) ∧
    (∀ n ∈ (Tests.on.ride.ports.get 0).fec, n ≤ Tests.on.fld (RIDE_PORT_CTRL 0) fldRIDE_PORT_CTRL_FECTHR) ∧
    Tests.on.fld (RIDE_PORT_CTRL 0) fldRIDE_PORT_CTRL_FECTHR < 2 ^ 16 ∧
    (let lanes := fun (l : List Nat) => List.zipWith LaneErr.mk l [100000, 100000, 100000, 100000, 100000]
     portState (Tests.port 1 0 []) 0 = 1 ∧ 4 ≤ (goodLanes (lanes [23, 0, 0, 24, 0])).length ∧ (lanes [23, 0, 0, 24, 0])[3]? = some ⟨24, 100000⟩ ∧
       4 ≤ (goodLanes (lanes [23, 0, 0, 22, 0])).length ∧ (goodLanes (lanes [24, 0, 0, 24, 0])).length < 4) ∧
    ((Tests.port 1 1 []).ride.ports.get 0).fails < 2 ∧
    2 ≤ ((Tests.port 1 2 []).ride.ports.get 0).fails ∧ (Tests.port 1 2 []).fld WDN_BOOT fldWDN_BOOT_STEP ≠ 7 ∧
    portState (Tests.port 2 0 []) 0 = 2 ∧ (Tests.port 2 0 []).fld WDN_BOOT fldWDN_BOOT_STEP ≠ 7 ∧ portState Tests.on 0 ≠ 2 ∧ portState Tests.on 0 ≠ 1 := by
  and_intros <;> decide +kernel

/-! ### Premises met: Forester, power, boot, the Warden, faults and registers -/

/-- A post word: destination core, quadrants, and the rest zero. -/
def Tests.postWord (core quads : Nat) : Word := BitVec.ofNat 64 (core * 2 ^ 41 + quads * 2 ^ 47)

/-- Core 0 with a task dispatched to it. -/
def Tests.tasked : State :=
  let s := Tests.on.setBit (FOR_CORE 0) fldFOR_CORE_BUSY true
  { s with forr := { s.forr with tasks := [{ slot := 0, post := 0, word := 0, core := some 0, passed := [] }] } }

/-- A post refused, one that waits behind 1024 tasks or other posts, and one that core 0, alone free, takes. -/
theorem Tests.witness_TasksAndTicks :
    (Tests.on.still = false ∧ (State.reset.setReg PWR_STATE 4).still = true) ∧
    (bitsOf (Tests.postWord 63 0).toNat 50 47 = 0) ∧ (48 ≤ bitsOf (Tests.postWord 48 1).toNat 46 41 ∧ bitsOf (Tests.postWord 62 1).toNat 46 41 ≤ 62) ∧
    (let s : State := { Tests.on with forr := { Tests.on.forr with tasks := List.replicate 1024 { slot := 0, post := 0, word := 0, core := some 0, passed := [] } } }
     ¬ s.forr.tasks.length < 1024) ∧
    (let w := (Tests.postWord 63 1).toNat
     ¬(bitsOf w 50 47 = 0 ∨ (48 ≤ bitsOf w 46 41 ∧ bitsOf w 46 41 ≤ 62) ∨ (bitsOf w 46 41 < 48 ∧ bitOf (bitsOf w 50 47) (quadOf Tests.on (bitsOf w 46 41)) = false) ∨
       bitsOf w 40 38 ≠ 0) ∧ bitOf (bitsOf w 50 47) (quadOf Tests.on 0) = true ∧ bitsOf w 46 41 = 63 ∧ bitsOf w 59 57 = 0) ∧
    Tests.on.forr.tasks.length < 1024 ∧ Tests.on.forr.waiting = [] ∧ (∀ y ∈ Tests.on.forr.tasks, y.core ≠ none) ∧
    (∀ d : CoreId, takesTasks Tests.on d = true ↔ d = 0) ∧ busy Tests.on 0 = false ∧ busy Tests.tasked 0 = true ∧ (∀ y ∈ Tests.tasked.forr.tasks, y.core ≠ none) ∧
    fits Tests.on 0 0 = true ∧
    (let s : State := { Tests.on with forr := { Tests.on.forr with waiting := [Tests.postWord 63 1] } }
     s.forr.waiting = [Tests.postWord 63 1] ∧ s.forr.tasks.length < 1024) := by
  have p : charge Tests.on 0 = 0 := by decide +kernel
  have e : classAt Tests.on 0 (clockCap Tests.on (quadOf Tests.on 0)) = 0 := by decide +kernel
  and_intros <;> first
    | decide +kernel
    | (simp only [fits, Fin.val_zero, p, e, Nat.cast_zero, sub_self, Int.cast_zero, mul_zero, add_zero]; decide +kernel)

/-- Quadrants hot and cool, HEAT in and out, Hold entered and left for each cause, and activities at each turn. -/
theorem Tests.witness_ThrottlingHoldAndActivities :
    (State.reset.setReg PWR_STATE 4).still = true ∧ Tests.on.still = false ∧
    (let s : State := { Tests.on with forr := { Tests.on.forr with temp := Vector.replicate 4 1601 } }
     ((s.fld FOR_THERM fldFOR_THERM_TLIM : Nat) : Rat) < s.forr.temp.get 0) ∧
    (16 * Tests.on.fld FOR_CREDIT_CFG fldFOR_CREDIT_CFG_CAP ≤ 2 * Tests.on.forr.credit.get 0 ∧
      Tests.on.forr.temp.get 0 ≤ ((Tests.on.fld FOR_THERM fldFOR_THERM_TLIM : Nat) : Rat) - 32) ∧
    Tests.on.pwr.heatIn = false ∧ { Tests.on.pwr with heatIn := true }.heatIn = true ∧
    (let s := Tests.on.modCore 0 fun k => { k with wait := .wfi }
     coreIdle s 0 = true ∧ inHold s 0 = false ∧ (s.reg FOR_HOLDS).toNat % 2 ^ 48 + 1 ≤ max48) ∧
    coreIdle Tests.on 0 = false ∧ inHold Tests.on 0 = false ∧
    (let s := ((Tests.on.setBit (FOR_CORE 0) fldFOR_CORE_HOLD true).setReg (CORE_IPEND 0) 0x30000).setReg (CORE_IEN 0) 0x30000
     let s := s.modCore 0 fun k => { k with wait := .wfi, held := 0x10000 }
     inHold s 0 = true ∧ enabledPending s 0 &&& ~~~ (s.core 0).held ≠ 0 ∧ (s.core 0).wait = .wfi ∧
       let t := s.modCore 0 fun k => { k with held := 0x30000 }
       inHold t 0 = true ∧ enabledPending t 0 &&& ~~~ (t.core 0).held = 0 ∧ (t.core 0).mcDue = [] ∧ (t.core 0).stopReq = 0) ∧
    (let s := (Tests.on.setBit (FOR_CORE 0) fldFOR_CORE_HOLD true).modCore 0 fun k => { k with wait := .wfi, mcDue := [(some 64, 9)] }
     inHold s 0 = true ∧ (s.core 0).mcDue ≠ []) ∧
    (let s := (Tests.on.setBit (FOR_CORE 0) fldFOR_CORE_HOLD true).modCore 0 fun k => { k with wait := .bwait 1 0 1 0 none (some 0) }
     inHold s 0 = true ∧ enabledPending s 0 = 0 ∧ (s.core 0).mcDue = [] ∧ (s.core 0).wait = .bwait 1 0 1 0 none (some 0)) ∧
    (let s := (Tests.on.setBit (FOR_CORE 0) fldFOR_CORE_HOLD true).modCore 0 fun k => { k with wait := .wfi, stopReq := 3 }
     inHold s 0 = true ∧ enabledPending s 0 = 0 ∧ (s.core 0).mcDue = [] ∧ (s.core 0).wait = .wfi ∧ (s.core 0).stopReq ≠ 0) ∧
    (let s := ((Tests.on.setBit (FOR_ACT 0) fldFOR_ACT_EN true).setBit (FOR_ACT 0) fldFOR_ACT_DEFER true).setFld (FOR_ACT 0) fldFOR_ACT_MAXDEFER 2
     let put := s.setBit FOR_STATUS fldFOR_STATUS_CATCHUP true
     let last := put.setFld (FOR_ACT_STATE 0) fldFOR_ACT_STATE_DEFERRED 1
     s.test (FOR_ACT 0) fldFOR_ACT_EN = true ∧ (s.forr.acts.get 0).running = false ∧ (s.forr.acts.get 0).due ≤ refTime s ∧
       s.test FOR_STATUS fldFOR_STATUS_CATCHUP = false ∧ s.fld (FOR_ACT_STATE 0) fldFOR_ACT_STATE_DEFERRED = 0 ∧
       put.test FOR_STATUS fldFOR_STATUS_CATCHUP = true ∧ put.test (FOR_ACT 0) fldFOR_ACT_DEFER = true ∧
       put.fld (FOR_ACT_STATE 0) fldFOR_ACT_STATE_DEFERRED + 1 < put.fld (FOR_ACT 0) fldFOR_ACT_MAXDEFER ∧
       last.fld (FOR_ACT_STATE 0) fldFOR_ACT_STATE_DEFERRED + 1 = last.fld (FOR_ACT 0) fldFOR_ACT_MAXDEFER ∧
       postRefused (s.setReg FOR_CAD_POST (Tests.postWord 63 1)) (Tests.postWord 63 1).toNat = false) ∧
    (let run := fun (k : Fin 4) => ({ Tests.on with forr := { Tests.on.forr with acts := Tests.on.forr.acts.set k { (Tests.on.forr.acts.get k) with running := true } } } : State)
     let one : State := { run 0 with ring := { (run 0).ring with opened := 1 } }
     ((run 1).forr.acts.get 1).running = true ∧ (1 : Fin 4) ≠ 0 ∧ ((run 0).forr.acts.get 0).running = true ∧
       (run 0).ring.opened - ((run 0).forr.acts.get 0).opened0 ≤ openedSince (run 0) ((run 0).forr.acts.get 0).ring0 ∧
       ¬ one.ring.opened - (one.forr.acts.get 0).opened0 ≤ openedSince one (one.forr.acts.get 0).ring0) ∧
    (Tests.on.forr.acts.get 0).running = false := by
  and_intros <;> decide +kernel

/-- Rail 0 in a state, and master 0 with a frame of it awaiting its response. -/
def Tests.rail (r : RailSt) (f : AvsFrame) (tries : Nat) : State :=
  { Tests.on with pwr := { Tests.on.pwr with avs := Vector.replicate 2 { queue := [], prev := some f, tries := tries }, rails := Vector.replicate 5 r } }

/-- Frames in each answer, rails that acknowledge and time out with and without changes waiting, clocks down and up, Rest, trips, and plans in
and out of date. -/
theorem Tests.witness_PowerRailsAndAgeing :
    (let s : State := { Tests.on with modu := { Tests.on.modu with poresetLow := true } }
     s.modu.poresetLow = true ∧ s.still = true ∧ Tests.on.still = false ∧ Tests.on.modu.poresetLow = false) ∧
    (Tests.on.pwr.avs.get 0).prev = none ∧ railMaster 0 = 0 ∧ wtOn Tests.on = false ∧
    (let s := Tests.rail { await := true, isRaise := true, vdone := true, timeouts := 1, fails := 3, caps := [], jobs := [] } { rail := 0, cmd := .status } 3
     (s.pwr.avs.get 0).prev = some ⟨0, .status⟩ ∧ (s.pwr.avs.get 0).tries = 3 ∧ (railOf s 0).await = true ∧ (s.pwr.rails.get 0).vdone = true ∧
       (s.pwr.rails.get 0).timeouts ≠ 0 ∧ (s.pwr.rails.get 0).isRaise = true ∧ (s.pwr.rails.get 0).fails + 1 = 4 ∧ (s.pwr.rails.get 0).jobs = [] ∧
       (Tests.rail (s.pwr.rails.get 0) ⟨4, .target 700⟩ 2).pwr.avs.get 0 = ⟨[], some ⟨4, .target 700⟩, 2⟩ ∧ railNeed s 0 = s.fld (PWR_RAIL 0) fldPWR_RAIL_TARGET ∧
       railNeed (s.setFld (PWR_RAIL 0) fldPWR_RAIL_TARGET 700) 0 ≠ (s.setFld (PWR_RAIL 0) fldPWR_RAIL_TARGET 700).fld (PWR_RAIL 0) fldPWR_RAIL_TARGET) ∧
    (let j : RailJob := { isRaise := true, cores := [(0, 24)], sent := false, ready := false }
     let s := (Tests.rail { await := true, isRaise := true, vdone := true, timeouts := 1, fails := 3, caps := [], jobs := [j] } ⟨0, .status⟩ 0).setFld
       (PWR_CORE 0) fldPWR_CORE_FREQ 6
     let s := (s.setFld (AGE_VTAB 0 18) fldAGE_VTAB_V 800).setFld (PWR_RAIL 0) fldPWR_RAIL_TARGET 0
     (s.pwr.rails.get 0).jobs = [j] ∧ j.ready = false ∧ jobDone s j = false ∧
       (j.isRaise = true ∧ j.sent = false ∧ s.fld (PWR_RAIL 0) fldPWR_RAIL_TARGET < railNeed s 0) ∧
       ¬ (s.setFld (PWR_RAIL 0) fldPWR_RAIL_TARGET 1200).fld (PWR_RAIL 0) fldPWR_RAIL_TARGET < railNeed (s.setFld (PWR_RAIL 0) fldPWR_RAIL_TARGET 1200) 0) ∧
    (let up : RailJob := { isRaise := true, cores := [(0, 24)], sent := true, ready := false }
     let down : RailJob := { isRaise := false, cores := [(0, 6)], sent := true, ready := false }
     let s := Tests.rail { await := true, isRaise := true, vdone := false, timeouts := 1, fails := 0, caps := [], jobs := [up, down] } ⟨0, .status⟩ 0
     (s.pwr.rails.get 0).jobs = [up, down] ∧ up.isRaise = true ∧ up.sent = true ∧ up.ready = false ∧ down.isRaise = false ∧ down.ready = false ∧
       jobDone s down = false ∧ (Tests.rail { (s.pwr.rails.get 0) with timeouts := 0 } ⟨0, .status⟩ 0).pwr.rails.get 0 = { (s.pwr.rails.get 0) with timeouts := 0 }) ∧
    (Tests.on.pwr.rails.get 0).await = false ∧ coreFreq Tests.on 0 = 24 ∧ (railOf Tests.on (quadOf Tests.on 0)).jobs.head? = none ∧
    (let front := fun (b : Bool) (g : Nat) => Tests.rail { await := false, isRaise := false, vdone := false, timeouts := 0, fails := 0, caps := [],
                                                           jobs := [⟨b, [(0, g)], true, true⟩] } ⟨0, .status⟩ 0
     let low := (front true 24).setFld (PWR_CORE 0) fldPWR_CORE_FREQ 6
     (railOf (front false 6) (quadOf (front false 6) 0)).jobs.head? = some ⟨false, [(0, 6)], true, true⟩ ∧
       min 6 (lockCap (front false 6) 0) < coreFreq (front false 6) 0 ∧ min 24 (lockCap (front true 24) 0) = coreFreq (front true 24) 0 ∧
       min 6 (lockCap (front true 6) 0) < coreFreq (front true 6) 0 ∧
       (railOf low (quadOf low 0)).jobs.head? = some ⟨true, [(0, 24)], true, true⟩ ∧ coreFreq low 0 < min 24 (lockCap low 0)) ∧
    (let s := Tests.on.setBit (FOR_CORE 1) fldFOR_CORE_EN false
     (∀ d, s.pwr.restGroup.get d = s.pwr.restGroup.get 1 → isStopped s d = true ∧ s.test (FOR_CORE d) fldFOR_CORE_EN = false ∧ coreDomain s d ≠ 4) ∧
       ∀ d, s.pwr.restGroup.get d = s.pwr.restGroup.get 1 → (s.core d).mbuf = []) ∧
    isStopped Tests.on 0 = false ∧ (1839 : Nat) < 1840 ∧ Tests.on.wdn.measuring = false ∧ ageBusy Tests.on = false ∧
    { Tests.on.wdn with measuring := true }.measuring = true ∧ ageBusy (Tests.on.setBit AGE_STATUS fldAGE_STATUS_BUSY true) = true ∧
    Tests.on.fld AGE_HOURS fldAGE_HOURS_LASTPLAN + Tests.on.fld AGE_CFG fldAGE_CFG_PERIOD < 2 ^ 32 ∧ (∀ d e : CoreId, physOf Tests.on d = physOf Tests.on e → d = e) := by
  and_intros <;> decide +kernel

/-- The device states, wakes, pins and rings that the clauses name, and a boot at which no chip answers. -/
theorem Tests.witness_ResetsAndDeviceStates :
    (Tests.boot.sfdpA = false ∧ Tests.boot.sfdpB = false) ∧ { Tests.on.modu with poresetLow := true }.poresetLow = true ∧
    Tests.on.modu.poresetLow = false ∧ Tests.on.pwr.thermtrip = false ∧ { Tests.on.pwr with thermtrip := true }.thermtrip = true ∧
    newerState (Tests.ring 5) = 5 ∧ olderState (Tests.ring 5) = 0 ∧ channelsDrained Tests.on = true ∧
    channelsDrained { Tests.on with ride := { Tests.on.ride with outbox := [Tests.pkt] } } = false ∧
    (let s := Tests.on.setFld PWR_STATE fldPWR_STATE_STATE 1
     devState s = 1 ∧ channelsDrained s = true ∧ s.pwr.thermtrip = false ∧ Canonical s) ∧ devState (Tests.on.setFld PWR_STATE fldPWR_STATE_STATE 2) = 2 ∧
    devState (Tests.on.setFld PWR_STATE fldPWR_STATE_STATE 4) = 4 ∧ devState Tests.on = 0 ∧
    wakeEnabled (Tests.on.setFld PWR_WAKE_EN fldPWR_WAKE_EN_EN 1) 3 = true ∧ wakeEnabled Tests.on 2 = false ∧ portsSettled Tests.on = true ∧
    portsSettled (Tests.on.setFld (RIDE_PORT_STATUS 35) fldRIDE_PORT_STATUS_STATE 1) = false ∧
    devState (Tests.on.setFld PWR_STATE fldPWR_STATE_STATE 3) = 3 ∧ Canonical (Tests.ring 5) ∧
    (let s := (Tests.on.setFld PWR_STATE fldPWR_STATE_STATE 5).setFld WDN_BOOT fldWDN_BOOT_STEP 7
     devState s = 5 ∧ s.fld WDN_BOOT fldWDN_BOOT_STEP = 7 ∧ portsSettled s = true ∧ s.pwr.thermtrip = false) := by
  and_intros <;> decide +kernel

/-- A management frame that asks a command with arguments, its buffer of 1024 bytes. -/
def Tests.mgmt (cmd : Nat) (args data : List Byte) : MgmtFrame :=
  { mac := 1, etype := 0x88B5, block := bytesOfNat 2 cmd ++ List.replicate 22 0 ++ bytesOfNat 4 1024 ++ List.replicate 4 0 ++ (args ++ List.replicate 32 0).take 32,
    data := data }

/-- The Warden at step 8 with that frame at the head of its queue. -/
def Tests.asked (f : MgmtFrame) : State :=
  let s := Tests.on.setFld WDN_BOOT fldWDN_BOOT_STEP 8
  { s with wdn := { s.wdn with mbox := [.frame f], linkUp := true } }

/-- The request it spells. -/
def Tests.ask (f : MgmtFrame) : Req := reqOf (.frame f) f.block

theorem Tests.asks (f : MgmtFrame) (cmd : Nat) (h : mboxServes (Tests.asked f) = true ∧ f.block.length = 64 ∧ (Tests.ask f).cmd = cmd ∧
    reqWaits (Tests.asked f) (Tests.ask f) = false ∧ (Tests.asked f).test WDN_BOOT fldWDN_BOOT_RECOVERY = false) : Asks (Tests.asked f) cmd (Tests.ask f) :=
  ⟨h.1, ⟨.frame f, [], rfl, by simp only [readReq, Tests.ask]; rw [List.take_append_of_le_length (by omega), List.take_of_length_le (by omega)], rfl,
    h.2.2.2.1⟩, h.2.2.1, .inl h.2.2.2.2⟩

/-- Each command asked; an input of none, of 63, 64, 383 and 384 bytes; certificates 1 and 2; the states of the key and the floor. Where an
argument lies is not given (assumption 19), so its values are those of every request: a chip's number is below 2 or is not. -/
theorem Tests.witness_MailboxAnswers :
    (∀ cmd ∈ [1, 2, 3, 0xA, 0xB, 0xC, 0xD, 0xE, 0xF, 0x10, 0x11, 0x12],
      Asks (Tests.asked (Tests.mgmt cmd [] [])) cmd (Tests.ask (Tests.mgmt cmd [] [])) ∧
        outputOk (Tests.asked (Tests.mgmt cmd [] [])) (Tests.ask (Tests.mgmt cmd [] [])) = true) ∧
    (mboxServes Tests.on = false ∨ Tests.on.wdn.mbox = []) ∧
    at' (Tests.ask (Tests.mgmt 3 [1] [])).args 0 1 ≤ 1 ∧ 1 < at' (Tests.ask (Tests.mgmt 3 [2] [])).args 0 1 ∧
    ((reqInput Tests.on (Tests.ask (Tests.mgmt 0x11 [] (List.replicate 63 0)))).2.map List.length = some 63) ∧
    ((reqInput Tests.on (Tests.ask (Tests.mgmt 0x11 [] (List.replicate 64 0)))).2.map List.length = some 64) ∧
    ((reqInput Tests.on (Tests.ask (Tests.mgmt 0xE [] (List.replicate 383 0)))).2.map List.length = some 383) ∧
    ((reqInput Tests.on (Tests.ask (Tests.mgmt 0xE [] (List.replicate 384 0)))).2.map List.length = some 384) ∧
    svcFull Tests.on = true ∧ svcFull (Tests.on.setReg WDN_SVCQ_BASE 1) = false ∧ Tests.on.nv.okey.any (· != 0) = false ∧
    ([0, 1] : List Byte).any (· != 0) = true ∧ Tests.on.fld WDN_SVN fldWDN_SVN_SVN ≤ Tests.on.nv.floor ∧
    Tests.on.nv.floor < (Tests.on.setFld WDN_SVN fldWDN_SVN_SVN 1).fld WDN_SVN fldWDN_SVN_SVN ∧ bootedChip Tests.on 0 = true ∧ bootedChip Tests.on 1 = false ∧
    ∀ a : Nat, 2 ≤ a ∨ ∃ chip : Fin 2, a = chip.val := by
  refine ⟨fun cmd h => ?_, ?_⟩
  · simp only [List.mem_cons, List.not_mem_nil, or_false] at h
    rcases h with rfl | rfl | rfl | rfl | rfl | rfl | rfl | rfl | rfl | rfl | rfl | rfl <;> exact ⟨Tests.asks _ _ (by decide +kernel), rfl⟩
  · and_intros <;> first
      | exact fun a => (lt_or_ge a 2).elim (fun h => .inr ⟨⟨a, h⟩, rfl⟩) .inl
      | decide +kernel

/-- A request of a block in a bank whose buffer is nowhere. -/
theorem Tests.witness_MailboxAnswers_block :
    (let b : List Byte := bytesOfNat 8 1 ++ bytesOfNat 8 0 ++ bytesOfNat 8 0xDFFFFFFFFC0 ++ bytesOfNat 4 64
     let s := Tests.on.setFld WDN_BOOT fldWDN_BOOT_STEP 8
     let s : State := { s with wdn := { s.wdn with mbox := [.block 0xE0000000000] }, mem := { s.mem with bank := writeBytes zeroByte [] 0 b } }
     mboxServes s = true ∧ (readReq s (.block 0xE0000000000)).map (fun r => (r.cmd, outputOk s r, (reqInput s r).2, reqWaits s r)) = some (1, false, none, false) ∧
       blockWaits s (.block 0xE0000000000) = false ∧ s.test WDN_BOOT fldWDN_BOOT_RECOVERY = false) := by decide +kernel

/-- A launch that waits for drain. -/
def Tests.launch : Launch := { image := [], since := 0, core := some 0, members := none }

/-- Each command asked; masks of every core and of one too many; rings shut and open; a launch drained and not. -/
theorem Tests.witness_LaunchesAndMailboxControl :
    (∀ cmd ∈ [4, 5, 6, 7, 8, 9], Asks (Tests.asked (Tests.mgmt cmd [] [])) cmd (Tests.ask (Tests.mgmt cmd [] []))) ∧
    at' (Tests.ask (Tests.mgmt 5 (bytesOfNat 8 (2 ^ 48)) [])).args 0 8 = 2 ^ 48 ∧ at' (Tests.ask (Tests.mgmt 5 (bytesOfNat 8 (2 ^ 48 - 1)) [])).args 0 8 = 2 ^ 48 - 1 ∧
    at' (Tests.ask (Tests.mgmt 6 [1] [])).args 0 8 = 1 ∧ isStopped Tests.on 0 = false ∧ isStopped State.reset 47 = true ∧
    newerState Tests.on = 0 ∧ olderState Tests.on = 0 ∧ Tests.on.wdn.launch = none ∧ devState Tests.on = 0 ∧ newerState (Tests.ring 1) = 1 ∧
    devState (Tests.on.setFld PWR_STATE fldPWR_STATE_STATE 2) = 2 ∧
    (let s := Tests.on.setBit WDN_BOOT fldWDN_BOOT_RECOVERY true
     s.test WDN_BOOT fldWDN_BOOT_RECOVERY = true ∧ s.wdn.linkUp = false) ∧ Tests.on.test WDN_BOOT fldWDN_BOOT_RECOVERY = false ∧
    ((12 : Word).toNat % 16 < 13 ∧ 13 ≤ (13 : Word).toNat % 16) ∧
    (let s : State := { State.reset with wdn := { State.reset.wdn with launch := some Tests.launch } }
     s.wdn.launch = some Tests.launch ∧ drained s = true ∧ s.ll = []) ∧
    (let s : State := { Tests.on with wdn := { Tests.on.wdn with launch := some Tests.launch } }
     s.wdn.launch = some Tests.launch ∧ drained s = false ∧ Tests.launch.core = some 0) := by
  refine ⟨fun cmd h => ?_, ?_⟩
  · simp only [List.mem_cons, List.not_mem_nil, or_false] at h
    rcases h with rfl | rfl | rfl | rfl | rfl | rfl <;> exact Tests.asks _ _ (by decide +kernel)
  · and_intros <;> decide +kernel

/-- A repeated correctable error inside its window and one at its end, a full log, the policy on and off, a held packet, pins and sensors. -/
theorem Tests.witness_FaultsAndModule : (let s := Tests.on.setFld FLT_CFG fldFLT_CFG_CEWIN 1
     let s : State := { s with flt := { s.flt with windows := [(1, 0, 0, 0)] } }
     ∃ w ∈ s.flt.windows, w.1 = 1 ∧ w.2.1 = 0 ∧ w.2.2.1 = 0 ∧ refTime s < w.2.2.2 + s.fld FLT_CFG fldFLT_CFG_CEWIN * 100000) ∧
    (let s := (Tests.on.setFld FLT_CFG fldFLT_CFG_CEWIN 1).setReg (CORE_REFTIME 0) 100000
     ¬ refTime s < 0 + s.fld FLT_CFG fldFLT_CFG_CEWIN * 100000) ∧
    512 ≤ (List.replicate 512 Tests.rec).length ∧ bitOf { Tests.rec with flags := 1 }.flags 0 = true ∧
    Tests.on.fld FLT_ROUTE fldFLT_ROUTE_MINSEV ≤ 3 ∧ Tests.on.fld FLT_ROUTE fldFLT_ROUTE_CORE = 0 ∧ { Tests.rec with cls := 11 }.sub < 16 ∧
    ({ Tests.rec with cls := 2 }.kind = 0 ∧ { Tests.rec with cls := 2 }.unit = 0 ∧ 1 ≤ { Tests.rec with cls := 2 }.sev) ∧
    Tests.on.still = false ∧ Tests.on.fld (PWR_CORE 0) fldPWR_CORE_STATE < 3 ∧ { Tests.on.modu with poresetLow := true }.poresetLow = true ∧
    (let l : L1Line := { line := 8, sectors := 15, cls := 0 }
     ∃ e ∈ ((Tests.on.modCore 0 fun k => { k with l1 := [l] }).core 0).l1, e.line = lineOf 1024) ∧
    (let s : State := { Tests.ring 1 with mem := { (Tests.ring 1).mem with sapNew := { Sap.empty with gran := [0] } } }
     granule 64 ∈ (sapOf s .newer).gran) ∧
    (let x : AccVer := { sub := 63, gran := 2, bytes := [], bad := [] }
     x.sub = 63 ∧ x.gran = granule 0x20000) ∧
    (regionOf Tests.on 0xE0000000000 = some (.bank 0) ∧ regionOf Tests.on 0xE1000002000 = some (.array 0 0x2000) ∧ regionOf Tests.on 0 = some .stack) ∧
    Tests.on.test CAN_POLICY fldCAN_POLICY_WINDTHROW = false ∧
    (Tests.on.setBit CAN_POLICY fldCAN_POLICY_WINDTHROW true).test CAN_POLICY fldCAN_POLICY_WINDTHROW = true ∧ Tests.on.flt.held[0]? = none ∧
    { Tests.on.flt with held := [(Tests.pkt, 0)] }.held[0]? = some (Tests.pkt, 0) ∧ (12 : Fin 16).val = 12 ∧ (11 : Fin 16).val < 12 ∧
    Tests.on.modu.poresetLow = false ∧ Tests.on.modu.sensors = [] ∧ { Tests.on.modu with sensors := [(0, 500), (1, 600)] }.sensors ≠ [] := by
  and_intros <;> decide +kernel

/-- An offset that is no register, a word that is not aligned, Windthrow's registers closed, a plain row, FOR_BUDGET, and a blaze's registers. -/
theorem Tests.witness_RegisterWrites : (4 : Nat) % 8 ≠ 0 ∧ (0xF0001000FF8 % 8 = 0 ∧ Tests.on.modu.poresetLow = false ∧ (Tests.on.core (coreOf 0)).mbuf = [] ∧
      (Tests.on.core (coreOf 0)).vecQ = [] ∧ storesWait Tests.on (coreOf 0) = false) ∧ Tests.on.still = false ∧
    (unalias 0 0xE0000000000 = 0xE0000000000 ∧ (regionOf Tests.on 0xE0000000000).map Region.plain = some true) ∧
    (unalias 0 0xF0001000FF8 = 0xF0001000FF8 ∧ regionOf Tests.on 0xF0001000FF8 = some .ctrl ∧ regRowAt 0xF0001000FF8 = none) ∧
    (regionOf Tests.on WT_CTRL = some .ctrl ∧ inWt WT_CTRL = true ∧ Tests.on.test CAN_POLICY fldCAN_POLICY_WINDTHROW = false) ∧
    (let b := CORE_RSP 0
     regionOf Tests.on b = some .ctrl ∧ inWt b = false ∧ CORE_ID 0 ≤ b ∧ b < CORE_ID 48 ∧ (regRowAt b).map (fun r => r.flds.map RegFld.acc) = some [.rw] ∧
       (regRowAt b).map (fun r => (coreRegWrite Tests.on 0 r b 0).isNone) = some true) ∧
    regionOf Tests.on FOR_BUDGET = some .ctrl ∧ regionOf Tests.on (blazeBase + 64 * 16383 + 0x10) = some .blaze ∧
    regionOf Tests.on (blazeBase + 64 * 16383 + 0x18) = some .blaze := by decide +kernel


/-! ### The link layer, machine checks and cuts -/

/-- Table 12.10: the headers of the trailer PUT and of the SIGNAL, little-endian. -/
theorem test_packet_headers :
    (let put : Packet := { op := 2, resp := false, seq := false, cls := 0, stamp := false, mirror := false, retx := false, new := false, src := 1535,
                           dst := 0, psn := 0x12C00, addr := 0x40018000, arg := 0, status := 0, tag := 100000, rsv := false, data := List.replicate 64 7 }
     headerBytes put = [2, 0, 3, 0, 0xFF, 5, 0, 0, 0, 0, 0, 0, 0, 0x2C, 1, 0, 0, 0x80, 1, 0x40, 0, 0, 0, 0, 0xA0, 0x86, 1, 0, 0, 0, 0, 0] ∧
     headerBytes { put with op := 6, seq := true, psn := 0x12C01, addr := 0xF01000005C0, data := 1 :: List.replicate 31 0 } =
       [6, 2, 2, 0, 0xFF, 5, 0, 0, 0, 0, 0, 0, 1, 0x2C, 1, 0, 0xC0, 5, 0, 0, 1, 0x0F, 0, 0, 0xA0, 0x86, 1, 0, 0, 0, 0, 0]) := by decide +kernel

/-- The rows of the encoder are the shifts of the generator polynomial: the product of x + α^j, j from 0 to 29. -/
theorem test_rs_generator : rsRows = (upFrom 0 10).map (fun i => packSyms ((rsGenerator.take 30).map (gfMul (2 ^ i)))) ∧
    rsGenerator.getLast? = some 1 ∧ gfAlpha 1023 = 1 := by decide +kernel

/-- R308: a lane with three wrong symbols is corrected, and they are counted on that lane. -/
theorem test_fec_corrects :
    (let f := flitWords (Tests.idle 0)
     rxFlit { f with w1 := f.w1 ^^^ (1 ||| (0x3FF <<< 2000) ||| (5 <<< 5430)) } = ⟨some (flitBytes (Tests.idle 0)), [0, 3, 0, 0]⟩) := by decide +kernel

/-- R28, R46: a word with a reserved opcode at the PC takes ILLEGAL, vector 4, before a pending interrupt. -/
theorem test_reserved_opcode :
    Tests.after (.takeInterrupt ⟨0, some 0x7C000000⟩)
      ((((Tests.on.setReg (CORE_STATUS 0) 9).setReg (CORE_IPEND 0) 0x10000).setReg (CORE_IEN 0) 0x10000).setReg (CORE_RSP 0) 0xE1000500000)
      (fun t => t.fld (CORE_CAUSE 0) fldCORE_CAUSE_VECTOR == 4 && t.fld (CORE_CAUSE 0) fldCORE_CAUSE_INSTR == 0x7C000000 && (t.core 0).pc == 0xE1000000080) = true := by
  decide +kernel

/-- R119, R36: an instruction that reads an uncorrectable word of a vector register raises MACHINE_CHECK, vector 1; a core whose
STATUS.RSV is set stops with reason 2 instead of entering. -/
theorem test_machine_check :
    Tests.after (.vadd 0 ⟨3, 1, 2, false, 0, 2, false, none⟩) ((Tests.on.setBit (CORE_STATUS 0) fldCORE_STATUS_RSV true).modCore 0 fun k => { k with bad := [.vec 1 0] })
      (fun t => t.fld (CORE_STOPINFO 0) fldCORE_STOPINFO_VECTOR2 == 1 && t.fld (CORE_STOPINFO 0) fldCORE_STOPINFO_REASON == 2) = true := by decide +kernel

/-- R131: cut at its first beat boundary, an instruction of 32-bit elements has done 32, and VPROG.DONE is 32 at the interrupt. -/
theorem test_vector_cut :
    Tests.after (.vadd 0 ⟨3, 1, 1, false, 0, 2, false, some 1⟩)
      (((((Tests.on.setReg (CORE_STATUS 0) 9).setReg (CORE_IPEND 0) 0x10000).setReg (CORE_IEN 0) 0x10000).setReg (VEC_VL 0) 256).modCore 0
        fun k => k.setV 1 (BitVec.allOnes 8192))
      (fun t => t.fld (VEC_VPROG 0) fldVEC_VPROG_DONE == 32 && (t.core 0).pc == 0xE1000001000 && elemV ((t.core 0).getV 3) 32 31 == 0xFFFFFFFE &&
        elemV ((t.core 0).getV 3) 32 32 == 0) = true := by decide +kernel

end
end

section
/-! SUPPORT. The canonical form, kept by every function of the model from the registers to the instruction at a boundary. One lemma per
function, named after it, in the order of the definitions: `Canonical.f` says that what `f` answers is canonical where its state is, and
`Goes.execF` that a command goes on to such a state. Each proof follows the branches of its function. -/
namespace Sys2Proof.Machine
open Host
set_option Elab.async false

/-! ### The canonical form of a state, kept -/

/-- An engine whose active descriptors have no number that is still to be given out. -/
def XEng.Numbered (x : XEng) : Prop := ∀ d ∈ x.active, d.id ≤ x.nextReq

/-- A state with the registers, the bytes and the engines of a canonical one is canonical. -/
theorem Canonical.frame {s t : State} (h : Canonical s) (hr : t.regs = s.regs := by rfl)
    (hm : SameBytes t.mem s.mem := by exact ⟨rfl, rfl, rfl, rfl, rfl, rfl, rfl, rfl, rfl⟩) (hx : t.xfer = s.xfer := by rfl) : Canonical t := by
  obtain ⟨regs, mem, eng⟩ := h
  exact ⟨hr ▸ regs, hm.wf mem, hx ▸ eng⟩

protected theorem Canonical.setReg {s a w} (h : Canonical s) : Canonical (State.setReg s a w) :=
  ⟨mapWf_mapPut _ _ _ _ h.1, h.2⟩

/-- Registers that are dropped read as after reset. -/
theorem Canonical.filterRegs {s t : State} {p : Nat × Word → Bool} (h : Canonical s) (hr : t.regs = s.regs.filter p := by rfl)
    (hm : SameBytes t.mem s.mem := by exact ⟨rfl, rfl, rfl, rfl, rfl, rfl, rfl, rfl, rfl⟩) (hx : t.xfer = s.xfer := by rfl) : Canonical t :=
  Canonical.frame (s := { s with regs := s.regs.filter p }) ⟨mapWf_filter _ _ _ h.1, h.2⟩ hr hm hx

theorem Canonical.memWf {s : State} (h : Canonical s) : Memory.wf s.mem = true := h.2.1

/-- A change of memory that keeps its canonical form. -/
theorem Canonical.mapMem {s : State} {f : Mem → Mem} (h : Canonical s) (hf : Memory.wf s.mem = true → Memory.wf (f s.mem) = true) :
    Canonical (s.modMem f) := ⟨h.1, hf h.memWf, h.2.2⟩

/-- A change of memory that touches no byte. -/
protected theorem Canonical.modMem {s : State} {f : Mem → Mem} (h : Canonical s)
    (hf : SameBytes (f s.mem) s.mem := by exact ⟨rfl, rfl, rfl, rfl, rfl, rfl, rfl, rfl, rfl⟩) : Canonical (s.modMem f) :=
  h.mapMem hf.wf

/-- A change of an engine that gives out no number twice. -/
protected theorem Canonical.modEng {s : State} {e : Fin 16} {f : XEng → XEng} (h : Canonical s)
    (hf : (s.xfer.get e).Numbered → (f (s.xfer.get e)).Numbered := by exact id) : Canonical (s.modEng e f) := by
  obtain ⟨regs, mem, eng⟩ := h
  refine ⟨regs, mem, fun k => ?_⟩
  show XEng.Numbered ((s.xfer.set e (f (s.xfer.get e)))[k.val])
  rw [Vector.getElem_set]
  split
  · exact hf (eng e)
  · exact eng k

/-! ### Fields that the canonical form does not speak of -/

theorem Canonical.withCores {s x} (h : Canonical s) : Canonical { s with cores := x } := h
theorem Canonical.withRing {s x} (h : Canonical s) : Canonical { s with ring := x } := h
theorem Canonical.withRide {s x} (h : Canonical s) : Canonical { s with ride := x } := h
theorem Canonical.withForr {s x} (h : Canonical s) : Canonical { s with forr := x } := h
theorem Canonical.withPwr {s x} (h : Canonical s) : Canonical { s with pwr := x } := h
theorem Canonical.withNv {s x} (h : Canonical s) : Canonical { s with nv := x } := h
theorem Canonical.withWdn {s x} (h : Canonical s) : Canonical { s with wdn := x } := h
theorem Canonical.withModu {s x} (h : Canonical s) : Canonical { s with modu := x } := h
theorem Canonical.withFlt {s x} (h : Canonical s) : Canonical { s with flt := x } := h
theorem Canonical.withFreeCtr {s x} (h : Canonical s) : Canonical { s with freeCtr := x } := h
theorem Canonical.withEntropy {s x} (h : Canonical s) : Canonical { s with entropy := x } := h
theorem Canonical.withLl {s x} (h : Canonical s) : Canonical { s with ll := x } := h

/-! ### Control flow -/

protected theorem Canonical.ite {c : Prop} [Decidable c] {s t : State} (h : Canonical s) (ht : Canonical t) : Canonical (if c then s else t) := by
  split <;> assumption

protected theorem Canonical.iteFst {β : Type} {c : Prop} [Decidable c] {p q : State × β} (h : Canonical p.1) (hq : Canonical q.1) :
    Canonical (if c then p else q).1 := by
  split <;> assumption

theorem Canonical.iteOpt {c : Prop} [Decidable c] {o q : Option State} (h : ∀ t ∈ o, Canonical t) (hq : ∀ t ∈ q, Canonical t) :
    ∀ t ∈ (if c then o else q), Canonical t := by
  split <;> assumption

theorem Canonical.some {s : State} (h : Canonical s) : ∀ t ∈ Option.some s, Canonical t :=
  fun _ e => Option.mem_some.1 e ▸ h

theorem Canonical.none : ∀ t ∈ (Option.none : Option State), Canonical t := fun _ e => absurd e (Option.not_mem_none _)

theorem Canonical.someSnd {β : Type} {p : β × State} (h : Canonical p.2) : ∀ q ∈ Option.some p, Canonical q.2 :=
  fun _ e => Option.mem_some.1 e ▸ h

theorem Canonical.someFst {β : Type} {p : State × β} (h : Canonical p.1) : ∀ q ∈ Option.some p, Canonical q.1 :=
  fun _ e => Option.mem_some.1 e ▸ h

theorem Canonical.noneFst {β : Type} : ∀ q ∈ (Option.none : Option (State × β)), Canonical q.1 :=
  fun _ e => absurd e (Option.not_mem_none _)

theorem Canonical.noneSnd {β : Type} : ∀ q ∈ (Option.none : Option (β × State)), Canonical q.2 :=
  fun _ e => absurd e (Option.not_mem_none _)

/-- A change made on a condition. -/
theorem Canonical.when {c : Prop} [Decidable c] {s t : State} (h : Canonical s) (ht : Canonical s → Canonical t) :
    Canonical (if c then t else s) := .ite (ht h) h

protected theorem Canonical.foldl {α : Type} {l : List α} {f : State → α → State} {s : State} (h : Canonical s)
    (hf : ∀ s x, Canonical s → Canonical (f s x)) : Canonical (l.foldl f s) := by
  induction l generalizing s with
  | nil => exact h
  | cons x l ih => exact ih (hf s x h)

/-- A fold whose accumulator holds more than the state. -/
theorem Canonical.foldlFst {α β : Type} {l : List α} {f : State × β → α → State × β} {p : State × β} (h : Canonical p.1)
    (hf : ∀ p x, Canonical p.1 → Canonical (f p x).1) : Canonical (l.foldl f p).1 := by
  induction l generalizing p with
  | nil => exact h
  | cons x l ih => exact ih (hf p x h)

theorem Canonical.iter {n : Nat} {f : State → State} {s : State} (h : Canonical s) (hf : ∀ s, Canonical s → Canonical (f s)) :
    Canonical (Nat.repeat f n s) := by
  induction n with
  | zero => exact h
  | succ n ih => exact hf _ ih

theorem Canonical.ok {ε : Type} {s : State} (h : Canonical s) : ∀ t, (Except.ok s : Except ε State) = .ok t → Canonical t :=
  fun _ e => Except.ok.inj e ▸ h

theorem Canonical.error {ε : Type} {x : ε} : ∀ t, (Except.error x : Except ε State) = .ok t → Canonical t := fun _ e => nomatch e

theorem Canonical.pair {β : Type} {s : State} {b : β} (h : Canonical s) : Canonical (s, b).1 := h

/-- The state of an answer, where the answer is known. -/
theorem Canonical.fst {β : Type} {p : State × β} {t : State} {b : β} (h : Canonical p.1) (e : p = (t, b)) : Canonical t := by
  subst e; exact h

/-! ### What an instruction or a command answers -/

/-- The state an instruction's meaning answers, if any, is canonical. -/
def IRes.Keeps : IRes → Prop
  | .done s | .jump s _ | .halt s | .trap s _ _ _ _ => Canonical s
  | .wait => True

/-- The state a scalar access answers, if any, is canonical. -/
def MRes.Keeps : MRes → Prop
  | .ok s _ => Canonical s
  | .stop r => r.Keeps

theorem IRes.Keeps.ite {c : Prop} [Decidable c] {r q : IRes} (h : r.Keeps) (hq : q.Keeps) : (if c then r else q).Keeps := by
  split <;> assumption

theorem MRes.Keeps.ok {r : MRes} {s : State} {bs : List Byte} (h : r.Keeps) (e : r = .ok s bs) : Canonical s := by subst e; exact h

theorem MRes.Keeps.stop {r : MRes} {q : IRes} (h : r.Keeps) (e : r = .stop q) : q.Keeps := by subst e; exact h

/-- A command goes on, to a state that is canonical where the present one is. -/
def Goes (s : State) (o : Outcome State Fault Refusal) : Prop := ∃ t, o = next s t ∧ (Canonical s → Canonical t)

theorem Goes.next {s t : State} (h : Canonical s → Canonical t) : Goes s (next s t) := ⟨t, rfl, h⟩

/-- The state a request's service answers, if any, is canonical. -/
def Served.Keeps : Served → Prop
  | .done s _ _ | .wait s => Canonical s
  | .hold => True

theorem Served.Keeps.done {r : Served} {s : State} {n : Nat} {bs : List Byte} (h : r.Keeps) (e : r = .done s n bs) : Canonical s := by
  subst e; exact h

theorem Served.Keeps.wait {r : Served} {s : State} (h : r.Keeps) (e : r = .wait s) : Canonical s := by subst e; exact h

theorem mapRising_mapErase {α : Type} (m : NMap α) (a : Nat) (h : mapRising m = true) : mapRising (mapErase m a) = true := by
  induction m with
  | nil => rfl
  | cons e m ih =>
    obtain ⟨k, v⟩ := e
    obtain ⟨hk, hm⟩ := (mapRising_cons k v m).1 h
    unfold mapErase
    split
    · exact ih hm
    · exact (mapRising_cons k v _).2 ⟨keysAbove_mapErase m a hk, ih hm⟩

/-- Writing every dirty line back keeps the canonical form. -/
theorem flushDirty_wf {m : Mem} (h : Memory.wf m = true) : Memory.wf (flushDirty m) = true := Mem.flush_wf _ _ _ h

/-- An optional next state. -/
theorem Canonical.getD {o : Option State} {s : State} (h : Canonical s) (ho : ∀ t ∈ o, Canonical t) : Canonical (o.getD s) := by
  cases o with
  | none => exact h
  | some t => exact ho t rfl


protected theorem Canonical.setLanes {s c ls} (h : Canonical s) : Canonical (setLanes s c ls) :=
  h.foldl fun _ _ h => h.setReg

protected theorem Canonical.seedRing {s c r} (h : Canonical s) : Canonical (seedRing s c r) :=
  h.when fun h => h.setLanes.setReg

protected theorem Canonical.setFld {s a f v} (h : Canonical s) : Canonical (State.setFld s a f v) :=
  h.setReg

protected theorem Canonical.setBit {s a f b} (h : Canonical s) : Canonical (State.setBit s a f b) :=
  h.setFld

protected theorem Canonical.setCore {s c k} (h : Canonical s) : Canonical (State.setCore s c k) :=
  h.withCores

protected theorem Canonical.modCore {s c f} (h : Canonical s) : Canonical (State.modCore s c f) :=
  h.setCore

protected theorem Canonical.rngApply {s c} (h : Canonical s) : Canonical (rngApply s c) := by
  unfold rngApply
  extract_lets _ s1 s2 s3
  have h1 : Canonical s1 := by unfold s1; split; exacts [h.seedRing, h]
  have h2 : Canonical s2 := by unfold s2; split; exacts [h1.setBit, h1]
  have h3 : Canonical s3 := h2.foldl fun _ _ h => h.setReg
  exact .ite h h3.modCore

protected theorem Canonical.vlApply {s c} (h : Canonical s) : Canonical (vlApply s c) := by
  unfold vlApply
  extract_lets _ s1 s2
  have h1 : Canonical s1 := by unfold s1; split; exacts [h.setReg, h]
  have h2 : Canonical s2 := by unfold s2; split; exacts [h1.setReg, h1]
  exact .ite h h2.modCore

protected theorem Canonical.modeApply {s c} (h : Canonical s) : Canonical (modeApply s c) := by
  unfold modeApply
  split
  exacts [h.setReg.modCore, h]

protected theorem Canonical.wfiCheck {s c} (h : Canonical s) : Canonical (wfiCheck s c) :=
  .ite h.modCore (h.when .modCore)

protected theorem Canonical.timerUpdate {s c} (h : Canonical s) : Canonical (timerUpdate s c) :=
  (h.when .modCore).setReg.wfiCheck

protected theorem Canonical.timerApply {s c} (h : Canonical s) : Canonical (timerApply s c) :=
  h.when .timerUpdate

protected theorem Canonical.boundaryApply {s c} (h : Canonical s) : Canonical (boundaryApply s c) :=
  .ite h h.timerApply.modeApply.vlApply.rngApply

protected theorem Canonical.abandonWait {s c} (h : Canonical s) : Canonical (abandonWait s c) := by
  unfold abandonWait
  split
  exacts [h.withRide, h]

protected theorem Canonical.cutTile {s c t} (h : Canonical s) : Canonical (cutTile s c t) :=
  h.withFreeCtr.modCore

protected theorem Canonical.raiseInt {s c v} (h : Canonical s) : Canonical (raiseInt s c v) :=
  .ite h h.setReg.wfiCheck

protected theorem Canonical.raiseMask {s mask v} (h : Canonical s) : Canonical (raiseMask s mask v) :=
  h.foldl fun _ _ h => h.when .raiseInt

protected theorem Canonical.count {s a n} (h : Canonical s) : Canonical (count s a n) :=
  h.setReg.when .raiseMask

protected theorem Canonical.tileAbandon {s c} (h : Canonical s) : Canonical (tileAbandon s c) := by
  unfold tileAbandon
  split
  · exact h
  extract_lets _ s11 s12 s13 s14
  have h11 : Canonical s11 := h.modCore
  have h12 : Canonical s12 := h11.setReg.setReg
  have h13 : Canonical s13 := h12.foldl fun _ _ h => h.setReg
  have h14 : Canonical s14 := by unfold s14; split; exacts [h13.cutTile, h13]
  exact h14.count

protected theorem Canonical.undoByte {s e} (h : Canonical s) : Canonical (undoByte s e) := by
  refine h.mapMem fun hm => ?_
  obtain ⟨h1, h2, h3, h4, h5, h6⟩ := (Memory.wf_iff _).1 hm
  refine (Memory.wf_iff _).2 ⟨h1, h2, h3, h4, ?_, h6⟩
  dsimp only
  split
  exacts [mapRising_mapInsert _ _ _ h5, mapRising_mapErase _ _ h5]

protected theorem Canonical.restoreVec {s c} (h : Canonical s) : Canonical (restoreVec s c) := by
  unfold restoreVec
  split
  · exact h
  extract_lets s11 s12 s13 s14
  have h11 : Canonical s11 := h.foldl fun _ _ h => h.undoByte
  have h12 : Canonical s12 := h11.modCore
  have h13 : Canonical s13 := h12.foldl fun _ _ h => h.setReg
  have h14 : Canonical s14 := by unfold s14; split; exacts [h13.setLanes, h13]
  exact h14.setFld

protected theorem Canonical.unwind {s c} (h : Canonical s) : Canonical (unwind s c) :=
  h.restoreVec.tileAbandon.abandonWait.when .boundaryApply

protected theorem Canonical.logFault {s r} (h : Canonical s) : Canonical (logFault s r) :=
  .ite h.count (((h.withFlt.count.when .count).when .count).when .raiseInt)

protected theorem Canonical.stopCore {s c reason vector2 sev} (h : Canonical s) : Canonical (stopCore s c reason vector2 sev) := by
  unfold stopCore
  extract_lets s1 _ s2 s3 s4 s5 s6
  have h1 : Canonical s1 := h.restoreVec.tileAbandon.abandonWait
  have h2 : Canonical s2 := h1.setFld
  have h3 : Canonical s3 := h2.setFld
  have h4 : Canonical s4 := h3.setFld
  have h5 : Canonical s5 := h4.setBit
  have h6 : Canonical s6 := h5.modCore
  exact h6.logFault

protected theorem Canonical.free {s} (h : Canonical s) : Canonical (State.free s).2 :=
  h.withFreeCtr

protected theorem Canonical.writePool {s a bs} (h : Canonical s) : Canonical (writePool s a bs) := by
  have hw := writePool_wf s a bs h.memWf
  unfold writePool at hw ⊢
  dsimp only at hw ⊢
  split at hw
  all_goals exact ⟨h.1, hw, h.2.2⟩

protected theorem Canonical.dropCopies {s line} (h : Canonical s) : Canonical (dropCopies s line) :=
  h.withCores

protected theorem Canonical.noteWrite {s a n} (h : Canonical s) : Canonical (noteWrite s a n) :=
  h.modMem.foldl fun _ _ h => h.dropCopies

protected theorem Canonical.setSlice {s n f} (h : Canonical s) : Canonical (setSlice s n f) :=
  h.modMem

protected theorem Canonical.openPage {s a} (h : Canonical s) : Canonical (openPage s a) :=
  h.count.modMem

protected theorem Canonical.sortServe {s r} (h : Canonical s) : Canonical (sortServe s r) :=
  h.openPage.modMem

protected theorem Canonical.sortPush {s r} (h : Canonical s) : Canonical (sortPush s r) := by
  unfold sortPush
  extract_lets _ s1
  have h1 : Canonical s1 := by
    unfold s1
    split
    · split
      exacts [h.sortServe, h]
    · exact h
  exact .ite h h1.modMem

protected theorem Canonical.writeBack {s line} (h : Canonical s) : Canonical (writeBack s line) :=
  Canonical.mapMem (h.foldl fun _ _ h => h.sortPush) (Mem.flush_wf _ _ _)

protected theorem Canonical.l2Evict {s n line} (h : Canonical s) : Canonical (l2Evict s n line) :=
  h.dropCopies.writeBack.setSlice

protected theorem Canonical.l2Install {s n e} (h : Canonical s) : Canonical (l2Install s n e) := by
  unfold l2Install
  extract_lets set same keepMax s1 s2 way
  have h1 : Canonical s1 := by
    unfold s1
    split
    · split
      exacts [h.setSlice, h]
    · exact h
  have h2 : Canonical s2 := by
    unfold s2
    split
    · split
      exacts [h1.l2Evict, h1]
    · exact h1
  clear_value way
  split
  · exact h2
  · exact (h2.when fun h => h.modMem).setSlice

protected theorem Canonical.healStack {s a n} (h : Canonical s) : Canonical (healStack s a n) :=
  h.modMem

protected theorem Canonical.stackAsk {s wr a n} (h : Canonical s) : Canonical (stackAsk s wr a n) :=
  h.foldl fun _ _ h => h.sortPush

protected theorem Canonical.writePlain {s m hint a bs} (h : Canonical s) : Canonical (writePlain s m hint a bs) := by
  unfold writePlain
  extract_lets line n present s1 s2 cached
  have h2 : Canonical s2 := (h.when .count).noteWrite
  have hc : ∀ e, Canonical (cached e) := fun e => h2.l2Install.mapMem (dirtyOverlay_wf _ _ _)
  clear_value present cached
  split
  · exact hc _
  · split
    · exact hc _
    · exact Canonical.healStack (h2.stackAsk.mapMem (stkWrite_wf _ _ _))

protected theorem Canonical.setSap {s sl x} (h : Canonical s) (hx : mapRising x.bytes = true := by rfl) :
    Canonical (setSap s sl x) := by
  have hw := ringSlot_wf s sl x hx h.memWf
  cases sl
  all_goals exact ⟨h.1, hw, h.2.2⟩

protected theorem Canonical.setDoomBit {s sl b} (h : Canonical s) : Canonical (setDoomBit s sl b) := by
  unfold setDoomBit
  split
  exacts [h.setBit, h.setBit]

protected theorem Canonical.setSlot {s sl r} (h : Canonical s) : Canonical (setSlot s sl r) := by
  unfold setSlot
  split
  exacts [h.withRing, h.withRing]

protected theorem Canonical.setCause {s ring cause culprit loc} (h : Canonical s) : Canonical (setCause s ring cause culprit loc) :=
  h.setReg.setReg

protected theorem Canonical.ringEvent {s bit} (h : Canonical s) : Canonical (ringEvent s bit) :=
  h.setReg.raiseMask

protected theorem Canonical.doomRecord {s ring cause culprit i} (h : Canonical s) : Canonical (doomRecord s ring cause culprit i) :=
  h.logFault

protected theorem Canonical.wtEvent {s k eligible real} (h : Canonical s) : Canonical (wtEvent s k eligible real).1 :=
  .iteFst (.iteFst (((Canonical.ite h.withFlt h.withFlt.setFld).when .setBit).count) h.withFlt) h

protected theorem Canonical.sendPacket {s p k} (h : Canonical s) : Canonical (sendPacket s p k) :=
  h.withRide

protected theorem Canonical.sendOn {s k tried} (h : Canonical s) : Canonical (sendOn s k tried).1 := by
  unfold sendOn
  split
  · exact h.withRide
  split
  · exact h.withRide
  split
  · exact (h.wtEvent.fst ‹_›).sendPacket
  · exact .iteFst (h.wtEvent.fst ‹_›) (.iteFst ((h.wtEvent.fst ‹_›).sendPacket) ((h.wtEvent.fst ‹_›).withFlt))

protected theorem Canonical.issueReq {s k issuer gaddr} (h : Canonical s) : Canonical (issueReq s k issuer gaddr) := by
  unfold issueReq
  extract_lets _ _ _ _ _ _ s1
  have h1 : Canonical s1 := h.withRide
  exact (Canonical.iteFst h1.withRide h1.sendOn).withRide.withRide

protected theorem Canonical.issueOrWait {s k issuer gaddr} (h : Canonical s) : Canonical (issueOrWait s k issuer gaddr) :=
  .ite h.issueReq h.withRide

protected theorem Canonical.sendVote {s dst p issuer} (h : Canonical s) : Canonical (sendVote s dst p issuer) :=
  h.issueOrWait

protected theorem Canonical.doomSlot {s sl cause culprit i} (h : Canonical s) : Canonical (doomSlot s sl cause culprit i) := by
  unfold doomSlot
  split
  · exact h
  extract_lets _ s11 _ s12 s13 s14 s15 _ s16
  have h11 : Canonical s11 := h.setDoomBit
  have h12 : Canonical s12 := h11.setSlot
  have h13 : Canonical s13 := h12.setCause
  have h14 : Canonical s14 := h13.ringEvent
  have h15 : Canonical s15 := h14.doomRecord
  have h16 : Canonical s16 := h15.setSlot
  split
  exacts [h11, .ite h15 h16.sendVote]

protected theorem Canonical.doomPoison {s sl a} (h : Canonical s) : Canonical (doomPoison s sl a) :=
  h.logFault.doomSlot

protected theorem Canonical.poolShort {s sl g a bs} (h : Canonical s) : Canonical (poolShort s sl g a bs).1 :=
  .iteFst h.ringEvent h.doomSlot

protected theorem Canonical.writeSap {s sl a bs} (h : Canonical s) : Canonical (writeSap s sl a bs).1 := by
  unfold writeSap
  extract_lets g sap put
  have hput (gran bad) : Canonical (put gran bad) := by
    unfold put
    extract_lets left s1
    have h1 : Canonical s1 := h.stackAsk.setSap (mapRising_overlay _ a bs (sapOf_rising s sl h.memWf))
    split
    exacts [h1.doomPoison, h1]
  exact .iteFst (hput _ _) (.iteFst h.poolShort (hput _ _))

protected theorem Canonical.writeAccum {s sub a bs} (h : Canonical s) : Canonical (writeAccum s sub a bs).1 := by
  unfold writeAccum
  extract_lets g k note v
  have hnote (s) (h : Canonical s) : Canonical (note s) := h.stackAsk.noteWrite
  have hw := (Memory.wf_iff _).1 h.memWf
  split
  · exact (hnote _ (h.mapMem (stkWrite_wf _ _ _))).healStack
  split
  · rename_i v hv
    exact hnote _ (h.mapMem fun hm => accWrite_wf s.mem _ (accBytes_wf (List.mem_of_find?_eq_some hv) hm a bs _) hm)
  · refine .iteFst h.poolShort (hnote _ (h.mapMem fun hm => (Memory.wf_iff _).2 ?_))
    obtain ⟨h1, h2, h3, hrest⟩ := hw
    refine ⟨h1, h2, fun w hm => ?_, hrest⟩
    rcases List.mem_append.1 hm with hm | hm
    · exact h3 w hm
    · rw [List.mem_singleton.1 hm]
      exact mapWf_writeBytes _ _ _ _ (mapWf_mapRange _ _ _ _ h1)

protected theorem Canonical.writeStackLine {s w a bs} (h : Canonical s) : Canonical (writeStackLine s w a bs).1 := by
  unfold writeStackLine
  split
  · exact h.writePool
  extract_lets
  split
  · exact h.writePlain
  split
  · split
    exacts [h.writeSap, h]
  · exact h.writeAccum

protected theorem Canonical.writeStack {fuel s w a bs} (h : Canonical s) : Canonical (writeStack fuel s w a bs).1 := by
  induction fuel generalizing s a bs with
  | zero => exact h
  | succ fuel ih =>
    unfold writeStack
    extract_lets n
    split
    · have ht := h.writeStackLine.fst ‹_›
      exact .iteFst ht (ih ht)
    · exact h.writeStackLine.fst ‹_›
    · exact h.writeStackLine

protected theorem Canonical.bankBeats {s m a n} (h : Canonical s) : Canonical (bankBeats s m a n) := by
  unfold bankBeats
  split
  exacts [h.when .count, h]

protected theorem Canonical.healBank {s a n} (h : Canonical s) : Canonical (healBank s a n) :=
  h.modMem

protected theorem Canonical.memWriteNow {s w a bs} (h : Canonical s) : Canonical (memWriteNow s w a bs).1 := by
  unfold memWriteNow
  split
  · exact h
  split
  · exact h
  · exact h.writeStack
  · split
    · exact h
    · refine (h.bankBeats.mapMem fun hm => ?_).noteWrite.healBank
      obtain ⟨h1, h2, hrest⟩ := (Memory.wf_iff _).1 hm
      exact (Memory.wf_iff _).2 ⟨h1, mapWf_writeBytes _ _ _ _ h2, hrest⟩
  · exact (h.mapMem fun hm => by
      obtain ⟨h1, h2, h3, h4, h5, h6⟩ := (Memory.wf_iff _).1 hm
      exact (Memory.wf_iff _).2 ⟨h1, h2, h3, h4, mapRising_overlay _ _ _ h5, h6⟩).noteWrite
  · exact (h.mapMem fun hm => by
      obtain ⟨h1, h2, h3, h4, h5, h6, h7⟩ := (Memory.wf_iff _).1 hm
      exact (Memory.wf_iff _).2 ⟨h1, h2, h3, h4, h5, mapRising_overlay _ _ _ h6, h7⟩).noteWrite
  · exact h

protected theorem Canonical.memWrite {s w a bs} (h : Canonical s) : Canonical (memWrite s w a bs).1 :=
  .iteFst h h.memWriteNow

protected theorem Canonical.keepUndo {s c key n} (h : Canonical s) : Canonical (keepUndo s c key n) :=
  .ite h h.modCore

protected theorem Canonical.logRinged {s m a n} (h : Canonical s) : Canonical (logRinged s m a n) :=
  h.logFault

protected theorem Canonical.addWait {s w a bs src} (h : Canonical s) : Canonical (addWait s w a bs src) :=
  h.modMem

protected theorem Canonical.performStore {s c sub hint a bs} (h : Canonical s) : Canonical (performStore s c sub hint a bs) := by
  unfold performStore
  extract_lets
  split
  · exact (h.memWrite.fst ‹_›).logRinged
  · exact (h.memWrite.fst ‹_›).addWait
  · exact h.memWrite.fst ‹_›

protected theorem Canonical.performEntry {s c e} (h : Canonical s) : Canonical (performEntry s c e) :=
  (Canonical.ite h h.modCore).foldl fun _ _ h => h.performStore

protected theorem Canonical.performAt {s c i} (h : Canonical s) : Canonical (performAt s c i) := by
  unfold performAt
  split
  exacts [h.modCore.performEntry, h]

protected theorem Canonical.mergeStore {s c hint a bs} (h : Canonical s) : Canonical (mergeStore s c hint a bs) := by
  unfold mergeStore
  extract_lets _ _ s1 s2
  have h1 : Canonical s1 := by unfold s1; split; exacts [h.performAt, h]
  have h2 : Canonical s2 := h1.when fun h => h.free.performAt
  split
  exacts [h1.modCore, h2.modCore]

protected theorem Canonical.coreStore {s c hint a bs} (h : Canonical s) : Canonical (coreStore s c hint a bs) := by
  unfold coreStore
  split
  · exact .ite h.keepUndo.memWrite (.ite h.mergeStore h.mergeStore.mergeStore)
  · exact .ite h.mergeStore h.mergeStore.mergeStore

protected theorem Canonical.storeSpan {s c hint a bs} (h : Canonical s) : Canonical (storeSpan s c hint a bs) :=
  h.foldl fun _ _ h => h.coreStore

protected theorem Canonical.enterHandler {s c v} (h : Canonical s) : Canonical (enterHandler s c v) := by
  unfold enterHandler
  extract_lets s1 s2 s3 s4 s5
  have h1 : Canonical s1 := h.setFld
  have h2 : Canonical s2 := h1.setBit
  have h3 : Canonical s3 := h2.setBit
  have h4 : Canonical s4 := h3.setReg
  have h5 : Canonical s5 := h4.count
  exact h5.modCore

protected theorem Canonical.enter {s c t} (h : Canonical s) : Canonical (enter s c t) := by
  unfold enter
  extract_lets _ s1 s2 _ _ _ _ _ s3 s4 s5 s6 s7 s8 s9 s10
  have h1 : Canonical s1 := h.unwind
  have h2 : Canonical s2 := by unfold s2; split; exacts [h1.setFld, h1]
  have h3 : Canonical s3 := h2.storeSpan
  have h4 : Canonical s4 := h3.setBit
  have h5 : Canonical s5 := h4.setReg
  have h6 : Canonical s6 := h5.setReg
  have h7 : Canonical s7 := h2.storeSpan
  have h8 : Canonical s8 := h7.setReg
  have h9 : Canonical s9 := h8.setReg
  have h10 : Canonical s10 := h9.setReg
  exact .ite h2.modCore.stopCore (.ite h6.enterHandler h10.enterHandler)

protected theorem Canonical.machineCheck {s c m} (h : Canonical s) : Canonical (machineCheck s c m) := by
  unfold machineCheck
  exact h.modCore.enter

protected theorem Canonical.doomRunning {s cause i} (h : Canonical s) : Canonical (doomRunning s cause i) :=
  .ite h h.doomSlot

protected theorem Canonical.doomSub {s k} (h : Canonical s) : Canonical (doomSub s k) :=
  .ite h h.setReg.ringEvent

protected theorem Canonical.reportNV {s sub} (h : Canonical s) : Canonical (reportNV s sub) :=
  .ite h (.ite (h.when .doomRunning) (.ite h.doomSub (h.when .doomRunning)))

protected theorem Canonical.vecRetire {s c} (h : Canonical s) : Canonical (vecRetire s c) := by
  unfold vecRetire
  split
  · exact h
  extract_lets s11
  have h11 : Canonical s11 := h.modCore
  split
  exacts [h11.reportNV, h11]

protected theorem Canonical.retireAll {s c} (h : Canonical s) : Canonical (retireAll s c) :=
  h.iter fun _ h => h.vecRetire

protected theorem Canonical.stepNow {s c w} (h : Canonical s) : Canonical (stepNow s c w) :=
  h.retireAll.enter

protected theorem Canonical.setPc {s c pc} (h : Canonical s) : Canonical (setPc s c pc) :=
  h.modCore

protected theorem Canonical.complete {step w c pc s} (h : Canonical s) : Canonical (complete step w c pc s) :=
  h.setPc.when fun h => h.retireAll.enter

protected theorem Canonical.finish {s c w r} (h : Canonical s) (hr : r.Keeps) : Canonical (finish s c w r) := by
  unfold finish
  extract_lets step
  split
  · exact Canonical.complete hr
  · exact Canonical.complete hr
  · exact Canonical.when hr fun h => h.modCore
  · exact .ite (Canonical.enter hr) h
  · exact h

protected theorem Canonical.trapAt {s c vector faddr} (h : Canonical s) : (trapAt s c vector faddr).Keeps :=
  h

protected theorem Canonical.illegal {s c} (h : Canonical s) : (illegal s c).Keeps :=
  h.trapAt

protected theorem Canonical.passTiles {s c} (h : Canonical s) : Canonical (passTiles s c) :=
  .ite h h.modCore

end Sys2Proof.Machine
end

section
/-! SUPPORT. The canonical form, kept by instructions, tiles, transfers and rings. -/
namespace Sys2Proof.Machine
open Host
set_option Elab.async false

/-- An instruction of a core goes on, whatever its meaning answers. -/
protected theorem Goes.runInstr {s c w ranger n body} (hb : ∀ s, Canonical s → (body s).Keeps) : Goes s (runInstr c w ranger n body s) := by
  unfold runInstr
  split
  · extract_lets t pc
    have ht (h : Canonical s) : Canonical t := h.boundaryApply
    split
    · exact .next fun h => (ht h).machineCheck
    · exact .next fun h => (ht h).stepNow
    · refine .next fun h => .ite (ht h) ((ht h).finish ?_)
      split
      · exact ht h
      · split
        · exact (ht h).illegal
        · exact hb _ (ht h).passTiles
  · exact .next id

protected theorem Canonical.writeX {c rd s v} (h : Canonical s) : (writeX c rd s v).Keeps :=
  h.modCore

protected theorem Goes.aluReg {c fn o f s} : Goes s (aluReg c fn o f s) :=
  .runInstr fun _ h => h.writeX

protected theorem Goes.execAdd {c o s} : Goes s (execAdd c o s) :=
  .aluReg

protected theorem Goes.execSub {c o s} : Goes s (execSub c o s) :=
  .aluReg

protected theorem Goes.execAnd {c o s} : Goes s (execAnd c o s) :=
  .aluReg

protected theorem Goes.execOr {c o s} : Goes s (execOr c o s) :=
  .aluReg

protected theorem Goes.execXor {c o s} : Goes s (execXor c o s) :=
  .aluReg

protected theorem Goes.execSll {c o s} : Goes s (execSll c o s) :=
  .aluReg

protected theorem Goes.execSrl {c o s} : Goes s (execSrl c o s) :=
  .aluReg

protected theorem Goes.execSra {c o s} : Goes s (execSra c o s) :=
  .aluReg

protected theorem Goes.execSlt {c o s} : Goes s (execSlt c o s) :=
  .aluReg

protected theorem Goes.execSltu {c o s} : Goes s (execSltu c o s) :=
  .aluReg

protected theorem Goes.execMul {c o s} : Goes s (execMul c o s) :=
  .aluReg

protected theorem Goes.execMulh {c o s} : Goes s (execMulh c o s) :=
  .aluReg

protected theorem Goes.execMulhu {c o s} : Goes s (execMulhu c o s) :=
  .aluReg

protected theorem Goes.execDiv {c o s} : Goes s (execDiv c o s) :=
  .aluReg

protected theorem Goes.execDivu {c o s} : Goes s (execDivu c o s) :=
  .aluReg

protected theorem Goes.execRem {c o s} : Goes s (execRem c o s) :=
  .aluReg

protected theorem Goes.execRemu {c o s} : Goes s (execRemu c o s) :=
  .aluReg

protected theorem Goes.aluImm {c op o f s} : Goes s (aluImm c op o f s) :=
  .runInstr fun _ h => h.writeX

protected theorem Goes.execAddi {c o s} : Goes s (execAddi c o s) :=
  .aluImm

protected theorem Goes.execAndi {c o s} : Goes s (execAndi c o s) :=
  .aluImm

protected theorem Goes.execOri {c o s} : Goes s (execOri c o s) :=
  .aluImm

protected theorem Goes.execXori {c o s} : Goes s (execXori c o s) :=
  .aluImm

protected theorem Goes.execSlti {c o s} : Goes s (execSlti c o s) :=
  .aluImm

protected theorem Goes.aluShift {c k o f s} : Goes s (aluShift c k o f s) := by
  unfold aluShift
  refine .runInstr fun s h => ?_
  split
  exacts [h.illegal, h.writeX]

protected theorem Goes.execSlli {c o s} : Goes s (execSlli c o s) :=
  .aluShift

protected theorem Goes.execSrli {c o s} : Goes s (execSrli c o s) :=
  .aluShift

protected theorem Goes.execSrai {c o s} : Goes s (execSrai c o s) :=
  .aluShift

protected theorem Goes.execLui {c o s} : Goes s (execLui c o s) := by
  unfold execLui
  refine .runInstr fun s h => ?_
  split
  exacts [h.illegal, h.writeX]

protected theorem Canonical.settleSub {s c a n} (h : Canonical s) : Canonical (settleSub s c a n) := by
  unfold settleSub
  refine h.foldl fun s x h => ?_
  split
  exacts [h.performAt, h]

protected theorem Canonical.orderPush {s c r} (h : Canonical s) : Canonical (orderPush s c r) :=
  h.when .modCore

protected theorem Canonical.thrashCheck {s n line} (h : Canonical s) : Canonical (thrashCheck s n line) :=
  h.when fun h => h.setSlice.when fun h => h.setSlice.setFld.setBit.count.raiseMask

protected theorem Canonical.sliceRequest {s c line mask hint demand} (h : Canonical s) : Canonical (sliceRequest s c line mask hint demand) := by
  unfold sliceRequest
  extract_lets _ _ _ fetch s2
  have hfetch (s) (h : Canonical s) : Canonical (fetch s) := .ite h.orderPush.count.setSlice h.orderPush.count.stackAsk.setSlice
  have h2 : Canonical s2 := h.count
  split
  · exact h
  split
  · exact .ite (.ite (hfetch _ h.count.setSlice) (hfetch _ h)) (.ite h2.l2Install h2.l2Install.modCore)
  · exact hfetch _ (h.when .thrashCheck)

protected theorem Canonical.loadLine {s c hint line mask} (h : Canonical s) : Canonical (loadLine s c hint line mask) :=
  .ite h.modCore ((h.count.when .modCore).sliceRequest)

protected theorem Canonical.cacheLines {s c hint ls} (h : Canonical s) : Canonical (cacheLines s c hint ls) :=
  (h.foldl fun _ _ h => h.loadLine).when .count

protected theorem Canonical.cacheLoad {s c hint a n} (h : Canonical s) : Canonical (cacheLoad s c hint a n) :=
  h.cacheLines

protected theorem Canonical.logClean {s fkind unit phys a} (h : Canonical s) : Canonical (logClean s fkind unit phys a) :=
  h.logFault

protected theorem Canonical.refetchL2 {s a n} (h : Canonical s) : Canonical (refetchL2 s a n) :=
  h.foldl fun _ _ h => h.logClean.dropCopies.setSlice.modMem

protected theorem Canonical.refetchL1 {s c a n} (h : Canonical s) : Canonical (refetchL1 s c a n) :=
  h.foldl fun _ _ h => h.logClean.modCore

protected theorem Canonical.refetch {s c a n} (h : Canonical s) : Canonical (refetch s c a n) := by
  unfold refetch
  split
  exacts [.ite h h.refetchL2, .ite (.ite h h.refetchL1) ((Canonical.ite h h.refetchL1).refetchL2)]

protected theorem Canonical.countSat {s a f n} (h : Canonical s) : Canonical (countSat s a f n) :=
  h.setFld

protected theorem Canonical.eccCount {s w ue} (h : Canonical s) : Canonical (eccCount s w ue) :=
  .ite h.countSat (h.when .countSat)

protected theorem Canonical.logUE {s w a injected} (h : Canonical s) : Canonical (logUE s w a injected) := by
  unfold logUE
  extract_lets s1 _ _ _ _ s2
  have h1 : Canonical s1 := h.eccCount
  have h2 : Canonical s2 := h1.logFault
  exact h2.when .doomRunning

protected theorem Canonical.spoilLine {s line} (h : Canonical s) : Canonical (spoilLine s line) :=
  h.l2Evict

protected theorem Canonical.eccWord {w acc a} (h : Canonical acc.1) : Canonical (eccWord w acc a).1 := by
  unfold eccWord
  extract_lets s1
  have h1 : Canonical s1 := h
  split
  · split
    · exact (h1.wtEvent.fst ‹_›).logUE.when .spoilLine
    split
    · exact (h1.wtEvent.fst ‹_›).free.eccCount.logFault
    split
    · exact h1.wtEvent.fst ‹_›
    · exact .iteFst (h1.wtEvent.fst ‹_›) (.iteFst ((h1.wtEvent.fst ‹_›).eccCount.logFault) ((h1.wtEvent.fst ‹_›).logUE))

protected theorem Canonical.eccRead {s w a n} (h : Canonical s) : Canonical (eccRead s w a n).1 :=
  h.foldlFst fun _ _ h => h.eccWord

protected theorem Canonical.eccSpan {s c sub a n} (h : Canonical s) : Canonical (eccSpan s c sub a n).1 := by
  unfold eccSpan
  split
  · exact h
  refine h.foldlFst fun s x h => ?_
  split
  exacts [h, h.eccRead]

protected theorem Canonical.coreLoad {s c hint a n} (h : Canonical s) : Canonical (coreLoad s c hint a n).1 := by
  unfold coreLoad
  split
  · exact h
  split
  · exact h
  extract_lets s21 _ s22
  have h21 : Canonical s21 := h.settleSub
  have h22 : Canonical s22 := .ite h21.refetch.cacheLoad h21.bankBeats
  split
  · exact h22.eccSpan.fst ‹_›
  · exact h22.eccSpan.fst ‹_›

protected theorem Canonical.drainMerge {s c} (h : Canonical s) : Canonical (drainMerge s c) :=
  h.modCore.foldl fun _ _ h => h.performEntry

protected theorem Canonical.modRide {s f} (h : Canonical s) : Canonical (State.modRide s f) :=
  h.withRide

protected theorem Canonical.ctrlRegRead {s a} (h : Canonical s) : Canonical (ctrlRegRead s a).2 := by
  unfold ctrlRegRead
  split
  exacts [h, .ite h.modEng (.ite h.modRide (h.when .modRide))]

protected theorem Canonical.regionRead {s a} (h : Canonical s) : ∀ p ∈ regionRead s a, Canonical p.2 := by
  unfold regionRead
  split
  exacts [.someSnd h.ctrlRegRead, .someSnd h, .someSnd h, .noneSnd]

protected theorem Canonical.loadBytes {s c a n} (h : Canonical s) : (loadBytes s c a n).Keeps := by
  unfold loadBytes
  split
  · exact h
  extract_lets
  split
  · exact h
  split
  · split
    · exact h.coreLoad.fst ‹_›
    · exact h.coreLoad.fst ‹_›
    · exact h.coreLoad.fst ‹_›
    · trivial
  split
  · exact h
  split
  · trivial
  split
  · exact h.drainMerge
  split
  · exact h.drainMerge.regionRead _ ‹_›
  · exact h

protected theorem Goes.loadX {c op n o ext s} : Goes s (loadX c op n o ext s) := by
  unfold loadX
  refine .runInstr fun s h => ?_
  split
  · exact (h.loadBytes.ok ‹_›).writeX
  · exact h.loadBytes.stop ‹_›

protected theorem Goes.execLb {c o s} : Goes s (execLb c o s) :=
  .loadX

protected theorem Goes.execLh {c o s} : Goes s (execLh c o s) :=
  .loadX

protected theorem Goes.execLw {c o s} : Goes s (execLw c o s) :=
  .loadX

protected theorem Goes.execLd {c o s} : Goes s (execLd c o s) :=
  .loadX

protected theorem Goes.execLbu {c o s} : Goes s (execLbu c o s) :=
  .loadX

protected theorem Goes.execLhu {c o s} : Goes s (execLhu c o s) :=
  .loadX

protected theorem Goes.execLwu {c o s} : Goes s (execLwu c o s) :=
  .loadX

protected theorem Canonical.keepWrite {s c a f} (h : Canonical s) : Canonical (keepWrite s c a f) :=
  .ite h h.modCore

protected theorem Canonical.llWrite {s r a v} (h : Canonical s) : Canonical (llWrite s r a v) :=
  h.when .withLl

protected theorem Canonical.plainWrite {s r a v} (h : Canonical s) : Canonical (plainWrite s r a v) :=
  h.setReg.llWrite

protected theorem Canonical.fallbackWrite {s a v} (h : Canonical s) : Canonical (fallbackWrite s a v) :=
  h.setReg

protected theorem Canonical.incWrite {s r a inc v} (h : Canonical s) : Canonical (incWrite s r a inc v) :=
  h.plainWrite.when .count

protected theorem Canonical.deadfallLine {s line} (h : Canonical s) : Canonical (deadfallLine s line) := by
  unfold deadfallLine
  split
  · exact h
  split
  · exact h
  · refine Canonical.setSlice (h.dropCopies.mapMem fun hm => ?_)
    obtain ⟨h1, h2, h3, h4, hrest⟩ := (Memory.wf_iff _).1 hm
    exact (Memory.wf_iff _).2 ⟨h1, h2, h3, mapRising_mapDropRange _ _ _ h4, hrest⟩

protected theorem Canonical.deadfallOp {s v} (h : Canonical s) : Canonical (deadfallOp s v) :=
  h.foldl fun _ _ h => h.deadfallLine

protected theorem Canonical.coreRegWrite {s m r a v} (h : Canonical s) : ∀ t ∈ coreRegWrite s m r a v, Canonical t := by
  unfold coreRegWrite
  extract_lets _ _ _ s1
  have h1 : Canonical s1 := h.plainWrite
  exact .iteOpt (.some h.plainWrite.wfiCheck) <|
    .iteOpt (.some h.plainWrite.wfiCheck) <|
    .iteOpt (.some h.setReg.wfiCheck) <|
    .iteOpt (.some h.plainWrite.modCore) <|
    .iteOpt (.iteOpt (.some h.plainWrite) <|
    .some h.modCore) <|
    .iteOpt (.some h.modCore) <|
    .iteOpt (.some h.modCore) <|
    .iteOpt (.some h.modCore) <|
    .iteOpt (.some h.modCore) <|
    .iteOpt (.some h.fallbackWrite) <|
    .iteOpt (.some h.incWrite) <|
    .iteOpt (.some h.incWrite) <|
    .iteOpt (.some h.plainWrite) <|
    .iteOpt (.some (.ite h1 h1.modCore)) <|
    .iteOpt (.some h.deadfallOp) <|
    .none

protected theorem Canonical.doomAll {s cause culprit} (h : Canonical s) : Canonical (doomAll s cause culprit) :=
  h.doomSlot.doomSlot

protected theorem Canonical.setSlotState {s sl st} (h : Canonical s) : Canonical (setSlotState s sl st) := by
  unfold setSlotState
  split
  exacts [h.setFld, h.setFld]

protected theorem Canonical.mirrorPacket {s sl p} (h : Canonical s) : Canonical (mirrorPacket s sl p) := by
  unfold mirrorPacket
  extract_lets
  split
  exacts [h.doomPoison, h.issueReq]

protected theorem Canonical.mirrorStep {sl acc p} (h : Canonical acc.1) : Canonical (mirrorStep sl acc p).1 :=
  .iteFst h h.mirrorPacket

protected theorem Canonical.mirrorFeed {s sl} (h : Canonical s) : Canonical (mirrorFeed s sl) :=
  .ite h ((h.foldlFst fun _ _ h => h.mirrorStep).setSlot)

protected theorem Canonical.startDrain {s sl} (h : Canonical s) : Canonical (startDrain s sl) :=
  .ite h h.setSlot.mirrorFeed

protected theorem Canonical.enterPreparing {s} (h : Canonical s) : Canonical (enterPreparing s) :=
  h.setSlotState.when .startDrain

protected theorem Canonical.sealOp {s} (h : Canonical s) : Canonical (sealOp s) :=
  h.when fun h => .ite h.enterPreparing h.setSlotState

protected theorem Canonical.modRing {s f} (h : Canonical s) : Canonical (State.modRing s f) :=
  h.withRing

protected theorem Canonical.pteErr {s st reason} (h : Canonical s) : Canonical (pteErr s st reason) :=
  h.setBit.setFld

protected theorem Canonical.pteStop {s st} (h : Canonical s) : Canonical (pteStop s st) := by
  unfold pteStop
  split
  exacts [h, h.modMem.setBit.pteErr]

protected theorem Canonical.leadPut {s l} (h : Canonical s) : Canonical (leadPut s l) :=
  h.modRing

protected theorem Canonical.logPut {s p} (h : Canonical s) : Canonical (logPut s p) :=
  .ite h.modRing (.ite h.modRing h.modRing)

protected theorem Canonical.sendClaim {s r p} (h : Canonical s) : Canonical (sendClaim s r p) :=
  h.sendVote

protected theorem Canonical.startResolve {s ring lead outcome w} (h : Canonical s) : Canonical (startResolve s ring lead outcome w) :=
  .ite h h.modRing.sendClaim

protected theorem Canonical.leadRecord {s l outcome w} (h : Canonical s) : Canonical (leadRecord s l outcome w) :=
  (Canonical.ite h.leadPut h.leadPut.logPut).startResolve

protected theorem Canonical.leadDecideUpTo {n s ring} (h : Canonical s) : Canonical (leadDecideUpTo n s ring) := by
  induction n generalizing s ring with
  | zero => exact h
  | succ n ih =>
    unfold leadDecideUpTo
    split
    · exact h
    · split
      · exact h
      · extract_lets l1 s1 pv l2
        have h1 : Canonical s1 := h.leadPut
        split
        · exact h1
        · split
          · exact ih h1.leadRecord
          · exact h1.when fun h => ih h.leadRecord

protected theorem Canonical.leadDecide {s ring} (h : Canonical s) : Canonical (leadDecide s ring) :=
  h.leadDecideUpTo

protected theorem Canonical.leadOpen {s ring} (h : Canonical s) : Canonical (leadOpen s ring) :=
  .ite h h.modRing

protected theorem Canonical.openRing {s} (h : Canonical s) : Canonical (openRing s) := by
  unfold openRing
  extract_lets _ s1 s2 _ _ s3 s4 s5 s6 s7 s8 s9 s10 s11 s12 s13 s14
  have h2 : Canonical s2 := h.setReg.modRing
  have h4 : Canonical s4 := h2.setSlot.setSlotState.setDoomBit.setReg
  have h5 : Canonical s5 := .ite (h4.setSap (sapOf_rising s2 .newer h2.memWf)).setSap h2
  have h11 : Canonical s11 := h5.setSlotState.setDoomBit.setSlot.setReg.setBit.setBit.setReg.setReg.modRing
  have h13 : Canonical s13 := h11.withCores.foldl fun _ _ h => h.pteStop
  exact (h13.when fun h => h.leadOpen.leadDecide).ringEvent

protected theorem Canonical.openOp {s} (h : Canonical s) : Canonical (openOp s) :=
  .ite h (.ite h.setBit.ringEvent (.ite h.openRing h.setBit))

protected theorem Canonical.ringCtrlWrite {s v} (h : Canonical s) : Canonical (ringCtrlWrite s v) :=
  ((h.when .doomAll).when .sealOp).when .openOp

protected theorem Canonical.ringNextOp {s v} (h : Canonical s) : Canonical (ringNextOp s v) :=
  h.when .setReg

protected theorem Canonical.ringGstepOp {s v} (h : Canonical s) : Canonical (ringGstepOp s v) :=
  h.when .setReg

protected theorem Canonical.subErr {s} (h : Canonical s) : Canonical (subErr s) :=
  h.setBit

protected theorem Canonical.subOpenOp {s k} (h : Canonical s) : Canonical (subOpenOp s k) :=
  .ite h.subErr h.modRing.setReg

protected theorem Canonical.subCloseOp {s k keep} (h : Canonical s) : Canonical (subCloseOp s k keep) :=
  .ite h.subErr (.ite h h.modRing)

protected theorem Canonical.subCtrlWrite {s v} (h : Canonical s) : Canonical (subCtrlWrite s v) := by
  unfold subCtrlWrite
  extract_lets s1
  have h1 : Canonical s1 := h.when .setBit
  split
  exacts [h1.subOpenOp, h1.subCloseOp, h1.subCloseOp, h1]

protected theorem Canonical.marchCtrlWrite {s v} (h : Canonical s) : Canonical (marchCtrlWrite s v) :=
  .ite h (h.setFld.setFld.setFld.when fun h => h.setBit.setFld.setFld)

protected theorem Canonical.pteSetWrite {s st v} (h : Canonical s) : Canonical (pteSetWrite s st v) :=
  .ite h.pteErr (.ite h.pteErr (.ite h.pteErr (.ite h.pteErr h.setBit.setFld.modMem)))

protected theorem Canonical.postAccept {s e m v} (h : Canonical s) : Canonical (postAccept s e m v) :=
  h.modEng

protected theorem Canonical.xferPostOp {s m e v} (h : Canonical s) : Canonical (xferPostOp s m e v) :=
  .ite h.modEng h.postAccept

protected theorem Canonical.abortEngine {s e} (h : Canonical s) : Canonical (abortEngine s e) := by
  refine h.modEng fun hx d hd => ?_
  obtain ⟨q, hq, rfl⟩ := List.mem_map.1 hd
  exact hx q hq

protected theorem Canonical.modPort {s p f} (h : Canonical s) : Canonical (State.modPort s p f) :=
  h.modRide

protected theorem Canonical.rideEvent {s bit} (h : Canonical s) : Canonical (rideEvent s bit) :=
  h.setReg.raiseMask

protected theorem Canonical.setPortState {s p n} (h : Canonical s) : Canonical (setPortState s p n) :=
  h.setFld

protected theorem Canonical.memberResolve {s ring} (h : Canonical s) : Canonical (memberResolve s ring) :=
  h.startResolve

protected theorem Canonical.ringPathFail {s dst} (h : Canonical s) : Canonical (ringPathFail s dst) :=
  h.doomAll.when fun h => h.foldl fun _ _ h => h.when .memberResolve

protected theorem Canonical.feedWaiting {s} (h : Canonical s) : Canonical (feedWaiting s) :=
  h.withRide.foldl fun _ _ h => h.issueOrWait

protected theorem Canonical.doomRing {s r cause culprit} (h : Canonical s) : Canonical (doomRing s r cause culprit) := by
  unfold doomRing
  split
  exacts [h.doomSlot, h]

protected theorem Canonical.failDoom {s r status} (h : Canonical s) : Canonical (failDoom s r status) :=
  .ite h h.doomRing

protected theorem Canonical.mirrorDone {s ring} (h : Canonical s) : Canonical (mirrorDone s ring) := by
  unfold mirrorDone
  extract_lets s1
  have h1 : Canonical s1 := by unfold s1; split; exacts [h.setSlot, h]
  exact h1.mirrorFeed.mirrorFeed

protected theorem Canonical.reqDrop {s id} (h : Canonical s) : Canonical (reqDrop s id) :=
  h.modRide

protected theorem Canonical.dropResolve {s ring lead} (h : Canonical s) : Canonical (dropResolve s ring lead) :=
  h.modRing

protected theorem Canonical.sendAll {s op ring kind p} (h : Canonical s) : Canonical (sendAll s op ring kind p) :=
  h.foldl fun _ _ h => h.issueOrWait

protected theorem Canonical.leadRetire {s ring} (h : Canonical s) : Canonical (leadRetire s ring) := by
  unfold leadRetire
  split
  exacts [h, h.when fun h => h.modRing.sendAll]

protected theorem Canonical.announce {s l rec} (h : Canonical s) : Canonical (announce s l rec) := by
  unfold announce
  extract_lets s1 s2 _ s3 s4
  have h1 : Canonical s1 := h.logPut
  have h2 : Canonical s2 := h1.modRing
  have h3 : Canonical s3 := .ite h2.leadPut h2.modRing
  have h4 : Canonical s4 := h3.sendAll
  exact h4.leadDecide.leadRetire

protected theorem Canonical.freeSlot {s sl} (h : Canonical s) : Canonical (freeSlot s sl) :=
  h.setSlotState.setDoomBit.setSlot.setReg

protected theorem Canonical.flipCaches {s gs} (h : Canonical s) : Canonical (flipCaches s gs) :=
  h.withCores.modMem

protected theorem Canonical.flipMemory {s sl} (h : Canonical s) : Canonical (flipMemory s sl) := by
  have hw := flipMemory_wf s sl h.memWf
  unfold flipMemory setSap at hw ⊢
  cases sl
  all_goals exact ⟨h.1, hw, h.2.2⟩

protected theorem Canonical.settle {s ring} (h : Canonical s) : Canonical (settle s ring) :=
  h.dropResolve.setBit

protected theorem Canonical.recoverCheck {s} (h : Canonical s) : Canonical (recoverCheck s) :=
  h.when fun h => h.modRing.ringEvent

protected theorem Canonical.commitSlot {s sl g} (h : Canonical s) : Canonical (commitSlot s sl g) := by
  unfold commitSlot
  extract_lets _ _ s1 s2 s3 s4 s5 s6 s7 s8
  have h1 : Canonical s1 := by unfold s1; split; exacts [h.when .freeSlot, h]
  have h2 : Canonical s2 := h1.flipMemory.flipCaches
  have h3 : Canonical s3 := h2.setReg
  have h4 : Canonical s4 := h3.setReg
  have h5 : Canonical s5 := h4.setReg
  have h6 : Canonical s6 := h5.setSlotState.setDoomBit.settle
  have h7 : Canonical s7 := h6.sendVote
  have h8 : Canonical s8 := h7.count
  exact h8.ringEvent.recoverCheck

protected theorem Canonical.promote {s} (h : Canonical s) : Canonical (promote s) := by
  unfold promote
  split
  · extract_lets t1 t2 t3
    have h3 : Canonical t3 := h.setSlot.setSlotState.setDoomBit.setReg
    exact (h3.setSap (sapOf_rising s .older h.memWf)).setSap.freeSlot
  · exact h

protected theorem Canonical.dropSubs {s} (h : Canonical s) : Canonical (dropSubs s) := by
  refine h.setReg.modRing.mapMem fun hm => ?_
  obtain ⟨h1, h2, -, hrest⟩ := (Memory.wf_iff _).1 hm
  exact (Memory.wf_iff _).2 ⟨h1, h2, nofun, hrest⟩

protected theorem Canonical.releaseBwaits {s ring} (h : Canonical s) : Canonical (releaseBwaits s ring) :=
  h.withCores

protected theorem Canonical.abortTagged {s ring} (h : Canonical s) : Canonical (abortTagged s ring) := by
  obtain ⟨regs, mem, eng⟩ := h
  refine ⟨regs, mem, fun e d hd => ?_⟩
  simp only [abortTagged, Vector.get_map, List.mem_map] at hd ⊢
  obtain ⟨q, hq, rfl⟩ := hd
  have := eng e q hq
  split
  exacts [this, this]

protected theorem Canonical.dropRing {s sl w g loc} (h : Canonical s) : Canonical (dropRing s sl w g loc) := by
  unfold dropRing
  extract_lets _ _ s1 s2 s3 s4 s5 s6 s7 s8
  have h1 : Canonical s1 := h.count
  have h2 : Canonical s2 := .ite h1 h1.setCause.doomRecord
  have h3 : Canonical s3 := h2.when .dropSubs
  have h4 : Canonical s4 := h3.setSap
  have h5 : Canonical s5 := h4.freeSlot.settle
  have h6 : Canonical s6 := h5.abortTagged.releaseBwaits
  have h7 : Canonical s7 := h6.ringEvent
  have h8 : Canonical s8 := by unfold s8; split; exacts [h7.doomSlot, h7]
  exact h8.recoverCheck

protected theorem Canonical.discardSlot {s sl w g loc} (h : Canonical s) : Canonical (discardSlot s sl w g loc) :=
  h.dropRing.promote

protected theorem Canonical.applyOutcome {s ring outcome w g} (h : Canonical s) : Canonical (applyOutcome s ring outcome w g) := by
  unfold applyOutcome
  split
  exacts [h, .ite (h.when .commitSlot) (h.when .discardSlot)]

protected theorem Canonical.resolved {s r rec} (h : Canonical s) : Canonical (resolved s r rec) := by
  unfold resolved
  extract_lets s1
  have h1 : Canonical s1 := h.dropResolve
  split
  · split
    exacts [h1.when .announce, h1]
  · exact h1.applyOutcome

protected theorem Canonical.putResolve {s r} (h : Canonical s) : Canonical (putResolve s r) :=
  h.modRing

protected theorem Canonical.claimDone {s r v} (h : Canonical s) : Canonical (claimDone s r v) := by
  unfold claimDone
  split
  · split
    exacts [h.resolved, h.putResolve.setBit.ringEvent]
  split
  exacts [h.putResolve.sendClaim, h.putResolve.sendClaim]

protected theorem Canonical.claimAnswer {s ring lead atH2 status data} (h : Canonical s) : Canonical (claimAnswer s ring lead atH2 status data) := by
  unfold claimAnswer
  split
  exacts [h, .ite h (.ite h.claimDone (.ite h.claimDone h.putResolve))]

protected theorem Canonical.leadFlipped {s ring member} (h : Canonical s) : Canonical (leadFlipped s ring member) := by
  unfold leadFlipped
  split
  exacts [h, h.leadPut.leadRetire]

protected theorem Canonical.coreFail {s c status dev gaddr} (h : Canonical s) : Canonical (coreFail s c status dev gaddr) :=
  .ite h.count h.count.setFld.setFld.setBit.setReg

protected theorem Canonical.reqPut {s r} (h : Canonical s) : Canonical (reqPut s r) :=
  h.modRide

protected theorem Canonical.rideEnd {s r status data} (h : Canonical s) : Canonical (rideEnd s r status data) := by
  unfold rideEnd
  extract_lets s1 s2 s3
  have h1 : Canonical s1 := .ite h h.failDoom
  have h2 : Canonical s2 := h1.modRide
  have h3 : Canonical s3 := h2.reqDrop
  split
  · exact h2.reqDrop.mirrorDone
  · exact h2.reqDrop
  · exact h2.reqDrop.claimAnswer
  · exact h3.when .leadFlipped
  · exact h2.reqDrop
  · exact (Canonical.ite h3 h3.coreFail).modCore
  · exact h2.reqPut

protected theorem Canonical.rideComplete {s r status data} (h : Canonical s) : Canonical (rideComplete s r status data) :=
  h.rideEnd.feedWaiting

protected theorem Canonical.pathFail {s dst} (h : Canonical s) : Canonical (pathFail s dst) :=
  h.ringPathFail.setFld.count.rideEvent.modRide.foldl fun _ _ h => h.rideComplete

protected theorem Canonical.pathCheck {s} (h : Canonical s) : Canonical (pathCheck s) :=
  .ite h (h.foldl fun _ _ h => h.pathFail)

protected theorem Canonical.sendTracked {s k} (h : Canonical s) : Canonical (sendTracked s k) := by
  unfold sendTracked
  split
  · exact h.sendOn
  split
  exacts [h, h.sendOn.reqPut]

protected theorem Canonical.failoverReq {s r} (h : Canonical s) : Canonical (failoverReq s r) :=
  .ite h.pathFail h.count.reqPut.sendTracked

protected theorem Canonical.handBack {s k} (h : Canonical s) : Canonical (handBack s k) := by
  unfold handBack
  split
  · exact h.sendOn
  split
  exacts [h.failoverReq, h]

protected theorem Canonical.portDown {s p} (h : Canonical s) : Canonical (portDown s p) :=
  h.when fun h => (h.modPort.modRide.setPortState.rideEvent.foldl fun _ _ h => h.handBack).pathCheck

protected theorem Canonical.portCtrlWrite {s p v} (h : Canonical s) : Canonical (portCtrlWrite s p v) :=
  (Canonical.ite h h.setFld).when .portDown

protected theorem Canonical.modWdn {s f} (h : Canonical s) : Canonical (State.modWdn s f) :=
  h.withWdn

protected theorem Canonical.mboxPost {s v} (h : Canonical s) : Canonical (mboxPost s v) :=
  h.modWdn

protected theorem Canonical.svcqBaseOp {s v} (h : Canonical s) : Canonical (svcqBaseOp s v) :=
  .ite h h.setFld.setFld.setFld.setFld

protected theorem Canonical.svcqTailOp {s v} (h : Canonical s) : Canonical (svcqTailOp s v) :=
  .ite h h.setFld

protected theorem Canonical.wtReload {s k} (h : Canonical s) : Canonical (wtReload s k) :=
  h.withFlt

protected theorem Canonical.wtSeedOp {s v} (h : Canonical s) : Canonical (wtSeedOp s v) :=
  h.when fun h => h.setFld.foldl fun _ _ h => h.wtReload

protected theorem Canonical.wtPointOp {s k v} (h : Canonical s) : Canonical (wtPointOp s k v) :=
  h.when fun h => h.setFld.setFld.setFld.setFld.setFld.when .wtReload

protected theorem Canonical.modFor {s f} (h : Canonical s) : Canonical (State.modFor s f) :=
  h.withForr

protected theorem Canonical.freeSlotNo {s} (h : Canonical s) : Canonical (freeSlotNo s).2 :=
  h.free

protected theorem Canonical.modPwr {s f} (h : Canonical s) : Canonical (State.modPwr s f) :=
  h.withPwr

protected theorem Canonical.setRail {s k r} (h : Canonical s) : Canonical (setRail s k r) :=
  h.modPwr

protected theorem Canonical.avsQueue {s f} (h : Canonical s) : Canonical (avsQueue s f) :=
  h.modPwr

protected theorem Canonical.writeTarget {s k mv isRaise} (h : Canonical s) : Canonical (writeTarget s k mv isRaise) :=
  h.setFld.setRail.avsQueue.avsQueue

protected theorem Canonical.railMove {lower k s} (h : Canonical s) : Canonical (railMove lower k s) := by
  unfold railMove
  extract_lets
  split
  · exact h
  split
  · exact .ite h.writeTarget (h.when .writeTarget)
  · exact .ite (h.setRail.when .writeTarget) (.ite h (.ite h.setRail.writeTarget h.setRail))

protected theorem Canonical.railUpdate {s k lower} (h : Canonical s) : Canonical (railUpdate s k lower) :=
  (h.iter fun _ h => h.railMove).setFld

protected theorem Canonical.serveRails {s} (h : Canonical s) : Canonical (serveRails s) :=
  h.foldl fun _ _ h => .ite h h.railUpdate

protected theorem Canonical.setRequest {s c f} (h : Canonical s) : Canonical (setRequest s c f) := by
  unfold setRequest
  extract_lets s1
  have h1 : Canonical s1 := .ite h h.setFld
  exact .ite h1 h1.setRail

protected theorem Canonical.requestClock {s c f} (h : Canonical s) : Canonical (requestClock s c f) :=
  h.modPwr.foldl fun _ _ h => h.setRequest

protected theorem Canonical.dispatch {s t c} (h : Canonical s) : Canonical (dispatch s t c) := by
  unfold dispatch
  extract_lets _ s1 s2 s3 s4 s5 s6 s7
  have h1 : Canonical s1 := h.modFor
  have h2 : Canonical s2 := h1.setBit
  have h3 : Canonical s3 := h2.setFld
  have h4 : Canonical s4 := h3.setFld
  have h5 : Canonical s5 := h4.setFld
  have h6 : Canonical s6 := h5.count
  have h7 : Canonical s7 := h6.requestClock.serveRails
  exact h7.raiseInt

protected theorem Canonical.decideCore {s c ts} (h : Canonical s) : Canonical (decideCore s c ts).1 := by
  induction ts with
  | nil => exact h
  | cons t ts ih =>
    unfold decideCore
    exact .iteFst h (.iteFst (.pair h.dispatch) ih)

protected theorem Canonical.notePassed {s q l} (h : Canonical s) : Canonical (notePassed s q l) :=
  .ite h.modFor h.modFor.modFor

protected theorem Canonical.decision {s} (h : Canonical s) : Canonical (decision s) := by
  refine h.foldl fun s q h => ?_
  split
  rename_i t l e
  refine (Canonical.fst ?_ e).notePassed
  refine Canonical.foldlFst h fun p c h => ?_
  split
  exacts [h.decideCore, h]

protected theorem Canonical.acceptPost {s v} (h : Canonical s) : Canonical (acceptPost s v) :=
  h.freeSlotNo.modFor.decision

protected theorem Canonical.postOp {s v} (h : Canonical s) : Canonical (postOp s v) :=
  .ite h.setBit.setFld (.ite h.modFor h.acceptPost)

protected theorem Canonical.applyCaps {s} (h : Canonical s) : Canonical (applyCaps s) :=
  (h.foldl fun _ _ h => h.requestClock).serveRails

protected theorem Canonical.cancelOp {s v} (h : Canonical s) : Canonical (cancelOp s v) :=
  h.modFor

protected theorem Canonical.setAct {s k a} (h : Canonical s) : Canonical (setAct s k a) :=
  h.modFor

protected theorem Canonical.forActWrite {s k v} (h : Canonical s) : Canonical (forActWrite s k v) := by
  unfold forActWrite
  extract_lets _ _ _ s1 s2 _ s3
  have h1 : Canonical s1 := .ite h h.setFld
  have h2 : Canonical s2 := .ite h1 h1.setFld
  have h3 : Canonical s3 := h2.setBit
  exact h3.when .setAct

protected theorem Canonical.taskDone {s c} (h : Canonical s) : Canonical (taskDone s c) :=
  h.when fun h => h.modFor.setBit.decision

protected theorem Canonical.restTry {s c} (h : Canonical s) : Canonical (restTry s c) :=
  h.when .setFld

protected theorem Canonical.restOn {s c} (h : Canonical s) : Canonical (restOn s c) :=
  h.when fun h => h.foldl fun _ _ h => h.setBit.drainMerge.restTry

protected theorem Canonical.drawLanes {s c} (h : Canonical s) : Canonical (drawLanes s c) :=
  (h.foldl fun _ _ h => h.setReg).withEntropy

protected theorem Canonical.applyModes {s c} (h : Canonical s) : Canonical (applyModes s c) := by
  unfold applyModes
  split
  exacts [h.setReg.setBit, h]

protected theorem Canonical.coreReset {s c} (h : Canonical s) : Canonical (coreReset s c) := by
  unfold coreReset
  extract_lets lo s1 s2 s3
  have h1 : Canonical s1 := h.filterRegs
  exact h1.setFld.drawLanes.setCore.applyModes

protected theorem Canonical.restOff {s c} (h : Canonical s) : Canonical (restOff s c) :=
  h.foldl fun _ _ h => h.setBit.when fun h => h.coreReset.setFld.setFld

protected theorem Canonical.retire {s kind phys sub} (h : Canonical s) : Canonical (retire s kind phys sub) :=
  .ite h h.withNv

protected theorem Canonical.failIsland {s c delta v} (h : Canonical s) : Canonical (failIsland s c delta v) := by
  unfold failIsland
  extract_lets _ s1 s2 _ s3 s4 _ s5 s6
  have h1 : Canonical s1 := h.retire
  have h2 : Canonical s2 := h1.setBit
  have h3 : Canonical s3 := h2.logFault
  have h4 : Canonical s4 := h3.setBit
  have h5 : Canonical s5 := h4.withWdn
  have h6 : Canonical s6 := .ite h5 h5.modCore
  exact h6.taskDone

protected theorem Canonical.planIsland {base s c} (h : Canonical s) : Canonical (planIsland base s c) := by
  unfold planIsland
  extract_lets _ _ _ s1 _ s2 s3 s4 s5 s6 s7 s8 s9 s10 _ s11
  have h1 : Canonical s1 := h.withNv
  have h2 : Canonical s2 := h1.foldl fun _ _ h => h.setFld
  have h3 : Canonical s3 := h2.setFld
  have h4 : Canonical s4 := h3.setFld
  have h5 : Canonical s5 := h4.setFld
  have h6 : Canonical s6 := h5.setFld
  have h7 : Canonical s7 := h6.retire
  have h8 : Canonical s8 := h7.setBit
  have h9 : Canonical s9 := h8.setBit
  have h10 : Canonical s10 := h9.setBit
  have h11 : Canonical s11 := .ite h10.logFault h6
  exact h11.when .failIsland

protected theorem Canonical.planSram {base s} (h : Canonical s) : Canonical (planSram base s) :=
  h.withNv.setFld

protected theorem Canonical.planRun {s} (h : Canonical s) : Canonical (planRun s) := by
  unfold planRun
  extract_lets _ s1 s2 s3 s4 _ s5 _ s6
  have h1 : Canonical s1 := h.foldl fun _ _ h => h.planIsland
  have h2 : Canonical s2 := h1.planSram
  have h3 : Canonical s3 := h2.setBit
  have h4 : Canonical s4 := h3.countSat
  have h5 : Canonical s5 := h4.setFld
  have h6 : Canonical s6 := h5.withNv
  exact h6.foldl fun _ _ h => h.railUpdate

protected theorem Canonical.ageCtrlWrite {s v} (h : Canonical s) : Canonical (ageCtrlWrite s v) :=
  .ite h ((h.when .planRun).when fun h => h.setBit.withWdn)

protected theorem Canonical.energyWrite {s r a v} (h : Canonical s) : ∀ t ∈ energyWrite s r a v, Canonical t := by
  unfold energyWrite
  extract_lets _ _ _ _ _ s1 s2
  have h1 : Canonical s1 := h.plainWrite
  have h2 : Canonical s2 := h.plainWrite
  exact .iteOpt (.some h.postOp) <|
    .iteOpt (.some h.plainWrite) <|
    .iteOpt (.some h.plainWrite) <|
    .iteOpt (.some (h1.when .applyCaps)) <|
    .iteOpt (.some h.cancelOp) <|
    .iteOpt (.some h.forActWrite) <|
    .iteOpt (.some (h2.when .taskDone)) <|
    .iteOpt (.some h.plainWrite) <|
    .iteOpt (.some (h2.foldl fun _ _ h => h.when .setRail)) <|
    .iteOpt (.some (.ite h.restOn h.restOff)) <|
    .iteOpt (.some h.plainWrite) <|
    .iteOpt (.some h.ageCtrlWrite) <|
    .none

protected theorem Canonical.deviceWrite {s m r a v} (h : Canonical s) : ∀ t ∈ deviceWrite s m r a v, Canonical t := by
  unfold deviceWrite
  extract_lets _ _ s1
  have h1 : Canonical s1 := h.plainWrite
  exact .iteOpt (.some h.ringCtrlWrite) <|
    .iteOpt (.some h.ringNextOp) <|
    .iteOpt (.some h.ringGstepOp) <|
    .iteOpt (.some h.plainWrite) <|
    .iteOpt (.some h.subCtrlWrite) <|
    .iteOpt (.some h.marchCtrlWrite) <|
    .iteOpt (.some h.plainWrite) <|
    .iteOpt (.some h.pteSetWrite) <|
    .iteOpt (.some h.plainWrite) <|
    .iteOpt (.some h.xferPostOp) <|
    .iteOpt (.some (h1.when .abortEngine)) <|
    .iteOpt (.some h.portCtrlWrite) <|
    .iteOpt (.some h.mboxPost) <|
    .iteOpt (.some h.svcqBaseOp) <|
    .iteOpt (.some h.svcqTailOp) <|
    .iteOpt (.some h.plainWrite) <|
    .iteOpt (.some h.wtSeedOp) <|
    .iteOpt (.some h.wtPointOp) <|
    h.energyWrite

protected theorem Canonical.ctrlRegWrite {s m a v} (h : Canonical s) : Canonical (ctrlRegWrite s m a v) := by
  unfold ctrlRegWrite
  split
  exacts [h, .ite h (.ite ((h.plainWrite.getD h.coreRegWrite).keepWrite) (h.plainWrite.getD h.deviceWrite))]

protected theorem Canonical.sendResp {s k} (h : Canonical s) : Canonical (sendResp s k) :=
  .ite h.withRide h.sendOn

protected theorem Canonical.rxPut {s r} (h : Canonical s) : Canonical (rxPut s r) :=
  h.modRide

protected theorem Canonical.rxDone {s p} (h : Canonical s) : Canonical (rxDone s p) := by
  unfold rxDone
  split
  exacts [h.rxPut, h]

protected theorem Canonical.unhold {s p} (h : Canonical s) : Canonical (unhold s p) :=
  h.modRide

protected theorem Canonical.answer {s p status data} (h : Canonical s) : Canonical (answer s p status data) :=
  h.unhold.rxDone.sendResp

protected theorem Canonical.releaseWaits {s b v} (h : Canonical s) : Canonical (releaseWaits s b v) :=
  h.withCores.foldl fun _ _ h => h.when .answer

protected theorem Canonical.blzStore {s b v} (h : Canonical s) : Canonical (blzStore s b v) :=
  h.setFld.releaseWaits

protected theorem Canonical.blzAdd {s b n} (h : Canonical s) : Canonical (blzAdd s b n) :=
  .ite h.setFld.setBit.raiseInt.releaseWaits h.setFld.releaseWaits

protected theorem Canonical.blazeWrite {s a v} (h : Canonical s) : Canonical (blazeWrite s a v) :=
  .ite h.blzStore (.ite h.blzAdd (.ite (.ite h h.setFld) (h.when fun h => h.when .setBit)))

protected theorem Canonical.accPut {s k x} (h : Canonical s) : Canonical (accPut s k x) :=
  h.modMem

protected theorem Canonical.accClearOp {s k v} (h : Canonical s) : Canonical (accClearOp s k v) :=
  h.when .accPut

protected theorem Canonical.accAddOp {s k v} (h : Canonical s) : Canonical (accAddOp s k v) :=
  h.accPut

protected theorem Canonical.accAddSqOp {s k v} (h : Canonical s) : Canonical (accAddSqOp s k v) :=
  h.accPut

protected theorem Canonical.exaccWrite {s a v} (h : Canonical s) : Canonical (exaccWrite s a v) :=
  .ite h.accClearOp (.ite h.accAddOp (h.when .accAddSqOp))

protected theorem Canonical.regionWrite {s m a v} (h : Canonical s) : ∀ t ∈ regionWrite s m a v, Canonical t := by
  unfold regionWrite
  split
  exacts [.some h.ctrlRegWrite, .some h.blazeWrite, .some h.exaccWrite, .none]

protected theorem Canonical.storeBytes {s c a bs} (h : Canonical s) : (storeBytes s c a bs).Keeps := by
  unfold storeBytes
  extract_lets
  split
  · exact h.trapAt
  split
  · exact h.trapAt
  split
  · exact h.coreStore
  split
  · exact h.trapAt
  split
  · trivial
  split
  · exact h.drainMerge
  split
  · exact h.drainMerge.regionWrite _ ‹_›
  · exact h.trapAt

protected theorem Goes.storeX {c op n o s} : Goes s (storeX c op n o s) :=
  .runInstr fun _ h => h.storeBytes

protected theorem Goes.execSb {c o s} : Goes s (execSb c o s) :=
  .storeX

protected theorem Goes.execSh {c o s} : Goes s (execSh c o s) :=
  .storeX

protected theorem Goes.execSw {c o s} : Goes s (execSw c o s) :=
  .storeX

protected theorem Goes.execSd {c o s} : Goes s (execSd c o s) :=
  .storeX

protected theorem Goes.branch {c op o p s} : Goes s (branch c op o p s) := by
  unfold branch
  refine .runInstr fun s h => ?_
  split
  exacts [h, h]

protected theorem Goes.execBeq {c o s} : Goes s (execBeq c o s) :=
  .branch

protected theorem Goes.execBne {c o s} : Goes s (execBne c o s) :=
  .branch

protected theorem Goes.execBlt {c o s} : Goes s (execBlt c o s) :=
  .branch

protected theorem Goes.execBge {c o s} : Goes s (execBge c o s) :=
  .branch

protected theorem Goes.execBltu {c o s} : Goes s (execBltu c o s) :=
  .branch

protected theorem Goes.execBgeu {c o s} : Goes s (execBgeu c o s) :=
  .branch

protected theorem Goes.execJal {c o s} : Goes s (execJal c o s) :=
  .runInstr fun _ h => h.modCore

protected theorem Goes.execJalr {c o s} : Goes s (execJalr c o s) := by
  unfold execJalr
  refine .runInstr fun s h => ?_
  extract_lets
  split
  exacts [h.trapAt, h.modCore]

protected theorem Goes.fpInstr {c op o unused body s} (hb : ∀ s, Canonical s → (body s).Keeps) : Goes s (fpInstr c op o unused body s) := by
  refine .runInstr fun s h => ?_
  split
  exacts [h.illegal, hb _ h]

protected theorem Canonical.raiseF {s c fl} (h : Canonical s) : Canonical (raiseF s c fl) :=
  h.setReg

protected theorem Canonical.writeF {s c f rd r} (h : Canonical s) : (writeF s c f rd r).Keeps :=
  h.modCore.raiseF

protected theorem Goes.fpTwo {c op o f s} : Goes s (fpTwo c op o f s) :=
  .fpInstr fun _ h => h.writeF

protected theorem Goes.execFadd {c o s} : Goes s (execFadd c o s) :=
  .fpTwo

protected theorem Goes.execFsub {c o s} : Goes s (execFsub c o s) :=
  .fpTwo

protected theorem Goes.execFmul {c o s} : Goes s (execFmul c o s) :=
  .fpTwo

protected theorem Goes.execFdiv {c o s} : Goes s (execFdiv c o s) :=
  .fpTwo

protected theorem Goes.execFsqrt {c o s} : Goes s (execFsqrt c o s) :=
  .fpInstr fun _ h => h.writeF

protected theorem Goes.execFmadd {c o s} : Goes s (execFmadd c o s) :=
  .fpInstr fun _ h => h.writeF

protected theorem Goes.fpCompare {c op o quiet p s} : Goes s (fpCompare c op o quiet p s) :=
  .fpInstr fun _ h => h.raiseF.writeX

protected theorem Goes.execFeq {c o s} : Goes s (execFeq c o s) :=
  .fpCompare

protected theorem Goes.execFlt {c o s} : Goes s (execFlt c o s) :=
  .fpCompare

protected theorem Goes.execFle {c o s} : Goes s (execFle c o s) :=
  .fpCompare

protected theorem Goes.execFcvtff {c o s} : Goes s (execFcvtff c o s) :=
  .fpInstr fun _ h => h.writeF

protected theorem Goes.execFcvtfh {c o s} : Goes s (execFcvtfh c o s) :=
  .fpInstr fun _ h => h.writeF

protected theorem Goes.execFcvthf {c o s} : Goes s (execFcvthf c o s) :=
  .fpInstr fun _ h => h.writeF

protected theorem Goes.execFcvtif {c o s} : Goes s (execFcvtif c o s) :=
  .fpInstr fun _ h => h.writeF

protected theorem Goes.execFcvtuf {c o s} : Goes s (execFcvtuf c o s) :=
  .fpInstr fun _ h => h.writeF

protected theorem Goes.fpToInt {c op o lo hi s} : Goes s (fpToInt c op o lo hi s) :=
  .fpInstr fun _ h => h.raiseF.writeX

protected theorem Goes.execFcvtfi {c o s} : Goes s (execFcvtfi c o s) :=
  .fpToInt

protected theorem Goes.execFcvtfu {c o s} : Goes s (execFcvtfu c o s) :=
  .fpToInt

protected theorem Goes.execFmvxf {c o s} : Goes s (execFmvxf c o s) :=
  .fpInstr fun _ h => h.writeX

protected theorem Goes.execFmvfx {c o s} : Goes s (execFmvfx c o s) :=
  .fpInstr fun _ h => h.modCore

protected theorem Goes.execFstatr {c o s} : Goes s (execFstatr c o s) := by
  unfold execFstatr
  refine .fpInstr fun s h => ?_
  split
  exacts [h.illegal, h.writeX]

protected theorem Goes.execFstatw {c o s} : Goes s (execFstatw c o s) := by
  unfold execFstatw
  refine .fpInstr fun s h => ?_
  split
  exacts [h.illegal, h.setReg.writeX]

protected theorem Goes.execFlw {c o s} : Goes s (execFlw c o s) := by
  unfold execFlw
  refine .runInstr fun s h => ?_
  split
  · exact (h.loadBytes.ok ‹_›).modCore
  · exact h.loadBytes.stop ‹_›

protected theorem Goes.execFld {c o s} : Goes s (execFld c o s) := by
  unfold execFld
  refine .runInstr fun s h => ?_
  split
  · exact (h.loadBytes.ok ‹_›).modCore
  · exact h.loadBytes.stop ‹_›

protected theorem Goes.execFsw {c o s} : Goes s (execFsw c o s) :=
  .runInstr fun _ h => h.storeBytes

protected theorem Goes.execFsd {c o s} : Goes s (execFsd c o s) :=
  .runInstr fun _ h => h.storeBytes

protected theorem Goes.execLcall {c o s} : Goes s (execLcall c o s) :=
  .runInstr fun _ h => h

protected theorem Goes.execBrk {c o s} : Goes s (execBrk c o s) :=
  .runInstr fun _ h => h.trapAt

protected theorem Canonical.quietRequest {s c n} (h : Canonical s) : Canonical (quietRequest s c n).1 :=
  .iteFst (h.when .modCore) (.iteFst h.count ((h.when .setBit).modCore))

protected theorem Goes.execQwin {c o s} : Goes s (execQwin c o s) := by
  unfold execQwin
  refine .runInstr fun s h => ?_
  split
  · exact h.illegal
  extract_lets s21
  have h21 : Canonical s21.1 := h.quietRequest
  exact h21.writeX

protected theorem Goes.execWfi {c o s} : Goes s (execWfi c o s) := by
  unfold execWfi
  refine .runInstr fun s h => ?_
  split
  · exact h.illegal
  split
  exacts [h, h.modCore]

end Sys2Proof.Machine
end

section
/-! SUPPORT. The canonical form, kept by vectors, blazes and the fabric. -/
namespace Sys2Proof.Machine
open Host
set_option Elab.async false

protected theorem Canonical.loadRun {s c a n} (h : Canonical s) : (loadRun s c a n).Keeps := by
  induction n generalizing s a with
  | zero => exact h
  | succ n ih =>
    unfold loadRun
    split
    · have hr := ih (a := a + 64) (h.coreLoad.fst ‹_›)
      split
      · exact hr.ok ‹_›
      · exact hr
    · exact h.coreLoad.fst ‹_›
    · exact h.coreLoad.fst ‹_›
    · trivial

protected theorem Canonical.restoreFrame {s c f} (h : Canonical s) : Canonical (restoreFrame s c f) := by
  unfold restoreFrame
  extract_lets _ s1 s2 s3 s4 s5 s6 s7
  have h1 : Canonical s1 := h.setFld
  have h2 : Canonical s2 := h1.setBit
  have h3 : Canonical s3 := h2.setBit
  have h4 : Canonical s4 := h3.setFld
  have h5 : Canonical s5 := h4.setFld
  have h6 : Canonical s6 := h5.setReg
  have h7 : Canonical s7 := h6.modCore
  exact .ite h7.setBit h7.setReg

protected theorem Goes.execRfe {c o s} : Goes s (execRfe c o s) := by
  unfold execRfe
  refine .runInstr fun s h => ?_
  split
  · exact h.illegal
  extract_lets
  split
  · exact h.loadRun.stop ‹_›
  split
  · exact (h.loadRun.ok ‹_›).restoreFrame
  · exact (h.loadRun.ok ‹_›).trapAt

protected theorem Goes.execFseal {c o s} : Goes s (execFseal c o s) := by
  unfold execFseal
  refine .runInstr fun s h => ?_
  split
  · exact h.illegal
  extract_lets
  split
  · exact h.trapAt
  split
  · exact h.loadRun.stop ‹_›
  · exact (h.loadRun.ok ‹_›).coreStore

protected theorem Goes.execTaskj {c o s} : Goes s (execTaskj c o s) := by
  unfold execTaskj
  refine .runInstr fun s h => ?_
  split
  · exact h.illegal
  extract_lets
  split
  exacts [h.trapAt, h.setFld]

protected theorem Goes.execCanreq {c o s} : Goes s (execCanreq c o s) := by
  unfold execCanreq
  refine .runInstr fun s h => ?_
  split
  · exact h.illegal
  extract_lets _ s21
  have h21 : Canonical s21 := h.drainMerge
  split
  exacts [h21, h21.withWdn]

protected theorem Goes.execCstop {c o s} : Goes s (execCstop c o s) := by
  unfold execCstop
  refine .runInstr fun s h => ?_
  split
  exacts [h.illegal, h.setPc.stopCore]

protected theorem Canonical.setFinfo {s c reason mrow off} (h : Canonical s) : Canonical (setFinfo s c reason mrow off) :=
  h.setReg

protected theorem Canonical.tileIllegal {s c reason} (h : Canonical s) : (tileIllegal s c reason).Keeps :=
  (Canonical.ite h h.setFinfo).illegal

protected theorem Canonical.imageRead {s c rs} (h : Canonical s) : Canonical (imageRead s c rs).1 := by
  unfold imageRead
  refine h.foldlFst fun s x h => ?_
  split
  · exact h
  extract_lets rd
  have hrd (s a n) (h : Canonical s) : Canonical (rd s a n).1 := .iteFst h h.eccSpan
  split
  · exact (hrd _ _ _ h).fst ‹_›
  · exact hrd _ _ _ ((hrd _ _ _ h).fst ‹_›)

protected theorem Canonical.rampRow {s c} (h : Canonical s) : Canonical (rampRow s c) :=
  (h.when .setFld).setBit

protected theorem Canonical.useTiles {s c ts} (h : Canonical s) : Canonical (useTiles s c ts) :=
  h.setFld

protected theorem Canonical.tileIssue {s c w lanes draws work} (h : Canonical s) : (tileIssue s c w lanes draws work).Keeps :=
  h.modCore

protected theorem Goes.mmaIssue {c four o s} : Goes s (mmaIssue c four o s) := by
  unfold mmaIssue
  refine .runInstr fun s h => ?_
  extract_lets f k shape base size lanes
  refine .ite h.illegal (.ite h.tileIllegal (.ite h.logFault (.ite h.setFinfo.trapAt (.ite trivial ?_))))
  have hi : Canonical (if four = true then
      imageRead s c (imageRows base (shapeM shape) (shapeK shape * tfBits f / 8) (if isBlock f = true then shapeK shape / 32 else 0))
    else (s, [], none)).1 := .iteFst h.imageRead h
  revert hi
  generalize (if four = true then (_ : State × List (Nat × Nat) × _) else _) = p
  intro ht
  obtain ⟨t, images, bad⟩ := p
  cases bad with
  | none => exact (Canonical.useTiles ht).rampRow.tileIssue
  | some b => exact Canonical.count ht

protected theorem Goes.execTmma {c o s} : Goes s (execTmma c o s) :=
  .mmaIssue

protected theorem Goes.execTmma4 {c o s} : Goes s (execTmma4 c o s) :=
  .mmaIssue

protected theorem Canonical.fillL1 {line s r} (h : Canonical s) : Canonical (fillL1 line s r) :=
  .ite h h.modCore

protected theorem Canonical.fillDone {s n f} (h : Canonical s) : Canonical (fillDone s n f) :=
  .ite (h.setSlice.foldl fun _ _ h => h.modCore) ((h.setSlice.foldl fun _ _ h => h.modCore).l2Install.foldl fun _ _ h => h.fillL1)

protected theorem Canonical.makeRoom {c a n fuel s} (h : Canonical s) : Canonical (makeRoom c a n fuel s) := by
  induction fuel generalizing s with
  | zero => exact h
  | succ fuel ih =>
    unfold makeRoom
    split
    · exact h
    · extract_lets own home
      split
      exacts [ih h.fillDone, h]

protected theorem Canonical.moveRead {s c a n} (h : Canonical s) : Canonical (moveRead s c a n).1 := by
  unfold moveRead
  split
  · refine h.foldlFst fun p x h => ?_
    split
    · extract_lets t
      have ht : Canonical t := h.when .makeRoom
      split
      · exact ht.coreLoad.fst ‹_›
      · exact ht.coreLoad
    · exact h
  · split
    · split
      · exact h.drainMerge.regionRead _ ‹_›
      · exact h
    · exact h

protected theorem Canonical.loadRow {c d base sbase p m} (h : Canonical p.1) : Canonical (loadRow c d base sbase p m).1 := by
  unfold loadRow
  split
  · exact h
  extract_lets s1 a sa bad
  split
  · exact h
  · exact h
  split
  · exact h
  · exact h.moveRead.fst ‹_›
  · exact h.moveRead.fst ‹_›
  · have ht := h.moveRead.fst ‹_›
    split
    · exact ht
    split
    · exact h
    · exact ht.moveRead.fst ‹_›
    · exact ht.moveRead.fst ‹_›
    · exact ht.moveRead.fst ‹_›

protected theorem Canonical.moveFault {s c z} (h : Canonical s) : (moveFault s c z).Keeps := by
  unfold moveFault
  extract_lets s1
  have h1 : Canonical s1 := by unfold s1; split; exacts [h.setFinfo, h]
  exact h1.count

protected theorem Canonical.cutShort {s c} (h : Canonical s) : (cutShort s c).Keeps :=
  h.count

protected theorem Goes.execTld {c o s} : Goes s (execTld c o s) := by
  unfold execTld
  extract_lets
  refine .runInstr fun s h => ?_
  extract_lets _ _ _ _ s21 s22 _ _ _ s23
  have h21 : Canonical s21 := h.useTiles
  have h22 : Canonical s22.1 := h21.foldlFst fun _ _ h => h.loadRow
  have h23 : Canonical s23 := h22.setLanes
  split
  · exact h.tileIllegal
  split
  · trivial
  split
  · exact h.drainMerge
  split
  · trivial
  split
  · exact (Canonical.ite h22 h22.cutTile).moveFault
  split
  exacts [(Canonical.ite h22 h22.cutTile).cutShort, h23.tileIssue]

protected theorem Canonical.regWord {s c w} (h : Canonical s) : Canonical (regWord s c w).1 := by
  unfold regWord
  extract_lets
  split
  · split
    · exact h.wtEvent.fst ‹_›
    · exact .iteFst ((h.wtEvent.fst ‹_›).free.logFault) ((h.wtEvent.fst ‹_›).free.logFault.doomRunning)

protected theorem Canonical.regWords {c i ws s} (h : Canonical s) : Canonical (regWords c i ws s).1 := by
  induction ws generalizing i s with
  | nil => exact h
  | cons w ws ih =>
    unfold regWords
    split
    · exact h.regWord.fst ‹_›
    · exact ih (h.regWord.fst ‹_›)

protected theorem Canonical.regReads {s c i ws} (h : Canonical s) : Canonical (regReads s c i ws).1 :=
  .iteFst h.regWords h

protected theorem Canonical.moveWrite {s c a bs} (h : Canonical s) : Canonical (moveWrite s c a bs).1 := by
  unfold moveWrite
  extract_lets _ _ s1
  have h1 : Canonical s1 := h.drainMerge
  split
  · exact h.storeSpan
  split
  · split
    · exact h1
    split
    · exact h1.regionWrite _ ‹_›
    · exact h
  · exact h

protected theorem Canonical.storeRow {c d t md base sbase p m} (h : Canonical p.1) : Canonical (storeRow c d t md base sbase p m).1 := by
  unfold storeRow
  split
  · exact h
  extract_lets s1 a sa bad
  split
  · exact h
  · exact h
  split
  · exact h
  · exact h.moveWrite.fst ‹_›
  · have ht := h.moveWrite.fst ‹_›
    split
    · exact ht
    split
    · exact h
    · exact ht.moveWrite.fst ‹_›
    · exact ht.moveWrite.fst ‹_›

protected theorem Canonical.commitNV {s c nv} (h : Canonical s) : Canonical (commitNV s c nv) :=
  h.when .reportNV

protected theorem Canonical.commitFlags {s c g bits sat flush} (h : Canonical s) : Canonical (commitFlags s c g bits sat flush) := by
  unfold commitFlags
  extract_lets _ s1
  have h1 : Canonical s1 := h.setFld
  split
  exacts [h1.countSat.countSat, h1.countSat.countSat, h1.countSat.countSat]

protected theorem Canonical.commitBits {s c g bits sat flush} (h : Canonical s) : Canonical (commitBits s c g bits sat flush) :=
  h.commitFlags.commitNV

protected theorem Canonical.commitTally {s c g t} (h : Canonical s) : Canonical (commitTally s c g t) :=
  h.commitBits

protected theorem Goes.execTst {c o s} : Goes s (execTst c o s) := by
  unfold execTst
  refine .runInstr fun s h => ?_
  extract_lets
  split
  · exact h.tileIllegal
  split
  · exact h.drainMerge
  split
  · exact (h.regReads.fst ‹_›).moveFault
  extract_lets s51
  have h51 : Canonical s51.1 := (h.regReads.fst ‹_›).foldlFst fun _ _ h => h.storeRow
  split
  · exact h51.moveFault
  split
  · exact h51
  split
  exacts [h51.cutShort, (Canonical.ite h51.setLanes h51).commitTally]

protected theorem Goes.execTzero {c o s} : Goes s (execTzero c o s) := by
  unfold execTzero
  refine .runInstr fun s h => ?_
  split
  · exact h.illegal
  split
  exacts [h.useTiles.cutTile.cutShort, h.useTiles.modCore]

protected theorem Goes.execTfree {c o s} : Goes s (execTfree c o s) := by
  unfold execTfree
  refine .runInstr fun s h => ?_
  split
  exacts [h.illegal, h.setFld]

protected theorem Goes.execTgetv {c o s} : Goes s (execTgetv c o s) := by
  unfold execTgetv
  refine .runInstr fun s h => ?_
  split
  · exact h.illegal
  split
  · exact (h.regReads.fst ‹_›).moveFault
  split
  · exact (h.regReads.fst ‹_›).withFreeCtr.modCore.cutShort
  · exact (h.regReads.fst ‹_›).modCore

protected theorem Goes.execTputv {c o s} : Goes s (execTputv c o s) := by
  unfold execTputv
  refine .runInstr fun s h => ?_
  split
  · exact h.illegal
  extract_lets s21
  have h21 : Canonical s21 := h.useTiles
  split
  · exact (h21.regReads.fst ‹_›).moveFault
  split
  · exact (h21.regReads.fst ‹_›).withFreeCtr.modCore.cutShort
  · exact (h21.regReads.fst ‹_›).modCore

protected theorem Goes.memVec {c fn o narrow body s} (hb : ∀ x n s, Canonical s → (body x n s).Keeps) : Goes s (memVec c fn o narrow body s) := by
  refine .runInstr fun s h => ?_
  split
  exacts [h.illegal, hb _ _ _ h]

protected theorem Canonical.vecQueue {x c done nv s t} (h : Canonical t) : Canonical (vecQueue x c done nv s t) :=
  h.commitNV.modCore

protected theorem Canonical.vecNone {x c s} (h : Canonical s) : Canonical (vecNone x c s) :=
  h.vecQueue

protected theorem Canonical.vecDone {x c done nv s t} (h : Canonical t) : Canonical (vecDone x c done nv s t) :=
  h.setReg.vecQueue

protected theorem Canonical.vecCommit {x c p} (h : Canonical p.1) : Canonical (vecCommit x c p) :=
  .ite ((h.modCore.when .setLanes).commitFlags) ((h.modCore.when .setLanes).commitFlags.count)

protected theorem Canonical.vecRun {x c n men km cut beat last s} (h : Canonical s)
    (hb : ∀ lo hi act p, Canonical p.1 → Canonical (beat lo hi act p).1) (hl : ∀ s, Canonical s → Canonical (last s)) :
    (vecRun x c n men km cut beat last s).Keeps := by
  unfold vecRun
  extract_lets start epb upto t m beats p t1 nv
  have ht : Canonical t := .ite h h.count
  have hp : Canonical p.1 := by
    refine Canonical.foldlFst ht fun p b h => .iteFst h ?_
    extract_lets lo hi act acc q
    have hq : Canonical q.1 := hb _ _ _ _ h
    exact .iteFst (.pair hq) hq
  have h1 : Canonical t1 := hp.vecCommit
  split
  · exact h.vecNone
  split
  · exact ht.vecDone
  split
  · trivial
  split
  · trivial
  split
  · exact h1.setFld.commitNV
  split
  · exact h1.setFld.commitNV
  · exact (hl _ h1).vecDone

protected theorem Canonical.readSources {x c lo hi s} (h : Canonical s) : Canonical (readSources x c lo hi s).1 := by
  unfold readSources
  refine h.foldlFst fun s x h => ?_
  split
  · exact h
  extract_lets
  split
  · exact h.regReads.fst ‹_›
  · exact h.regReads.fst ‹_›

protected theorem Canonical.beatServe {s c rs} (h : Canonical s) : Canonical (beatServe s c rs) :=
  h.foldl fun _ _ h => .ite h.refetch h.bankBeats

protected theorem Canonical.beatFetch {s c hint m rs} (h : Canonical s) : ∀ p ∈ beatFetch s c hint m rs, Canonical p.1 := by
  unfold beatFetch
  extract_lets ls u t
  have hu : Canonical u := h.foldl fun _ _ h => h.settleSub
  have ht : Canonical t := hu.beatServe.cacheLines
  split
  · exact .noneFst
  refine .someFst (Canonical.foldlFst ht fun p r h => ?_)
  split
  · exact h
  split
  · exact h.eccSpan.fst ‹_›
  · exact h.eccSpan.fst ‹_›

protected theorem Canonical.loadBeat {c x vs vd f lo hi act p} (h : Canonical p.1) : Canonical (loadBeat c x vs vd f lo hi act p).1 := by
  unfold loadBeat
  split
  · split
    · split
      · exact h.readSources.fst ‹_›
      · exact (h.readSources.fst ‹_›).beatFetch _ ‹_›

protected theorem Canonical.countMisalign {s c x n men km} (h : Canonical s) : Canonical (countMisalign s c x n men km) :=
  h.when .count

protected theorem Goes.loadVec {c fn o narrow f s} : Goes s (loadVec c fn o narrow f s) :=
  .memVec fun _ _ _ h => h.vecRun (fun _  _  _  _ h => h.loadBeat) (fun _ h => h.countMisalign)

protected theorem Goes.execVld {c o s} : Goes s (execVld c o s) :=
  .loadVec

protected theorem Goes.execVldff {c o s} : Goes s (execVldff c o s) := by
  refine .memVec fun x n s h => ?_
  extract_lets first vs
  have hr : (vecRun vs c n o.men o.km o.cut (loadBeat c x vs o.vd fun v => (v, {})) (fun t => countMisalign t c x n o.men o.km) s).Keeps :=
    h.vecRun (fun _ _ _ _ h => h.loadBeat) fun _ h => h.countMisalign
  generalize vecRun _ _ _ _ _ _ _ _ _ = r at hr ⊢
  split
  · exact .ite hr (Canonical.setReg hr).setBit.countMisalign.vecDone
  · exact hr

protected theorem Goes.execVldw {c o s} : Goes s (execVldw c o s) :=
  .loadVec

protected theorem Canonical.storeBeat {c x vs vd f lo hi act p} (h : Canonical p.1) : Canonical (storeBeat c x vs vd f lo hi act p).1 :=
  h.readSources.foldl fun _ _ h => h.coreStore

protected theorem Goes.storeVec {c fn o narrow draws f s} : Goes s (storeVec c fn o narrow draws f s) :=
  .memVec fun _ _ _ h => h.vecRun (fun _  _  _  _ h => h.storeBeat) (fun _ h => h.countMisalign)

protected theorem Goes.execVst {c o s} : Goes s (execVst c o s) :=
  .storeVec

protected theorem Goes.execVstn {c o s} : Goes s (execVstn c o s) :=
  .storeVec

protected theorem Goes.execVstns {c o s} : Goes s (execVstns c o s) :=
  .storeVec

protected theorem Canonical.arrayOut {s c a} (h : Canonical s) : Canonical (arrayOut s c a) :=
  h.setFld.when .setFld

protected theorem Canonical.residueCheck {s c lane array unit w pc} (h : Canonical s) : Canonical (residueCheck s c lane array unit w pc).1 :=
  .iteFst h.wtEvent ((h.wtEvent.count.when fun h => .ite h.modCore h.modCore.arrayOut.retire).logFault.doomRunning)

protected theorem Canonical.vecElem {x c w pc f p e} (h : Canonical p.1) : Canonical (vecElem x c w pc f p e).1 := by
  unfold vecElem
  split
  · exact h
  split
  · exact (Canonical.iteFst h.residueCheck h).fst ‹_›
  · exact (Canonical.iteFst h.residueCheck h).fst ‹_›

protected theorem Canonical.arithBeat {x c w pc f lo hi act p} (h : Canonical p.1) : Canonical (arithBeat x c w pc f lo hi act p).1 := by
  have hs := h.readSources (x := x) (c := c) (lo := lo) (hi := hi)
  unfold arithBeat
  split
  rename_i t bad e
  split
  rename_i u a e'
  exact Canonical.fst (Canonical.foldlFst (hs.fst e) fun _ _ h => h.vecElem) e'

protected theorem Goes.intVec {c fn o f s} : Goes s (intVec c fn o f s) := by
  unfold intVec
  extract_lets
  refine .runInstr fun s h => ?_
  split
  exacts [h.illegal, h.vecRun (fun _  _  _  _ h => h.arithBeat) (fun _ h => h)]

protected theorem Goes.execVadd {c o s} : Goes s (execVadd c o s) :=
  .intVec

protected theorem Goes.execVsub {c o s} : Goes s (execVsub c o s) :=
  .intVec

protected theorem Goes.execVmul {c o s} : Goes s (execVmul c o s) :=
  .intVec

protected theorem Goes.execVmulhu {c o s} : Goes s (execVmulhu c o s) :=
  .intVec

protected theorem Goes.execVand {c o s} : Goes s (execVand c o s) :=
  .intVec

protected theorem Goes.execVor {c o s} : Goes s (execVor c o s) :=
  .intVec

protected theorem Goes.execVxor {c o s} : Goes s (execVxor c o s) :=
  .intVec

protected theorem Goes.execVsll {c o s} : Goes s (execVsll c o s) :=
  .intVec

protected theorem Goes.execVsrl {c o s} : Goes s (execVsrl c o s) :=
  .intVec

protected theorem Goes.execVsra {c o s} : Goes s (execVsra c o s) :=
  .intVec

protected theorem Goes.execVmin {c o s} : Goes s (execVmin c o s) :=
  .intVec

protected theorem Goes.execVmax {c o s} : Goes s (execVmax c o s) :=
  .intVec

protected theorem Goes.execVminu {c o s} : Goes s (execVminu c o s) :=
  .intVec

protected theorem Goes.execVmaxu {c o s} : Goes s (execVmaxu c o s) :=
  .intVec

protected theorem Goes.execVabsdu {c o s} : Goes s (execVabsdu c o s) :=
  .intVec

protected theorem Goes.fltVec {c op fn o bad check busy srcs f s} : Goes s (fltVec c op fn o bad check busy srcs f s) := by
  unfold fltVec
  extract_lets
  refine .runInstr fun s h => ?_
  split
  exacts [h.illegal, h.vecRun (fun _  _  _  _ h => h.arithBeat) (fun _ h => h)]

protected theorem Goes.flt2 {c fn o check busy f s} : Goes s (flt2 c fn o check busy f s) :=
  .fltVec

protected theorem Goes.execVfadd {c o s} : Goes s (execVfadd c o s) :=
  .flt2

protected theorem Goes.execVfsub {c o s} : Goes s (execVfsub c o s) :=
  .flt2

protected theorem Goes.execVfmul {c o s} : Goes s (execVfmul c o s) :=
  .flt2

protected theorem Goes.execVfdiv {c o s} : Goes s (execVfdiv c o s) :=
  .flt2

protected theorem Goes.flt1 {c fn o check busy f s} : Goes s (flt1 c fn o check busy f s) :=
  .fltVec

protected theorem Goes.execVfsqrt {c o s} : Goes s (execVfsqrt c o s) :=
  .flt1

protected theorem Goes.execVfmax {c o s} : Goes s (execVfmax c o s) :=
  .flt2

protected theorem Goes.execVfmin {c o s} : Goes s (execVfmin c o s) :=
  .flt2

protected theorem Goes.execVfabs {c o s} : Goes s (execVfabs c o s) :=
  .flt1

protected theorem Goes.execVfneg {c o s} : Goes s (execVfneg c o s) :=
  .flt1

protected theorem Goes.execVfexp {c o s} : Goes s (execVfexp c o s) :=
  .flt1

protected theorem Goes.execVflog {c o s} : Goes s (execVflog c o s) :=
  .flt1

protected theorem Goes.execVfrsqrt {c o s} : Goes s (execVfrsqrt c o s) :=
  .flt1

protected theorem Goes.execVfrecip {c o s} : Goes s (execVfrecip c o s) :=
  .flt1

protected theorem Goes.fltCmp {c fn o quiet p s} : Goes s (fltCmp c fn o quiet p s) := by
  unfold fltCmp
  extract_lets
  refine .runInstr fun s h => ?_
  split
  exacts [h.illegal, h.vecRun (fun _  _  _  _ h => h.arithBeat) (fun _ h => h)]

protected theorem Goes.execVfceq {c o s} : Goes s (execVfceq c o s) :=
  .fltCmp

protected theorem Goes.execVfclt {c o s} : Goes s (execVfclt c o s) :=
  .fltCmp

protected theorem Goes.execVfcle {c o s} : Goes s (execVfcle c o s) :=
  .fltCmp

protected theorem Goes.execVfma {c o s} : Goes s (execVfma c o s) :=
  .fltVec

protected theorem Goes.execVfms {c o s} : Goes s (execVfms c o s) :=
  .fltVec

protected theorem Goes.execVfnma {c o s} : Goes s (execVfnma c o s) :=
  .fltVec

protected theorem Canonical.vecWhole {x c w n men km cut f s} (h : Canonical s) : (vecWhole x c w n men km cut f s).Keeps := by
  unfold vecWhole
  extract_lets epb pc act y
  split
  · exact h.vecNone
  split
  · trivial
  split
  rename_i t0 bad0 e0
  split
  rename_i t1 bad1 e1
  extract_lets p p1
  have h1 : Canonical t1 := by
    refine Canonical.fst (Canonical.foldlFst (h.readSources.fst e0) fun q w h => ?_) e1
    split
    · exact h
    · split
      · exact h.regReads.fst ‹_›
      · exact h.regReads.fst ‹_›
  have hp0 : Canonical p.1 := h1
  clear_value p
  have hp : Canonical p1.1 := .iteFst (hp0.foldlFst fun _ _ h => h.vecElem) hp0
  clear_value p1
  split
  · exact hp.setReg
  · exact .vecDone (.vecCommit (.pair hp))

protected theorem Goes.wholeX {c w o bad x f s} : Goes s (wholeX c w o bad x f s) := by
  unfold wholeX
  refine .runInstr fun s h => ?_
  split
  exacts [h.illegal, h.vecWhole]

protected theorem Goes.redVec {c fn o f s} : Goes s (redVec c fn o f s) :=
  .wholeX

protected theorem Goes.execVredsum {c o s} : Goes s (execVredsum c o s) :=
  .redVec

protected theorem Goes.execVredmax {c o s} : Goes s (execVredmax c o s) :=
  .redVec

protected theorem Goes.execVredmin {c o s} : Goes s (execVredmin c o s) :=
  .redVec

protected theorem Goes.wholeF {c w o bad x f s} : Goes s (wholeF c w o bad x f s) := by
  unfold wholeF
  refine .runInstr fun s h => ?_
  split
  exacts [h.illegal, h.vecWhole]

protected theorem Goes.fltRed {c fn o check op s} : Goes s (fltRed c fn o check op s) := by
  unfold fltRed
  exact .wholeF

protected theorem Goes.execVfredsum {c o s} : Goes s (execVfredsum c o s) :=
  .fltRed

protected theorem Goes.execVfredmax {c o s} : Goes s (execVfredmax c o s) :=
  .fltRed

protected theorem Goes.execVfredmin {c o s} : Goes s (execVfredmin c o s) :=
  .fltRed

protected theorem Goes.execVfdot {c o s} : Goes s (execVfdot c o s) := by
  unfold execVfdot
  exact .wholeF

protected theorem Goes.execVsad {c o s} : Goes s (execVsad c o s) := by
  unfold execVsad
  extract_lets
  refine .runInstr fun s h => ?_
  split
  exacts [h.illegal, h.vecRun (fun _  _  _  _ h => h.arithBeat) (fun _ h => h)]

protected theorem Goes.execVsadf {c o s} : Goes s (execVsadf c o s) := by
  unfold execVsadf
  extract_lets
  refine .runInstr fun s h => ?_
  split
  exacts [h.illegal, h.vecWhole]

protected theorem Goes.execVsetvl {c o s} : Goes s (execVsetvl c o s) := by
  unfold execVsetvl
  refine .runInstr fun s h => ?_
  split
  · exact h.illegal
  split
  · trivial
  extract_lets _ s31
  have h31 : Canonical s31 := h.setReg.modCore
  exact h31.count.vecDone

protected theorem Goes.miscVec {c fn o bad srcs f s} : Goes s (miscVec c fn o bad srcs f s) := by
  unfold miscVec
  extract_lets
  refine .runInstr fun s h => ?_
  split
  exacts [h.illegal, h.vecRun (fun _  _  _  _ h => h.arithBeat) (fun _ h => h)]

protected theorem Goes.execVmv {c o s} : Goes s (execVmv c o s) :=
  .miscVec

protected theorem Goes.execVsplat {c o s} : Goes s (execVsplat c o s) :=
  .miscVec

protected theorem Goes.cmpVec {c fn o p s} : Goes s (cmpVec c fn o p s) := by
  unfold cmpVec
  exact .miscVec

protected theorem Goes.execVceq {c o s} : Goes s (execVceq c o s) :=
  .cmpVec

protected theorem Goes.execVclt {c o s} : Goes s (execVclt c o s) :=
  .cmpVec

protected theorem Goes.execVcltu {c o s} : Goes s (execVcltu c o s) :=
  .cmpVec

protected theorem Goes.maskVec {c fn o p s} : Goes s (maskVec c fn o p s) :=
  .miscVec

protected theorem Goes.execVmand {c o s} : Goes s (execVmand c o s) :=
  .maskVec

protected theorem Goes.execVmor {c o s} : Goes s (execVmor c o s) :=
  .maskVec

protected theorem Goes.execVmxor {c o s} : Goes s (execVmxor c o s) :=
  .maskVec

protected theorem Goes.execVmandn {c o s} : Goes s (execVmandn c o s) :=
  .maskVec

protected theorem Goes.execVmpop {c o s} : Goes s (execVmpop c o s) :=
  .wholeX

protected theorem Goes.execVmfirst {c o s} : Goes s (execVmfirst c o s) :=
  .wholeX

protected theorem Goes.cvtVec {c fn o bad from_ to_ draws f s} : Goes s (cvtVec c fn o bad from_ to_ draws f s) := by
  unfold cvtVec
  extract_lets
  refine .runInstr fun s h => ?_
  split
  exacts [h.illegal, h.vecRun (fun _  _  _  _ h => h.arithBeat) (fun _ h => h)]

protected theorem Goes.execVcvtfw {c o s} : Goes s (execVcvtfw c o s) :=
  .cvtVec

protected theorem Goes.execVcvtwf {c o s} : Goes s (execVcvtwf c o s) :=
  .cvtVec

protected theorem Goes.execVcvtwfs {c o s} : Goes s (execVcvtwfs c o s) :=
  .cvtVec

protected theorem Goes.execVcvtif {c o s} : Goes s (execVcvtif c o s) :=
  .cvtVec

protected theorem Goes.execVcvtfi {c o s} : Goes s (execVcvtfi c o s) :=
  .cvtVec

protected theorem Goes.blockVec {c fn o from_ scaled bad f s} : Goes s (blockVec c fn o from_ scaled bad f s) := by
  unfold blockVec
  extract_lets
  refine .runInstr fun s h => ?_
  extract_lets
  split
  exacts [h.illegal, h.vecWhole]

protected theorem Goes.execVcvtb {c o s} : Goes s (execVcvtb c o s) := by
  unfold execVcvtb
  exact .blockVec

protected theorem Goes.execVcvtbf {c o s} : Goes s (execVcvtbf c o s) := by
  unfold execVcvtbf
  exact .blockVec

protected theorem Goes.execVrand {c o s} : Goes s (execVrand c o s) := by
  unfold execVrand
  extract_lets
  refine .runInstr fun s h => ?_
  split
  exacts [h.illegal, h.vecRun (fun _  _  _  _ h => h.arithBeat) (fun _ h => h)]

protected theorem Goes.execVrseed {c o s} : Goes s (execVrseed c o s) := by
  unfold execVrseed
  refine .runInstr fun s h => ?_
  split
  · exact h.illegal
  split
  · trivial
  extract_lets s31
  have h31 : Canonical s31 := h.setLanes
  exact h31.count.vecDone

protected theorem Goes.updVec {c op o bad check draws busy srcs f s} : Goes s (updVec c op o bad check draws busy srcs f s) := by
  unfold updVec
  extract_lets
  refine .runInstr fun s h => ?_
  split
  exacts [h.illegal, h.vecRun (fun _  _  _  _ h => h.arithBeat) (fun _ h => h)]

protected theorem Goes.execVmom {c o s} : Goes s (execVmom c o s) := by
  unfold execVmom
  exact .updVec

protected theorem Goes.execVbias {c o s} : Goes s (execVbias c o s) := by
  unfold execVbias
  extract_lets
  refine .runInstr fun s h => ?_
  split
  · exact h.illegal
  split
  · trivial
  extract_lets
  split
  · exact (h.residueCheck.fst ‹_›).setReg
  extract_lets s61 s62
  have h61 : Canonical s61 := (h.residueCheck.fst ‹_›).modCore
  have h62 : Canonical s62 := h61.commitFlags
  exact h62.count.vecDone

protected theorem Goes.execVsign {c o s} : Goes s (execVsign c o s) :=
  .updVec

protected theorem Goes.execVsrnd {c o s} : Goes s (execVsrnd c o s) := by
  unfold execVsrnd
  exact .updVec

protected theorem Goes.execFence {c o s} : Goes s (execFence c o s) := by
  unfold execFence
  refine .runInstr fun s h => ?_
  split
  · exact h.illegal
  split
  · extract_lets s31
    have h31 : Canonical s31 := h.drainMerge
    split
    exacts [h31, h31]
  · exact h

protected theorem Goes.execFenceG {c o s} : Goes s (execFenceG c o s) := by
  unfold execFenceG
  refine .runInstr fun s h => ?_
  split
  · exact h.illegal
  split
  · trivial
  · exact h

protected theorem Canonical.l2Flush {s line} (h : Canonical s) : Canonical (l2Flush s line) :=
  h.dropCopies.writeBack.setSlice

protected theorem Canonical.askRead {s a n} (h : Canonical s) : Canonical (askRead s a n) := by
  unfold askRead
  refine h.foldl fun s x h => ?_
  split
  exacts [.ite h.stackAsk h.count, h.stackAsk]

protected theorem Canonical.memRead {s m sub a n} (h : Canonical s) : Canonical (memRead s m sub a n).1 := by
  unfold memRead
  split
  · exact h
  split
  · exact h
  extract_lets _ s21
  have h21 : Canonical s21 := .ite h.refetch.askRead h.bankBeats
  split
  · exact h21.eccSpan.fst ‹_›
  · exact h21.eccSpan.fst ‹_›

protected theorem Canonical.atomicAt {s m sub slot a n f} (h : Canonical s) : Canonical (atomicAt s m sub slot a n f).1 := by
  unfold atomicAt
  split
  · exact h
  split
  · exact h
  extract_lets s21
  have h21 : Canonical s21 := h.when .l2Flush
  split
  · exact h21
  · exact h21.memRead.fst ‹_›
  · exact h21.memRead.fst ‹_›
  extract_lets
  split
  · exact h21.memRead.fst ‹_›
  split
  · exact (h21.memRead.fst ‹_›).memWrite.fst ‹_›
  · exact (h21.memRead.fst ‹_›).memWrite.fst ‹_›
  · exact (h21.memRead.fst ‹_›).memWrite.fst ‹_›
  · exact (h21.memRead.fst ‹_›).memWrite.fst ‹_›
  · exact (h21.memRead.fst ‹_›).memWrite.fst ‹_›

protected theorem Goes.amo {c op o f s} : Goes s (amo c op o f s) := by
  unfold amo
  refine .runInstr fun s h => ?_
  extract_lets _ _ _ s11
  have h11 : Canonical s11 := by
    unfold s11
    split
    · exact h.drainMerge
    split
    exacts [h.performAt, h]
  split
  · exact h.trapAt
  split
  · exact h11
  split
  · exact (h11.atomicAt.fst ‹_›).writeX
  · exact ((h11.atomicAt.fst ‹_›).when .logRinged).writeX
  · exact h11.trapAt
  · exact h11.atomicAt.fst ‹_›
  · exact h11.atomicAt.fst ‹_›
  · exact (h11.atomicAt.fst ‹_›).addWait.modCore

protected theorem Goes.execAmoadd {c o s} : Goes s (execAmoadd c o s) :=
  .amo

protected theorem Goes.execAmoswap {c o s} : Goes s (execAmoswap c o s) :=
  .amo

protected theorem Goes.execAmoand {c o s} : Goes s (execAmoand c o s) :=
  .amo

protected theorem Goes.execAmoor {c o s} : Goes s (execAmoor c o s) :=
  .amo

protected theorem Goes.execAmoxor {c o s} : Goes s (execAmoxor c o s) :=
  .amo

protected theorem Goes.execAmomax {c o s} : Goes s (execAmomax c o s) :=
  .amo

protected theorem Goes.execAmomin {c o s} : Goes s (execAmomin c o s) :=
  .amo

protected theorem Goes.execAmomaxu {c o s} : Goes s (execAmomaxu c o s) :=
  .amo

protected theorem Goes.execAmominu {c o s} : Goes s (execAmominu c o s) :=
  .amo

protected theorem Goes.execAmocas {c o s} : Goes s (execAmocas c o s) :=
  .amo

protected theorem Goes.remInstr {c w bad align g free body s} (hb : ∀ s ga, Canonical s → (body s ga).Keeps) :
    Goes s (remInstr c w bad align g free body s) := by
  refine .runInstr fun s h => ?_
  extract_lets ga
  split
  · exact h.illegal
  split
  · exact h.trapAt
  split
  · exact h.trapAt
  split
  · trivial
  split
  exacts [h.drainMerge, hb _ _ h.drainMerge]

protected theorem Canonical.coreIssue {s c k i ga} (h : Canonical s) : Canonical (coreIssue s c k i ga) :=
  h.orderPush.issueReq

protected theorem Goes.execRget {c o s} : Goes s (execRget c o s) := by
  unfold execRget
  exact .remInstr fun _ _ h => h.coreIssue

protected theorem Canonical.loadOperand {s c a n} (h : Canonical s) : (loadOperand s c a n).Keeps := by
  unfold loadOperand
  split
  · exact h.loadBytes
  split
  · exact h.loadRun
  split
  · exact h.coreLoad.fst ‹_›
  · exact h.coreLoad.fst ‹_›
  · exact h.coreLoad.fst ‹_›
  · trivial

protected theorem Canonical.postReq {s c op cls ga arg data i} (h : Canonical s) : Canonical (postReq s c op cls ga arg data i) :=
  h.coreIssue

protected theorem Goes.execRput {c o s} : Goes s (execRput c o s) := by
  unfold execRput
  extract_lets
  refine .remInstr fun s ga h => ?_
  split
  · exact h.loadOperand.stop ‹_›
  · exact (h.loadOperand.ok ‹_›).postReq

protected theorem Goes.execRatom {c o s} : Goes s (execRatom c o s) := by
  unfold execRatom
  extract_lets
  refine .remInstr fun s ga h => ?_
  extract_lets _ _ send
  have hsend (t cmp) (h : Canonical t) : (send t cmp).Keeps := h.postReq
  split
  · split
    · exact h.loadOperand.stop ‹_›
    · exact hsend _ _ (h.loadOperand.ok ‹_›)
  · exact hsend _ _ h

protected theorem Goes.remExsum {c op o s} : Goes s (remExsum c op o s) :=
  .remInstr fun _ _ h => h.postReq

protected theorem Goes.execRexsum {c o s} : Goes s (execRexsum c o s) :=
  .remExsum

protected theorem Goes.execRexsumsq {c o s} : Goes s (execRexsumsq c o s) :=
  .remExsum

protected theorem Goes.execRservice {c o s} : Goes s (execRservice c o s) := by
  unfold execRservice
  refine .remInstr fun s ga h => ?_
  split
  · exact h.loadOperand.stop ‹_›
  · exact (h.loadOperand.ok ‹_›).postReq

protected theorem Goes.execBsig {c o s} : Goes s (execBsig c o s) := by
  unfold execBsig
  refine .remInstr fun s ga h => ?_
  extract_lets
  split
  · split
    exacts [h.blzAdd, h.trapAt]
  · exact h.postReq

protected theorem Goes.execBwait {c o s} : Goes s (execBwait c o s) := by
  unfold execBwait
  refine .remInstr fun s ga h => ?_
  extract_lets _ _ s11
  have h11 : Canonical s11 := h.issueReq
  split
  · split
    · split
      exacts [h.writeX, h.modCore]
    · exact h.trapAt
  · exact h11.modCore

protected theorem Canonical.takeVector {s c v} (h : Canonical s) : Canonical (takeVector s c v) := by
  unfold takeVector
  exact (Canonical.ite h h.setReg).enter

protected theorem Goes.execTakeInterrupt {b s} : Goes s (execTakeInterrupt b s) := by
  unfold execTakeInterrupt
  extract_lets _ _ s1
  have h1 (h : Canonical s) : Canonical s1 := h.timerApply
  split
  · exact .next fun h => h
  split
  · exact .next fun h => (h1 h).machineCheck
  split
  · exact .next fun h => (h1 h).stepNow
  split
  · exact .next fun h => (h1 h).enter
  split
  exacts [.next fun h => (h1 h).enter, .next fun h => (h1 h).takeVector, .next fun h => h]

protected theorem Canonical.fetchPut {s c line} (h : Canonical s) : Canonical (fetchPut s c line) :=
  h.modCore

protected theorem Canonical.chanEvent {s island} (h : Canonical s) : Canonical (chanEvent s island) :=
  h.wtEvent

protected theorem Goes.execFetchLineFill {c line s} : Goes s (execFetchLineFill c line s) := by
  unfold execFetchLineFill
  extract_lets k cur
  split
  · exact .next id
  · split
    · exact .next fun h => (h.coreLoad.fst ‹_›).chanEvent.fetchPut
    · split
      · exact .next fun h => (h.coreLoad.fst ‹_›).enter
      · exact .next id
    · exact .next id

protected theorem Canonical.imagesNow {s base m kbytes sbytes old} (h : Canonical s) : Canonical (imagesNow s base m kbytes sbytes old).1 :=
  .iteFst h h.free

protected theorem Canonical.mmaResidue {s c w pc checks} (h : Canonical s) : Canonical (mmaResidue s c w pc checks).1 := by
  unfold mmaResidue
  refine h.foldlFst fun s x h => ?_
  split
  exacts [h, h.residueCheck]

protected theorem Canonical.tilePop {s c w} (h : Canonical s) : Canonical (tilePop s c w) :=
  (h.modCore.when .rampRow).when .stepNow

protected theorem Canonical.mmaRetire {s c op four z f shape td ta tb mode base images} (h : Canonical s) : Canonical (mmaRetire s c op four z f shape td ta tb mode base images) := by
  unfold mmaRetire
  extract_lets
  split
  · extract_lets
    split
    · exact (((Canonical.iteFst h.imagesNow h).fst ‹_›).regReads.fst ‹_›).enter
    extract_lets
    split
    · exact ((((Canonical.iteFst h.imagesNow h).fst ‹_›).regReads.fst ‹_›).mmaResidue.fst ‹_›).enter
    · exact (((((Canonical.iteFst h.imagesNow h).fst ‹_›).regReads.fst ‹_›).mmaResidue.fst ‹_›).foldl fun _ _ h => h.modCore).commitTally.modCore.count.count.tilePop

protected theorem Canonical.tldRetire {s c op t f cols rows fl sat flush} (h : Canonical s) : Canonical (tldRetire s c op t f cols rows fl sat flush) :=
  h.modCore.commitBits.tilePop

protected theorem Goes.execTileRetire {c s} : Goes s (execTileRetire c s) := by
  unfold execTileRetire
  split
  · exact .next fun h => h
  split
  · split
    · exact .next fun h => h
    split
    exacts [.next fun h => h.mmaRetire, .next fun h => h.tldRetire]
  · exact .next fun h => h

protected theorem Goes.execMergePerform {c i s} : Goes s (execMergePerform c i s) := by
  unfold execMergePerform
  split
  · exact .next fun h => h
  split
  · exact .next fun h => h
  split
  · extract_lets s31
    have h31 (h : Canonical s) : Canonical s31 := h.modCore
    exact .next fun h => (h31 h).performAt.modCore
  · exact .next fun h => h

protected theorem Goes.execL2FillComplete {slice line s} : Goes s (execL2FillComplete slice line s) := by
  unfold execL2FillComplete
  split
  · exact .next fun h => h
  extract_lets
  split
  · split
    exacts [.next fun h => h, .next fun h => h.fillDone.chanEvent]
  · exact .next fun h => h

protected theorem Canonical.showRepairs {s st} (h : Canonical s) : Canonical (showRepairs s st) :=
  h.setFld.setFld

protected theorem Canonical.dramRepair {s st a column} (h : Canonical s) : Canonical (dramRepair s st a column) :=
  .ite h h.withNv.showRepairs.logFault

protected theorem Canonical.correctDie {s a die} (h : Canonical s) : Canonical (correctDie s a die) := by
  unfold correctDie
  extract_lets _ _ s1 _ s2 _ _ _ s3 _ s4 _ s5
  have h1 : Canonical s1 := h.countSat
  have h2 : Canonical s2 := h1.logFault
  have h3 : Canonical s3 := h2.modMem
  have h4 : Canonical s4 := h3.setFld
  have h5 : Canonical s5 := .ite h4.retire.logFault h3
  exact .ite h5.modMem.dramRepair (h5.when fun h => h.modMem.dramRepair)

protected theorem Canonical.poisonSector {s a} (h : Canonical s) : Canonical (poisonSector s a) :=
  h.modMem.logUE

protected theorem Canonical.decodeSector {s addr errs} (h : Canonical s) : Canonical (decodeSector s addr errs) :=
  .ite h (.ite h.correctDie (.ite h.poisonSector (.ite h.free.poisonSector h.free.correctDie)))

protected theorem Goes.execStackAccess {addr errs s} : Goes s (execStackAccess addr errs s) := by
  unfold execStackAccess
  split
  · exact .next fun h => h
  split
  · extract_lets s21
    have h21 (h : Canonical s) : Canonical s21 := h.chanEvent
    split
    · split
      · split
        exacts [.next fun h => .ite ((h21 h).sortServe) ((h21 h).sortServe.decodeSector), .next fun h => h]
      · exact .next fun h => h
    · exact .next fun h => (h21 h).openPage.decodeSector
  · exact .next fun h => h

protected theorem Canonical.marchMend {s} (h : Canonical s) : Canonical (marchMend s) :=
  h.modMem

protected theorem Canonical.bumpRead {s lo hi} (h : Canonical s) : Canonical (bumpRead s lo hi) :=
  h.foldl fun _ _ h => h.modMem

protected theorem Canonical.marchZero {s} (h : Canonical s) : Canonical (marchZero s) := by
  refine h.foldl fun s n h => ?_
  refine (h.bumpRead (lo := (bankSpan n).1) (hi := (bankSpan n).2)).mapMem fun hm => ?_
  obtain ⟨h1, h2, hrest⟩ := (Memory.wf_iff _).1 hm
  exact (Memory.wf_iff _).2 ⟨h1, mapWf_filter _ _ _ h2, hrest⟩

protected theorem Canonical.bankFail {s f} (h : Canonical s) : Canonical (bankFail s f) := by
  unfold bankFail
  extract_lets s1 s2 n s3 s4
  have h2 : Canonical s2 := h.setBit.setFld
  have h3 : Canonical s3 := by
    unfold s3
    clear_value n
    split
    exacts [h2.modMem, h2]
  exact h3.retire.logFault

protected theorem Canonical.bankRepair {s r} (h : Canonical s) : Canonical (bankRepair s r) := by
  unfold bankRepair
  extract_lets k s1 sub s2
  have h2 : Canonical s2 := h.modMem.retire
  refine .ite h.bankFail ?_
  split
  exacts [h2.logFault, h2.logFault]

protected theorem Goes.execMarchRunEnd {rep fail s} : Goes s (execMarchRunEnd rep fail s) := by
  unfold execMarchRunEnd
  split
  · exact .next fun h => h
  split
  · extract_lets s21 _ s22 s23 s24
    have h21 (h : Canonical s) : Canonical s21 := (Canonical.ite h h.marchZero).marchMend
    have h22 (h : Canonical s) : Canonical s22 := (h21 h).when fun h => h.setFld.setFld
    have h23 (h : Canonical s) : Canonical s23 := ((h22 h).foldl fun _ _ h => h.bankRepair).foldl fun _ _ h => h.bankFail
    have h24 (h : Canonical s) : Canonical s24 := (h23 h).setBit
    exact .next fun h => (h24 h).setBit
  · exact .next fun h => h

protected theorem Canonical.pteApply {s st q entry} (h : Canonical s) : Canonical (pteApply s st q entry) := by
  unfold pteApply
  extract_lets g s1
  have h1 : Canonical s1 := h.mapMem (Mem.flush_wf _ _ _)
  exact h1.modMem

protected theorem Canonical.pteRun {s st n} (h : Canonical s) : Canonical (pteRun s st n) := by
  unfold pteRun
  split
  · exact h
  · exact .ite ((h.foldl fun _ _ h => h.pteApply).setFld.modMem.setBit) ((h.foldl fun _ _ h => h.pteApply).setFld.modMem)

protected theorem Goes.execPteSetComplete {st s} : Goes s (execPteSetComplete st s) := by
  unfold execPteSetComplete
  split
  exacts [.next fun h => h, .next fun h => h.pteRun]

protected theorem Canonical.keepVersions {s k} (h : Canonical s) : Canonical (keepVersions s k) := by
  refine h.foldl fun s v h => h.mapMem fun hm => ?_
  obtain ⟨h1, hrest⟩ := (Memory.wf_iff _).1 hm
  exact (Memory.wf_iff _).2 ⟨mapWf_foldl_mapPut _ _ _ (mapWf_filter _ _ _ h1), hrest⟩

protected theorem Canonical.subCloseEffect {s k} (h : Canonical s) : Canonical (subCloseEffect s k) := by
  unfold subCloseEffect
  split
  · exact h
  split
  · exact h
  extract_lets keep mine clash s1 s2 s3 others s4 s5 s6 s7 lim gone s8
  have h1 : Canonical s1 := h.when .keepVersions
  have h2 : Canonical s2 := h1.mapMem fun hm => by
    obtain ⟨a1, a2, a3, hrest⟩ := (Memory.wf_iff _).1 hm
    exact (Memory.wf_iff _).2 ⟨a1, a2, fun v hv => a3 v (List.mem_filter.1 hv).1, hrest⟩
  have h4 : Canonical s4 := h2.setReg.modRing
  have h6 : Canonical s6 := (h4.ite h4.setReg.count).ringEvent
  have h7 : Canonical s7 := by
    unfold s7
    clear_value clash
    split
    exacts [h6.doomSlot, h6]
  have h8 : Canonical s8 := h7.when .doomSlot
  exact h8.when .enterPreparing

protected theorem Goes.execSubCloseEffect {k s} : Goes s (execSubCloseEffect k s) := by
  unfold execSubCloseEffect
  split
  exacts [.next fun h => h, .next fun h => h.subCloseEffect]

protected theorem Canonical.tryWait {s w} (h : Canonical s) : Canonical (tryWait s w).1 :=
  .iteFst h h.memWriteNow

protected theorem Canonical.poolResume {s i} (h : Canonical s) : Canonical (poolResume s i).1 := by
  unfold poolResume
  split
  · exact h
  split
  · exact h
  split
  · exact (h.tryWait.fst ‹_›).modMem
  extract_lets s31 s32
  have h31 : Canonical s31 := (h.tryWait.fst ‹_›).modMem
  have h32 : Canonical s32 := by unfold s32; split; exacts [h31.when .startDrain, h31]
  exact h32

protected theorem Canonical.atomEnd {s c rd old} (h : Canonical s) : Canonical (atomEnd s c rd old) :=
  h.when .modCore

protected theorem Canonical.putDesc {s e d} (h : Canonical s) : Canonical (putDesc s e d) := by
  refine h.modEng fun hx q hq => ?_
  obtain ⟨p, hp, rfl⟩ := List.mem_map.1 hq
  have := hx p hp
  split
  · next hid => exact hid ▸ this
  · exact this

protected theorem Canonical.releaseReq {s e d r fail} (h : Canonical s) : Canonical (releaseReq s e d r fail) := by
  unfold releaseReq
  extract_lets
  split
  exacts [h.putDesc.count, h.putDesc]

protected theorem Canonical.xferErr {s e code addr} (h : Canonical s) : Canonical (xferErr s e code addr) :=
  h.setReg.count

protected theorem Canonical.endDesc {s e d} (h : Canonical s) : Canonical (endDesc s e d) := by
  unfold endDesc
  extract_lets s1 s2 s3 c
  have h2 : Canonical s2 := h.count.when .xferErr
  have h3 : Canonical s3 := h2.modEng fun hx q hq => hx q (List.mem_filter.1 hq).1
  exact h3.when .raiseInt

protected theorem Canonical.leadVote {s p} (h : Canonical s) : Canonical (leadVote s p) := by
  unfold leadVote
  split
  · exact h
  extract_lets s11 s12
  have h11 : Canonical s11 := h.leadOpen
  have h12 : Canonical s12 := h11.modRing
  split
  exacts [h11, .ite h11 h12.leadPut.leadDecide]

protected theorem Canonical.claimServe {s p} (h : Canonical s) : Canonical (claimServe s p).1 := by
  unfold claimServe
  split
  · exact h
  split
  exacts [h, .iteFst h.logPut h]

protected theorem Canonical.serveVote {s v} (h : Canonical s) : Canonical (serveVote s v).1 := by
  unfold serveVote
  split
  exacts [h.leadVote, h.leadVote, h.leadVote, h.leadFlipped, h.claimServe, h.modRing, h]

protected theorem Canonical.applyRetire {s ring} (h : Canonical s) : Canonical (applyRetire s ring) := by
  unfold applyRetire
  split
  · exact h
  split
  · refine (h.freeSlot.setReg.mapMem fun hm => ?_).promote
    obtain ⟨h1, h2, h3, h4, h5, h6, h7, h8, -⟩ := (Memory.wf_iff _).1 hm
    exact (Memory.wf_iff _).2 ⟨h1, h2, h3, h4, h5, h6, h7, h8, rfl⟩
  · exact h

protected theorem Canonical.serveRing {s p} (h : Canonical s) : Canonical (serveRing s p).1 :=
  .iteFst h (.iteFst h.serveVote (.iteFst h.applyOutcome (.iteFst h.applyOutcome (.iteFst h.applyRetire h))))

protected theorem Canonical.writeOrWait {s m a bs} (h : Canonical s) : Canonical (writeOrWait s m a bs) := by
  unfold writeOrWait
  extract_lets
  split
  · exact (h.memWrite.fst ‹_›).addWait
  · exact h.memWrite.fst ‹_›

protected theorem Canonical.svcEnq {s m payload src} (h : Canonical s) : Canonical (svcEnq s m payload src) :=
  h.writeOrWait.setFld.rideEvent

protected theorem Canonical.serveService {s p} (h : Canonical s) : (serveService s p).Keeps := by
  unfold serveService
  split
  · exact h
  split
  · trivial
  · exact h.svcEnq

protected theorem Canonical.serveWrite {s p slot a bs} (h : Canonical s) : (serveWrite s p slot a bs).Keeps := by
  unfold serveWrite
  split
  · exact h
  split
  · split
    · trivial
    split
    · exact h.regionWrite _ ‹_›
    · exact h
  extract_lets
  split
  · exact h.memWrite.fst ‹_›
  · exact h.memWrite.fst ‹_›
  · exact (h.memWrite.fst ‹_›).addWait
  · exact h.memWrite.fst ‹_›

protected theorem Canonical.serveMirror {s p} (h : Canonical s) : (serveMirror s p).Keeps := by
  unfold serveMirror
  split
  · split
    exacts [h.serveWrite, h]
  · exact h

protected theorem Canonical.stampedRead {s v a n} (h : Canonical s) : (stampedRead s v a n).Keeps := by
  unfold stampedRead
  split
  · trivial
  · split
    · exact h.eccSpan.fst ‹_›
    · exact h.eccSpan.fst ‹_›
  · exact h

protected theorem Canonical.serveGet {s p} (h : Canonical s) : (serveGet s p).Keeps := by
  unfold serveGet
  extract_lets
  split
  · split
    · split
      · exact h.regionRead _ ‹_›
      · exact h
    · exact h
  split
  · exact h.stampedRead
  split
  · exact h.memRead.fst ‹_›
  · exact h
  · exact h.memRead.fst ‹_›
  · trivial

protected theorem Canonical.serveAtom {s p slot} (h : Canonical s) : (serveAtom s p slot).Keeps := by
  unfold serveAtom
  extract_lets
  split
  · exact h.atomicAt.fst ‹_›
  · exact h.atomicAt.fst ‹_›
  · exact h
  · exact h.atomicAt.fst ‹_›
  · trivial
  · exact (h.atomicAt.fst ‹_›).addWait

protected theorem Canonical.serveExsum {s p} (h : Canonical s) : (serveExsum s p).Keeps := by
  unfold serveExsum
  split
  exacts [h.foldl fun _ _ h => .ite h.accAddSqOp h.accAddOp, h]

protected theorem Canonical.serveSignal {s p} (h : Canonical s) : (serveSignal s p).Keeps := by
  unfold serveSignal
  split
  exacts [h.blzAdd, h]

protected theorem Canonical.serveWait {s p} (h : Canonical s) : (serveWait s p).Keeps := by
  unfold serveWait
  split
  · split
    · exact h
    · trivial
  · exact h

protected theorem Canonical.serveReq {s p} (h : Canonical s) : (serveReq s p).Keeps := by
  unfold serveReq
  split
  · exact h
  split
  · exact h.serveRing
  split
  · exact h.serveService
  split
  · exact h.serveMirror
  split
  · exact h
  split
  · exact h.serveGet
  split
  · exact h.serveWrite
  split
  · exact h.serveAtom
  split
  · exact h.serveExsum
  split
  exacts [h.serveSignal, h.serveWait]

protected theorem Canonical.answerBusy {s p} (h : Canonical s) : Canonical (answerBusy s p) :=
  h.unhold.count.sendResp

protected theorem Canonical.holdReq {s p} (h : Canonical s) : Canonical (holdReq s p) :=
  .ite h (.ite h.answerBusy h.modRide)

protected theorem Canonical.performReq {s p} (h : Canonical s) : Canonical (performReq s p) := by
  unfold performReq
  split
  · exact ((h.serveReq.done ‹_›).when .count).answer
  · exact h.holdReq
  · exact (h.serveReq.wait ‹_›).unhold

protected theorem Canonical.drainHeldN {n s} (h : Canonical s) : Canonical (drainHeldN n s) := by
  induction n generalizing s with
  | zero => exact h
  | succ n ih =>
    unfold drainHeldN
    split
    exacts [ih h.performReq, h]

protected theorem Canonical.drainHeld {s} (h : Canonical s) : Canonical (drainHeld s) :=
  h.drainHeldN

protected theorem Canonical.poolEnd {s w r} (h : Canonical s) : Canonical (poolEnd s w r) := by
  unfold poolEnd
  extract_lets ringed
  have hringed (s c) (h : Canonical s) : Canonical (ringed s c) := by
    unfold ringed
    split
    exacts [h.logRinged, h]
  split
  · exact hringed _ _ h
  · exact (hringed _ _ h).atomEnd
  · split
    exacts [h.releaseReq, h]
  · split
    exacts [h.endDesc, h]
  split
  exacts [h.answer.drainHeld, h.answer.drainHeld, h.answer.drainHeld]

protected theorem Goes.execPoolWaitResume {i s} : Goes s (execPoolWaitResume i s) := by
  unfold execPoolWaitResume
  split
  · exact .next fun h => h
  split
  · exact .next fun h => (h.poolResume.fst ‹_›).poolEnd
  · exact .next fun h => (h.poolResume.fst ‹_›)

protected theorem Canonical.arrives {s p} (h : Canonical s) : ∀ t ∈ arrives s p, Canonical t := by
  unfold arrives
  split
  · extract_lets s11
    have h11 : Canonical s11 := h.modRide
    split
    exacts [.some h11.modPort, .some h11]
  · exact .iteOpt (.some h.modRide) <|
    .none

protected theorem Canonical.applyResp {s r p} (h : Canonical s) : Canonical (applyResp s r p) :=
  .ite (.ite h.count.rideComplete (.ite h.count h.count.reqPut)) (.ite h.reqPut h.rideComplete.drainHeld)

protected theorem Canonical.recvResp {s want p} (h : Canonical s) : Canonical (recvResp s want p) := by
  unfold recvResp
  extract_lets
  split
  · split
    · split
      · exact (h.arrives _ ‹_›).when .applyResp
      · exact h
    · exact h
  · exact h.getD h.arrives

protected theorem Goes.execClaimResponse {p s} : Goes s (execClaimResponse p s) := by
  unfold execClaimResponse
  split
  exacts [.next fun h => h, .next fun h => h.recvResp]

protected theorem Canonical.recvIn {s r p} (h : Canonical s) : Canonical (recvIn s r p) :=
  .ite (.ite h.count.performReq h.count.sendResp) (.ite h.count (.ite h.performReq h.holdReq))

protected theorem Canonical.newStream {s r p} (h : Canonical s) : Canonical (newStream s r p) :=
  h.rxPut.foldl fun _ _ h => h.unhold.sendResp

protected theorem Canonical.recvStream {s p} (h : Canonical s) : Canonical (recvStream s p) := by
  unfold recvStream
  split
  exacts [.ite h.sendResp (.ite h.answerBusy h.modRide.recvIn), .ite h.newStream.recvIn h.recvIn]

protected theorem Canonical.takeReq {s p} (h : Canonical s) : Canonical (takeReq s p) := by
  unfold takeReq
  split
  · exact (h.arrives _ ‹_›).when fun h => h.recvStream.drainHeld
  · exact h

protected theorem Canonical.recvReq {s op p} (h : Canonical s) : Canonical (recvReq s op p) :=
  h.takeReq

protected theorem Canonical.recvRing {s op kind p} (h : Canonical s) : Canonical (recvRing s op kind p) :=
  h.recvReq

protected theorem Goes.execVoteReady {p s} : Goes s (execVoteReady p s) := by
  unfold execVoteReady
  split
  exacts [.next fun h => h, .next fun h => h.recvRing]

protected theorem Goes.execVoteDoom {p s} : Goes s (execVoteDoom p s) := by
  unfold execVoteDoom
  split
  exacts [.next fun h => h, .next fun h => h.recvRing]

protected theorem Goes.execVoteRefuse {p s} : Goes s (execVoteRefuse p s) := by
  unfold execVoteRefuse
  split
  exacts [.next fun h => h, .next fun h => h.recvRing]

protected theorem Goes.execVoteFlipped {p s} : Goes s (execVoteFlipped p s) := by
  unfold execVoteFlipped
  split
  exacts [.next fun h => h, .next fun h => h.recvRing]

protected theorem Goes.execVoteClaim {p s} : Goes s (execVoteClaim p s) := by
  unfold execVoteClaim
  split
  exacts [.next fun h => h, .next fun h => h.recvRing]

protected theorem Goes.execVoteMirrored {p s} : Goes s (execVoteMirrored p s) := by
  unfold execVoteMirrored
  split
  exacts [.next fun h => h, .next fun h => h.recvRing]

protected theorem Goes.execRecvCommit {p s} : Goes s (execRecvCommit p s) := by
  unfold execRecvCommit
  split
  exacts [.next fun h => h, .next fun h => h.recvRing]

protected theorem Goes.execRecvDiscard {p s} : Goes s (execRecvDiscard p s) := by
  unfold execRecvDiscard
  split
  exacts [.next fun h => h, .next fun h => h.recvRing]

protected theorem Goes.execRecvRetire {p s} : Goes s (execRecvRetire p s) := by
  unfold execRecvRetire
  split
  exacts [.next fun h => h, .next fun h => h.recvRing]

protected theorem Canonical.sigSend {s e d} (h : Canonical s) : Canonical (sigSend s e d) :=
  h.putDesc.issueReq

protected theorem Canonical.earlySignals {s e} (h : Canonical s) : Canonical (earlySignals s e) :=
  h.foldl fun _ _ h => h.when .sigSend

protected theorem Canonical.postNext {s e} (h : Canonical s) : Canonical (postNext s e) := by
  unfold postNext
  split
  exacts [h, .ite h h.modEng.postAccept]

protected theorem Canonical.startDesc {s e q b} (h : Canonical s) : Canonical (startDesc s e q b) := by
  unfold startDesc
  extract_lets x c bad todo d
  refine (Canonical.modEng h fun hx p hp => ?_).postNext.earlySignals
  rcases List.mem_append.1 hp with hp | hp
  · have : p.id ≤ (s.xfer.get e).nextReq := hx p hp
    show p.id ≤ (s.xfer.get e).nextReq + 1 + todo.length
    omega
  · rw [List.mem_singleton.1 hp]
    show (s.xfer.get e).nextReq + 1 ≤ (s.xfer.get e).nextReq + 1 + todo.length
    omega

protected theorem Canonical.startHead {s e op} (h : Canonical s) : Canonical (startHead s e op) := by
  unfold startHead
  extract_lets
  split
  · exact h
  split
  · exact h
  split
  · exact h
  · exact .ite h ((h.memRead.fst ‹_›).startDesc)
  · exact (h.memRead.fst ‹_›).modEng.postNext.xferErr

protected theorem Goes.execXferCopy {e s} : Goes s (execXferCopy e s) := by
  unfold execXferCopy
  split
  exacts [.next fun h => h, .next fun h => h.startHead]

protected theorem Goes.execXferGet {e s} : Goes s (execXferGet e s) := by
  unfold execXferGet
  split
  exacts [.next fun h => h, .next fun h => h.startHead]

protected theorem Goes.execXferPut {e s} : Goes s (execXferPut e s) := by
  unfold execXferPut
  split
  exacts [.next fun h => h, .next fun h => h.startHead]

protected theorem Goes.execXferZero {e s} : Goes s (execXferZero e s) := by
  unfold execXferZero
  split
  exacts [.next fun h => h, .next fun h => h.startHead]

protected theorem Goes.execXferExsum {e s} : Goes s (execXferExsum e s) := by
  unfold execXferExsum
  split
  exacts [.next fun h => h, .next fun h => h.startHead]

protected theorem Goes.execXferExsumsq {e s} : Goes s (execXferExsumsq e s) := by
  unfold execXferExsumsq
  split
  exacts [.next fun h => h, .next fun h => h.startHead]

protected theorem Goes.execXferSignal {e s} : Goes s (execXferSignal e s) := by
  unfold execXferSignal
  split
  exacts [.next fun h => h, .next fun h => h.startHead]

protected theorem Canonical.noteIssue {s e p} (h : Canonical s) : Canonical (noteIssue s e p) := by
  refine h.modEng fun hx => ?_
  dsimp only
  split
  exacts [hx, hx]

protected theorem Canonical.sendReq {s e d r} (h : Canonical s) : Canonical (sendReq s e d r) :=
  h.issueReq

protected theorem Canonical.issueXReq {s e d r} (h : Canonical s) : Canonical (issueXReq s e d r) := by
  unfold issueXReq
  extract_lets _ _ _ s1
  have h1 : Canonical s1 := h.putDesc.noteIssue
  split
  · split
    · exact h
    · exact (h.memRead.fst ‹_›).putDesc
    · exact (h.memRead.fst ‹_›).putDesc
    · exact (h.memRead.fst ‹_›).putDesc.noteIssue.when .sendReq
  · exact h1.when .sendReq

protected theorem Goes.execRequestIssue {e s} : Goes s (execRequestIssue e s) := by
  unfold execRequestIssue
  split
  · exact .next fun h => h
  split
  exacts [.next fun h => h.issueXReq.earlySignals, .next fun h => h]

protected theorem Canonical.writeReq {s e d r bs} (h : Canonical s) : Canonical (writeReq s e d r bs) := by
  unfold writeReq
  extract_lets
  split
  · exact (h.memWrite.fst ‹_›).releaseReq
  · exact (h.memWrite.fst ‹_›).releaseReq
  · exact (h.memWrite.fst ‹_›).addWait.putDesc
  · exact (h.memWrite.fst ‹_›).releaseReq
  · exact (h.memWrite.fst ‹_›).releaseReq

protected theorem Canonical.completeReq {s e id} (h : Canonical s) : Canonical (completeReq s e id) := by
  unfold completeReq
  split
  · exact h
  split
  · exact h
  split
  · split
    exacts [h, .ite h.reqDrop.chanEvent.releaseReq (.ite h.reqDrop.chanEvent.writeReq h.reqDrop.chanEvent.releaseReq)]
  · exact h.chanEvent.writeReq

protected theorem Goes.execRequestComplete {e id s} : Goes s (execRequestComplete e id s) := by
  unfold execRequestComplete
  split
  exacts [.next fun h => h, .next fun h => h.completeReq]

protected theorem Canonical.finishDesc {s e d} (h : Canonical s) : Canonical (finishDesc s e d) := by
  unfold finishDesc
  extract_lets
  split
  · exact (h.memWrite.fst ‹_›).putDesc.addWait
  · exact (h.memWrite.fst ‹_›).endDesc

protected theorem Canonical.completeDesc {s e id} (h : Canonical s) : Canonical (completeDesc s e id) := by
  unfold completeDesc
  split
  · exact h
  split
  · exact h
  split
  · split
    exacts [h, h.reqDrop.finishDesc]
  · exact .ite (h.when .sigSend) h.finishDesc

protected theorem Goes.execDescriptorComplete {e desc s} : Goes s (execDescriptorComplete e desc s) := by
  unfold execDescriptorComplete
  split
  exacts [.next fun h => h, .next fun h => h.completeDesc.earlySignals]

protected theorem Canonical.flitFixed {s p fixed} (h : Canonical s) : Canonical (flitFixed s p fixed) :=
  h.count.modPort

protected theorem Canonical.flitDiscard {s p} (h : Canonical s) : Canonical (flitDiscard s p) :=
  h.modPort

protected theorem Canonical.ackFlits {s p ack} (h : Canonical s) : Canonical (ackFlits s p ack) :=
  h.modPort

protected theorem Canonical.drainOutbox {s} (h : Canonical s) : Canonical (drainOutbox s) :=
  (h.modRide.foldl fun _ _ h => h.sendTracked).pathCheck

protected theorem Canonical.linkEvent {s p} (h : Canonical s) : Canonical (linkEvent s p) :=
  h.wtEvent

protected theorem Canonical.replayFlit {p s} (h : Canonical s) : Canonical (replayFlit p s) :=
  h.count.linkEvent

protected theorem Canonical.replay {s p} (h : Canonical s) : Canonical (replay s p) :=
  h.when fun h => (h.modPort.foldl fun _ _ h => h.replayFlit).when .portDown

protected theorem Canonical.flitAccept {s p l} (h : Canonical s) : Canonical (flitAccept s p l).1 :=
  (h.ackFlits.modPort.modRide.when .replay).drainOutbox

protected theorem Goes.execFlitReceive {port f s} : Goes s (execFlitReceive port f s) := by
  unfold execFlitReceive
  split
  · exact .next fun h => h
  split
  · exact .next fun h => h
  extract_lets _ s21
  have h21 (h : Canonical s) : Canonical s21 := h.flitFixed
  split
  · exact .next fun h => (h21 h).count.flitDiscard
  split
  · exact .next fun h => (h21 h).flitDiscard
  · exact .next fun h => (h21 h).chanEvent.flitAccept.foldl fun _ _ h => h.takeReq

protected theorem Canonical.sendFlit {s p type parts rest join} (h : Canonical s) : Canonical (sendFlit s p type parts rest join) :=
  h.withRide.linkEvent

protected theorem Canonical.bootStep {s n} (h : Canonical s) : Canonical (bootStep s n) :=
  h.setFld.withFlt

protected theorem Canonical.startService {s} (h : Canonical s) : Canonical (startService s) :=
  h.bootStep.setFld

protected theorem Canonical.bootCheck {s} (h : Canonical s) : Canonical (bootCheck s) :=
  h.when .startService

protected theorem Canonical.portFailed {s p} (h : Canonical s) : Canonical (portFailed s p) :=
  .ite h.setPortState.logFault h.setPortState.logFault.retire

protected theorem Goes.execTrainingComplete {port errs syms ok s} : Goes s (execTrainingComplete port errs syms ok s) := by
  unfold execTrainingComplete
  split
  · exact .next fun h => h
  extract_lets _ _ s11 _ _ s12 s13 s14
  have h11 (h : Canonical s) : Canonical s11 := h.setFld
  have h12 (h : Canonical s) : Canonical s12 := (h11 h).setFld.setPortState
  have h13 (h : Canonical s) : Canonical s13 := (h12 h).modPort
  have h14 (h : Canonical s) : Canonical s14 := (h13 h).sendFlit
  split
  · exact .next fun h => h
  split
  · exact .next fun h => .ite (h14 h) ((h14 h).rideEvent.logFault)
  split
  exacts [.next fun h => (h11 h).modPort.count, .next fun h => (h11 h).modPort.portFailed.bootCheck]

protected theorem Goes.execJoinAccept {port s} : Goes s (execJoinAccept port s) := by
  unfold execJoinAccept
  split
  · exact .next fun h => h
  split
  · exact .next fun h => h
  extract_lets s21 s22
  have h21 (h : Canonical s) : Canonical s21 := h.setPortState.rideEvent
  have h22 (h : Canonical s) : Canonical s22 := .ite (h21 h) ((h21 h).setBit.rideEvent)
  exact .next fun h => (h22 h).drainOutbox.feedWaiting.bootCheck

protected theorem Goes.execRideGet {p s} : Goes s (execRideGet p s) := by
  unfold execRideGet
  split
  exacts [.next fun h => h, .next fun h => h.recvReq]

protected theorem Goes.execRidePut {p s} : Goes s (execRidePut p s) := by
  unfold execRidePut
  split
  exacts [.next fun h => h, .next fun h => h.recvReq]

protected theorem Goes.execRideAtom {p s} : Goes s (execRideAtom p s) := by
  unfold execRideAtom
  split
  exacts [.next fun h => h, .next fun h => h.recvReq]

protected theorem Goes.execRideExsum {p s} : Goes s (execRideExsum p s) := by
  unfold execRideExsum
  split
  exacts [.next fun h => h, .next fun h => h.recvReq]

protected theorem Goes.execRideExsumsq {p s} : Goes s (execRideExsumsq p s) := by
  unfold execRideExsumsq
  split
  exacts [.next fun h => h, .next fun h => h.recvReq]

protected theorem Goes.execRideSignal {p s} : Goes s (execRideSignal p s) := by
  unfold execRideSignal
  split
  exacts [.next fun h => h, .next fun h => h.recvReq]

protected theorem Goes.execRideWait {p s} : Goes s (execRideWait p s) := by
  unfold execRideWait
  split
  exacts [.next fun h => h, .next fun h => h.recvReq]

protected theorem Goes.execRideService {p s} : Goes s (execRideService p s) := by
  unfold execRideService
  split
  exacts [.next fun h => h, .next fun h => h.recvReq]

protected theorem Goes.execRideMirrorPut {p s} : Goes s (execRideMirrorPut p s) := by
  unfold execRideMirrorPut
  split
  exacts [.next fun h => h, .next fun h => h.recvReq]

protected theorem Goes.execRideResponse {p s} : Goes s (execRideResponse p s) := by
  unfold execRideResponse
  split
  exacts [.next fun h => h, .next fun h => h.recvResp]

protected theorem Goes.execBusyResend {id s} : Goes s (execBusyResend id s) := by
  unfold execBusyResend
  split
  · exact .next fun h => h
  split
  · split
    · extract_lets
      split
      exacts [.next fun h => h.reqPut.modRide, .next fun h => h.reqPut.sendTracked.pathCheck]
    · exact .next fun h => h
  · exact .next fun h => h

protected theorem Goes.execHoldTimeout {src cls psn s} : Goes s (execHoldTimeout src cls psn s) := by
  unfold execHoldTimeout
  split
  · exact .next fun h => h
  split
  exacts [.next fun h => h.answerBusy, .next fun h => h]

protected theorem Goes.execFailover {id s} : Goes s (execFailover id s) := by
  unfold execFailover
  split
  · exact .next fun h => h
  split
  · split
    exacts [.next fun h => h.failoverReq, .next fun h => h]
  · exact .next fun h => h

end Sys2Proof.Machine
end

section
/-! SUPPORT. The canonical form, kept by power, boot and the module, and so by every command and every step. -/
namespace Sys2Proof.Machine
open Host
set_option Elab.async false

protected theorem Goes.execRemoteCompletion {id s} : Goes s (execRemoteCompletion id s) := by
  unfold execRemoteCompletion
  split
  · exact .next fun h => h
  split
  · exact .next fun h => h
  split
  · exact .next fun h => h
  extract_lets fin
  have hfin (h : Canonical s) (c a n) : Canonical (fin c a n) := by
    unfold fin
    extract_lets s41
    have h41 : Canonical s41 := h.reqDrop.modCore
    split
    · exact h41.coreFail
    split
    · exact h41
    split
    · exact h41.coreFail
    split
    · split
      · exact h41.memWrite.fst ‹_›
      · exact (h41.memWrite.fst ‹_›).addWait
      · exact (h41.memWrite.fst ‹_›).coreFail
      · exact (h41.memWrite.fst ‹_›).coreFail
    · exact .ite h41.coreFail (h41.getD h41.regionWrite)
  split
  · exact .next fun h => h
  split
  exacts [.next fun h => hfin h _ _ _, .next fun h => hfin h _ _ _, .next fun h => hfin h _ _ _, .next fun h => h]

protected theorem Goes.execBwaitRetire {c s} : Goes s (execBwaitRetire c s) := by
  unfold execBwaitRetire
  split
  · exact .next fun h => h
  split
  · split
    exacts [.next fun h => h.abandonWait.modCore, .next fun h => h]
  · exact .next fun h => h

protected theorem Goes.execPost {v s} : Goes s (execPost v s) := by
  unfold execPost
  split
  exacts [.next fun h => h, .next fun h => h.postOp]

protected theorem Goes.execTaskDone {c s} : Goes s (execTaskDone c s) := by
  unfold execTaskDone
  split
  exacts [.next fun h => h, .next fun h => h.taskDone]

protected theorem Goes.execHoldEntry {c s} : Goes s (execHoldEntry c s) := by
  unfold execHoldEntry
  split
  · exact .next fun h => h
  split
  · extract_lets s21
    have h21 (h : Canonical s) : Canonical s21 := h.modCore
    exact .next fun h => (h21 h).setBit.count
  · exact .next fun h => h

protected theorem Goes.execHoldWake {c s} : Goes s (execHoldWake c s) := by
  unfold execHoldWake
  split
  · exact .next fun h => h
  split
  · split
    exacts [.next fun h => h.setBit.setFld.wfiCheck, .next fun h => h]
  · exact .next fun h => h

protected theorem Canonical.telemSample {s} (h : Canonical s) : Canonical (telemSample s) :=
  h.withWdn

protected theorem Canonical.actBegin {s k} (h : Canonical s) : Canonical (actBegin s k) :=
  .ite h.postOp (.ite h.telemSample (h.when .setBit))

protected theorem Canonical.actRun {s k fresh} (h : Canonical s) : Canonical (actRun s k fresh) := by
  unfold actRun
  extract_lets _ _ _ _ s1
  have h1 : Canonical s1 := h.setAct
  exact h1.setFld.actBegin

protected theorem Goes.execActivityStart {k s} : Goes s (execActivityStart k s) := by
  unfold execActivityStart
  split
  · exact .next fun h => h
  extract_lets _ _ _ _ s11
  have h11 (h : Canonical s) : Canonical s11 := h.count.countSat
  split
  · exact .next fun h => h
  split
  · split
    exacts [.next fun h => (h11 h).actRun, .next fun h => (h11 h).setAct]
  · exact .next fun h => h.actRun

protected theorem Goes.execCoreRestWake {c s} : Goes s (execCoreRestWake c s) := by
  unfold execCoreRestWake
  split
  exacts [.next fun h => h, .next fun h => h.restOff]

protected theorem Canonical.setDevState {s n} (h : Canonical s) : Canonical (setDevState s n) :=
  h.setFld

protected theorem Canonical.releaseCore {s c} (h : Canonical s) : Canonical (releaseCore s c) :=
  h.drainMerge.coreReset.setBit.setFld.setBit.modCore

protected theorem Canonical.releaseAll {s} (h : Canonical s) : Canonical (releaseAll s) :=
  h.foldl fun _ _ h => .ite h h.releaseCore

protected theorem Canonical.startTraining {s} (h : Canonical s) : Canonical (startTraining s) :=
  h.withRide.foldl fun _ _ h => .ite h (.ite h.setFld h.setFld)

protected theorem Canonical.wakeNote {s source} (h : Canonical s) : Canonical (wakeNote s source) :=
  h.setFld.setFld.setFld

protected theorem Canonical.applyEnergy {s b} (h : Canonical s) : Canonical (applyEnergy s b) := by
  unfold applyEnergy
  extract_lets s1 s2 s3 s4 s5 s6 s7 s8 s9
  have h1 : Canonical s1 := h.foldl fun _ _ h => h.setFld
  have h2 : Canonical s2 := h1.setFld
  have h3 : Canonical s3 := h2.setFld
  have h4 : Canonical s4 := h3.setFld
  have h5 : Canonical s5 := h4.setFld
  have h6 : Canonical s6 := h5.setFld
  have h7 : Canonical s7 := h6.setFld
  have h8 : Canonical s8 := h7.setFld
  have h9 : Canonical s9 := h8.foldl fun _ _ h => h.setBit.setFld.setFld.setBit.setAct
  exact h9.setFld

protected theorem Canonical.domainsUp {s} (h : Canonical s) : Canonical (domainsUp s) :=
  h.setFld.setBit.modFor.foldl fun _ _ h => h.setFld.setBit

protected theorem Canonical.resetCores {s} (h : Canonical s) : Canonical (resetCores s) :=
  h.frame.foldl fun _ _ h => h.drawLanes

protected theorem Canonical.storeMon {s l} (h : Canonical s) : Canonical (storeMon s l) :=
  h.foldl fun _ _ h => h.setFld

protected theorem Canonical.planUp {s b} (h : Canonical s) : Canonical (planUp s b) := by
  unfold planUp
  extract_lets x s1
  have h1 : Canonical s1 := h.when .withNv
  exact h1.storeMon.planRun

protected theorem Canonical.passTime {s n} (h : Canonical s) : Canonical (passTime s n) :=
  h.setReg

protected theorem Canonical.setMeas {s i b} (h : Canonical s) : Canonical (setMeas s i b) :=
  h.foldl fun _ _ h => h.setReg

protected theorem Canonical.clearMeas {s} (h : Canonical s) : Canonical (clearMeas s) :=
  h.setMeas.setMeas

protected theorem Canonical.bootFail {s step code} (h : Canonical s) : Canonical (bootFail s step code) :=
  h.setFld.setFld

protected theorem Canonical.extend {s i obj} (h : Canonical s) : Canonical (extend s i obj) :=
  h.setMeas

protected theorem Canonical.canFault {s e} (h : Canonical s) : Canonical (canFault s e) :=
  h.setFld.setFld.setFld

protected theorem Canonical.tryStep3 {s b i d} (h : Canonical s) : Canonical (tryStep3 s b i d).1 := by
  unfold tryStep3
  extract_lets s1
  have h1 : Canonical s1 := h.bootStep
  split
  exacts [h1.extend, h1.bootFail.canFault.clearMeas]

protected theorem Canonical.tryImages {b s first l} (h : Canonical s) : Canonical (tryImages b s first l).1 := by
  induction l generalizing s first with
  | nil => exact h
  | cons e l ih =>
    unfold tryImages
    extract_lets s1
    have h1 : Canonical s1 := h.bootStep
    split
    · exact ih h1.bootFail.clearMeas
    · extract_lets s2
      have h2 : Canonical s2 := h1.extend
      split
      · exact ih (h2.tryStep3.fst ‹_›)
      · exact (h2.tryStep3.fst ‹_›).setFld.setFld.setBit

protected theorem Canonical.recovery {s} (h : Canonical s) : Canonical (recovery s) :=
  h.setBit.modWdn

protected theorem Canonical.bootTests {s b} (h : Canonical s) : Canonical (bootTests s b) :=
  ((h.foldl fun _ _ h => h.retire).foldl fun _ _ h => h.retire.logFault).foldl fun _ _ h => h.retire

protected theorem Canonical.setActive {s c} (h : Canonical s) : Canonical (setActive s c) :=
  h.setFld

protected theorem Canonical.numberCores {s perm} (h : Canonical s) : Canonical (numberCores s perm) :=
  h.foldl fun _ _ h => h.setFld.setFld.setFld.setFld.setFld.setActive

protected theorem Canonical.numberBanks {s perm} (h : Canonical s) : Canonical (numberBanks s perm) :=
  h.modMem.foldl fun _ _ h => h.setFld

protected theorem Canonical.choosePorts {s perm} (h : Canonical s) : Canonical (choosePorts s perm) :=
  h.foldl fun _ _ h => h.setBit

protected theorem Canonical.mapTsvs {s} (h : Canonical s) : Canonical (mapTsvs s) :=
  h.foldl fun _ _ h => h.setFld

protected theorem Canonical.mapWays {s} (h : Canonical s) : Canonical (mapWays s) :=
  h.foldl fun _ _ h => h.setFld.setBit.modWdn

protected theorem Canonical.wtReset {s} (h : Canonical s) : Canonical (wtReset s) := h.filterRegs

protected theorem Canonical.applyBootSecs {s c} (h : Canonical s) : Canonical (applyBootSecs s c) := by
  unfold applyBootSecs
  extract_lets _ s1 s2 s3 s4 s5 s6 s7 s8 s9
  have h1 : Canonical s1 := h.modWdn
  have h2 : Canonical s2 := h1.modPwr
  have h3 : Canonical s3 := h2.setFld
  have h4 : Canonical s4 := h3.foldl fun _ _ h => h.setFld
  have h5 : Canonical s5 := h4.setFld
  have h6 : Canonical s6 := h5.applyEnergy
  have h7 : Canonical s7 := h6.setBit
  have h8 : Canonical s8 := h7.setBit
  have h9 : Canonical s9 := h8.setFld
  exact h9.setReg

protected theorem Canonical.loadRepairs {s} (h : Canonical s) : Canonical (loadRepairs s) := by
  unfold loadRepairs
  refine h.foldl fun s x h => ?_
  extract_lets s11
  have h11 : Canonical s11 := h.showRepairs
  split
  exacts [h11.setFld, h11]

protected theorem Canonical.clearWays {s n lo hi} (h : Canonical s) : Canonical (clearWays s n lo hi) :=
  h.foldl fun _ _ h => h.l2Evict

protected theorem Canonical.setPinned {s n p} (h : Canonical s) : Canonical (setPinned s n p) := by
  unfold setPinned
  extract_lets old s1 s2 hi
  have h2 : Canonical s2 := h.clearWays.setFld
  refine .ite h (h2.mapMem fun hm => ?_)
  obtain ⟨stk, bank, acc, dirty, arr, pins, saps⟩ := (Memory.wf_iff _).1 hm
  exact (Memory.wf_iff _).2 ⟨stk, bank, acc, dirty, arr, mapRising_mapDropRange _ _ _ pins, saps⟩

protected theorem Canonical.setShare {s c old new} (h : Canonical s) : Canonical (setShare s c old new) := by
  unfold setShare
  extract_lets p s1 lo s2
  have h1 : Canonical s1 := h.setFld.setFld
  have h2 : Canonical s2 := h1.modCore
  refine .ite h1 (h2.mapMem fun hm => ?_)
  obtain ⟨stk, bank, acc, dirty, arr, pins, saps⟩ := (Memory.wf_iff _).1 hm
  exact (Memory.wf_iff _).2 ⟨stk, bank, acc, dirty, mapRising_mapDropRange _ _ _ arr, pins, saps⟩

protected theorem Canonical.railsUp {s} (h : Canonical s) : Canonical (railsUp s) :=
  h.foldl fun _ _ h => h.setFld.setFld

protected theorem Canonical.countSpares {s} (h : Canonical s) : Canonical (countSpares s) := by
  unfold countSpares
  extract_lets _ _ s1 s2 s3 s4 s5
  have h1 : Canonical s1 := h.setFld
  have h2 : Canonical s2 := h1.setFld
  have h3 : Canonical s3 := h2.setFld
  have h4 : Canonical s4 := h3.setFld
  have h5 : Canonical s5 := h4.setFld
  exact h5.setFld

protected theorem Canonical.flushSlice {s n} (h : Canonical s) : Canonical (flushSlice s n) :=
  h.foldl fun _ _ h => h.l2Evict

protected theorem Canonical.setHash {s x} (h : Canonical s) : Canonical (setHash s x) :=
  (Canonical.ite h (h.foldl fun _ _ h => h.flushSlice)).foldl fun _ _ h => h.setFld

protected theorem Canonical.applyL2 {s b} (h : Canonical s) : Canonical (applyL2 s b) :=
  h.setHash.foldl fun _ _ h => h.setPinned

protected theorem Canonical.setHomes {s} (h : Canonical s) : Canonical (setHomes s) :=
  h.foldl fun _ _ h => h.setFld

protected theorem Canonical.applyBanks {s b} (h : Canonical s) : Canonical (applyBanks s b) :=
  (h.foldl fun _ _ h => h.setReg).setHomes

protected theorem Canonical.applyCores {s old b} (h : Canonical s) : Canonical (applyCores s old b) :=
  h.foldl fun _ _ h => h.setShare.setFld.setFld.setFld.setActive

protected theorem Canonical.applyModesSec {s b} (h : Canonical s) : Canonical (applyModesSec s b) :=
  h.withWdn.foldl fun _ _ h => h.applyModes

protected theorem Canonical.applyLaunchSecs {s old c} (h : Canonical s) : Canonical (applyLaunchSecs s old c) := by
  unfold applyLaunchSecs
  extract_lets s1 s2 s3
  have h1 : Canonical s1 := by unfold s1; split; exacts [h.applyL2, h]
  have h2 : Canonical s2 := by unfold s2; split; exacts [h1.applyBanks, h1]
  have h3 : Canonical s3 := by unfold s3; split; exacts [h2.applyCores, h2]
  split
  exacts [h3.applyModesSec, h3]

protected theorem Canonical.canopyLoad {s old c} (h : Canonical s) : ∀ t, canopyLoad s old c = .ok t → Canonical t := by
  unfold canopyLoad
  extract_lets x pin s1 s2 s3 s4 s5 s6 s7 was s8 s9
  split
  · exact .error
  · have h1 : Canonical s1 := h.domainsUp
    have h2 : Canonical s2 := h1.numberCores
    have h3 : Canonical s3 := h2.numberBanks
    have h4 : Canonical s4 := h3.choosePorts
    have h5 : Canonical s5 := h4.mapWays.mapTsvs
    have h6 : Canonical s6 := h5.loadRepairs.applyBootSecs.wtReset
    have h7 : Canonical s7 := h6.modWdn
    have h8 : Canonical s8 := h7.ite (h7.foldl fun _ _ h => h.setPinned)
    have h9 : Canonical s9 := h8.ite (h8.foldl fun _ _ h => h.setShare)
    exact .ok h9.applyLaunchSecs.countSpares.railsUp

protected theorem Canonical.structFail {s detail n} (h : Canonical s) : Canonical (structFail s detail n) :=
  h.bootFail.canFault.logFault

protected theorem Canonical.clearStacks {s logToo} (h : Canonical s) : Canonical (clearStacks s logToo) := by
  unfold clearStacks
  extract_lets s1 s2
  have h1 : Canonical s1 := h.mapMem fun hm => by
    obtain ⟨-, h2, -, -, h5, h6, -⟩ := (Memory.wf_iff _).1 hm
    exact (Memory.wf_iff _).2 ⟨rfl, h2, nofun, rfl, h5, h6, rfl, rfl, rfl⟩
  have h2 : Canonical s2 := h1.filterRegs
  exact h2.frame

/-- The boot stub in a core's array. -/
theorem Canonical.putArr {s : State} (h : Canonical s) (a : Nat) (bs : List Byte) :
    Canonical (s.modMem fun m => { m with arr := overlay m.arr a bs }) := h.mapMem fun hm => by
  obtain ⟨stk, bank, acc, dirty, arr, pins, saps⟩ := (Memory.wf_iff _).1 hm
  exact (Memory.wf_iff _).2 ⟨stk, bank, acc, dirty, mapRising_overlay _ _ _ arr, pins, saps⟩

protected theorem Canonical.loadRanger {s b i d} (h : Canonical s) : Canonical (loadRanger s b i d) := by
  unfold loadRanger
  extract_lets s1
  have h1 : Canonical s1 := h.bootStep
  split
  · exact h1.bootFail
  extract_lets l a s2 s3
  have h2 : Canonical s2 := h1.extend
  have h3 : Canonical s3 := h2.writeOrWait
  exact .ite (h3.foldl fun _ _ h => (h.putArr _ _).releaseCore) h1.bootFail

protected theorem Canonical.bootMarch {s b} (h : Canonical s) : Canonical (bootMarch s b) := by
  unfold bootMarch
  extract_lets s1 s2 s3
  have h1 : Canonical s1 := h.mapMem fun hm => by
    obtain ⟨stk, -, rest⟩ := (Memory.wf_iff _).1 hm
    exact (Memory.wf_iff _).2 ⟨stk, rfl, rest⟩
  have h2 : Canonical s2 := (h1.foldl fun _ _ h => h.bankRepair).foldl fun _ _ h => h.bankFail
  have h3 : Canonical s3 := h2.setBit
  exact h3.setBit.setBit

protected theorem Canonical.bootOn {s b old i d c} (h : Canonical s) : Canonical (bootOn s b old i d c) := by
  unfold bootOn
  extract_lets s1
  have h1 : Canonical s1 := h.bootStep.bootTests
  split
  · exact h1.structFail.passTime
  extract_lets _ _ s21 s22 s23 s24 s25 s26 s27
  have h21 : Canonical s21 := (h1.canopyLoad _ ‹_›).modWdn
  have h22 : Canonical s22 := h21.modWdn.planUp
  have h23 : Canonical s23 := h22.bootStep
  have h24 : Canonical s24 := .ite h23 h23.clearStacks
  have h25 : Canonical s25 := h24.setBit
  have h26 : Canonical s26 := h25.bootMarch.loadRanger
  have h27 : Canonical s27 := h26.passTime
  exact h27.bootStep.startTraining.applyCaps.bootCheck

protected theorem Canonical.bootFromOff {s b} (h : Canonical s) : Canonical (bootFromOff s b) := by
  unfold bootFromOff
  extract_lets
  split
  · split
    · exact (h.tryImages.fst ‹_›).recovery
    · exact (h.tryImages.fst ‹_›).bootOn
  split
  · exact (h.tryStep3.fst ‹_›).bootOn
  split
  · exact ((h.tryStep3.fst ‹_›).tryImages.fst ‹_›).recovery
  · exact ((h.tryStep3.fst ‹_›).tryImages.fst ‹_›).bootOn

/-- The state after PORESET_N is in canonical form. -/
protected theorem Canonical.reset : Canonical State.reset := by
  refine ⟨rfl, reset_memory_wf, fun e d hd => ?_⟩
  simp [State.reset, XEng.reset] at hd

protected theorem Canonical.powerDownOff {s} (h : Canonical s) : Canonical (powerDownOff s) := by
  unfold powerDownOff
  extract_lets z s1 s2
  have h2 : Canonical s2 := (h.foldl fun _ _ h => h.setFld).setFld
  have hz : Canonical { z with regs := s2.regs.filter fun e => offKept e.1 } :=
    ⟨mapWf_filter _ _ _ h2.1, Canonical.reset.2⟩
  exact hz.frame

protected theorem Goes.execDeviceWake {source b s} : Goes s (execDeviceWake source b s) := by
  unfold execDeviceWake
  split
  · exact .next fun h => h
  split
  · exact .next fun h => h
  split
  · exact .next fun h => h.wakeNote.startTraining.releaseAll.setDevState
  split
  · extract_lets s41 s42 s43
    have h41 (h : Canonical s) : Canonical s41 := h.wakeNote.domainsUp.applyEnergy
    have h42 (h : Canonical s) : Canonical s42 := ((h41 h).foldl fun _ _ h => h.coreReset).resetCores
    have h43 (h : Canonical s) : Canonical s43 := (h42 h).planUp.applyCaps
    exact .next fun h => (h43 h).passTime.startTraining.setDevState
  split
  exacts [.next fun h => h.powerDownOff.wakeNote.setDevState.resetCores.bootFromOff, .next fun h => h]

protected theorem Canonical.avsFrame {s m ok vdone} (h : Canonical s) : Canonical (avsFrame s m ok vdone) := by
  unfold avsFrame
  extract_lets s1 _ s2 s3 s4
  have h1 : Canonical s1 := h.count
  have h2 : Canonical s2 := h1.count
  have h3 : Canonical s3 := h1.modPwr
  have h4 : Canonical s4 := by unfold s4; split; exacts [h1, .ite (.ite h2.modPwr h1.modPwr) (.ite h3 (.ite h3.wtEvent.setRail (h3.wtEvent.when .avsQueue)))]
  exact h4.modPwr

protected theorem Goes.execAvsFrame {m ok vdone s} : Goes s (execAvsFrame m ok vdone s) := by
  unfold execAvsFrame
  split
  exacts [.next fun h => h, .next fun h => h.avsFrame]

protected theorem Canonical.poreset {s} : Canonical (poreset s) := by
  unfold poreset
  extract_lets z _ _ _ t t1
  have ht : Canonical t := Canonical.frame (s := State.reset) .reset
  have h1 : Canonical t1 := ht.setBit
  exact h1.setReg.setBit.resetCores

protected theorem Canonical.boot {s b old} (h : Canonical s) : Canonical (boot s b old) := by
  unfold boot
  extract_lets s1 _ s2 _ s3 s4 s5
  have h1 : Canonical s1 := h.bootStep
  have h2 : Canonical s2 := by unfold s2; split; exacts [h1.when fun h => h.logFault.modPwr, h1]
  have h3 : Canonical s3 := h2.modWdn
  have h4 : Canonical s4 := h3.setFld
  have h5 : Canonical s5 := h4.setBit
  split
  · exact h5.bootFail.recovery
  split
  · exact (h5.tryImages.fst ‹_›).recovery
  · exact (h5.tryImages.fst ‹_›).bootOn

protected theorem Canonical.writeRates {s} (h : Canonical s) : Canonical (writeRates s) :=
  h.foldl fun _ _ h => h.avsQueue

protected theorem Goes.execPoreset {b s} : Goes s (execPoreset b s) := by
  unfold execPoreset
  extract_lets s1 _ s2
  have h1 : Canonical s1 := .poreset
  have h2 : Canonical s2 := h1.withModu
  exact .next fun _ => h2.writeRates.boot

protected theorem Canonical.ringWarm {s} (h : Canonical s) : Canonical (ringWarm s) :=
  (h.foldl fun _ _ h => .ite ((Canonical.ite (.ite h h.setCause.doomRecord) ((Canonical.ite h h.setCause.doomRecord).dropSubs)).setSap.count.freeSlot) (h.when .setSlotState)).promote

protected theorem Canonical.warmReset {s} (h : Canonical s) : Canonical (warmReset s) := by
  unfold warmReset
  extract_lets lost s1 z m st kept _ _ _ _ _ _ t t1 t2 t3 t4 t5 t6 t7 t8
  have h1 : Canonical s1 := h.ringWarm
  have hm : Memory.wf m = true := flushDirty_wf h1.memWf
  have ht : Canonical t := by
    obtain ⟨a1, -, a3, -, a5, a6, a7, a8, a9⟩ := (Memory.wf_iff _).1 hm
    exact ⟨mapWf_filter _ _ _ h1.1, (Memory.wf_iff _).2 ⟨a1, rfl, a3, rfl, a5, a6, a7, a8, a9⟩, Canonical.reset.2.2⟩
  have h3 : Canonical t3 := ht.setFld.setFld.foldl fun _ _ h => h.setFld
  have h4 : Canonical t4 := h3.foldl fun _ _ h => h.setFld
  have h8 : Canonical t8 := h4.setFld.setFld.setFld.count
  exact h8.setBit.resetCores

protected theorem Canonical.warmRst {s b} (h : Canonical s) : Canonical (warmRst s b) :=
  .ite h h.warmReset.boot

protected theorem Goes.execWarmrst {b s} : Goes s (execWarmrst b s) :=
  .next fun h => h.warmRst

protected theorem Canonical.popReq {s} (h : Canonical s) : Canonical (popReq s) :=
  h.modWdn.countSat

protected theorem Canonical.readDone {s m} (h : Canonical s) : Canonical (readDone s m) := by
  unfold readDone
  split
  exacts [h.when .memRead, h]

protected theorem Canonical.wdnWrite {s a b} (h : Canonical s) : Canonical (wdnWrite s a b) :=
  h.writeOrWait

protected theorem Canonical.finishReq {s r status out} (h : Canonical s) : Canonical (finishReq s r status out) := by
  unfold finishReq
  extract_lets s1 s2
  have h1 : Canonical s1 := h.popReq
  have h2 : Canonical s2 := .ite h1 h1.wdnWrite
  split
  exacts [.ite h1 h1.raiseInt, h2.wdnWrite.wdnWrite.when .raiseInt, h1.modWdn.when .raiseInt]

protected theorem Canonical.skipBad {n s} (h : Canonical s) : Canonical (skipBad n s) := by
  induction n generalizing s with
  | zero => exact h
  | succ n ih =>
    unfold skipBad
    split
    · exact h
    · split
      · exact h.ite (ih h.readDone.popReq)
      · exact h.ite (ih h.readDone.finishReq)

protected theorem Canonical.serve {cmd f s} (h : Canonical s) (hf : ∀ s r, Canonical s → Canonical (f s r)) : Canonical (serve cmd f s) := by
  unfold serve
  split
  · extract_lets s1
    have h1 : Canonical s1 := h.skipBad
    split
    · exact h1
    · split
      · exact h1.when fun h => h.ite (hf _ _ h.readDone)
      · exact h1
  · exact h

protected theorem Goes.execWdnReset {b s} : Goes s (execWdnReset b s) :=
  .next fun h => h.serve (fun _ _ h => h.finishReq.warmRst)

protected theorem Goes.execMgmtFrame {f s} : Goes s (execMgmtFrame f s) := by
  unfold execMgmtFrame
  split
  · exact .next fun h => h
  extract_lets s11
  have h11 (h : Canonical s) : Canonical s11 := h.modWdn
  split
  exacts [.next fun h => (h11 h).modWdn, .next fun h => (h11 h)]

protected theorem Canonical.blameCore {s r} (h : Canonical s) : Canonical (blameCore s r) :=
  h.when .modCore

protected theorem Canonical.recCount {s r} (h : Canonical s) : Canonical (recCount s r) :=
  .ite h.eccCount (h.when .eccCount)

protected theorem Canonical.wayOut {s n way} (h : Canonical s) : Canonical (wayOut s n way) :=
  (h.setFld.when .retire).clearWays

protected theorem Canonical.takeRecord {s r} (h : Canonical s) : Canonical (takeRecord s r) :=
  h.recCount.logFault.blameCore.when .wayOut

protected theorem Canonical.upsetWord {s a} (h : Canonical s) : Canonical (upsetWord s a) := by
  unfold upsetWord
  split
  exacts [h.modMem, h.modMem, h.modMem, .ite h.modMem h.modMem, h]

protected theorem Canonical.upsetSap {s sl a} (h : Canonical s) : Canonical (upsetSap s sl a) :=
  h.when fun h => h.setSap (sapOf_rising s sl h.memWf)

protected theorem Canonical.takeUpset {s x} (h : Canonical s) : Canonical (takeUpset s x) := by
  unfold takeUpset
  split
  · exact h.modCore
  · exact h.modCore
  · exact h.upsetWord
  · exact h.when .modCore
  · exact h.upsetSap
  · refine h.mapMem fun hm => ?_
    obtain ⟨stk, bank, acc, rest⟩ := (Memory.wf_iff _).1 hm
    refine (Memory.wf_iff _).2 ⟨stk, bank, fun v hv => ?_, rest⟩
    obtain ⟨w, hw, rfl⟩ := List.mem_map.1 hv
    split
    exacts [acc w hw, acc w hw]
  split
  exacts [h.modMem, h]

protected theorem Goes.execFaultRecord {e s} : Goes s (execFaultRecord e s) := by
  unfold execFaultRecord
  split
  · exact .next fun h => h
  split
  exacts [.next fun h => h.takeRecord, .next fun h => h.takeUpset]

protected theorem Canonical.byMaster {s m f} (h : Canonical s) (hf : ∀ s, Canonical s → Canonical (f s)) : Canonical (byMaster s m f) := by
  unfold byMaster
  split
  · extract_lets t
    have ht : Canonical t := h.retireAll.drainMerge
    exact ht.ite (hf _ ht)
  · exact hf _ h

protected theorem Canonical.registerWriteOp {s m a v} (h : Canonical s) : Canonical (registerWriteOp s m a v) :=
  .ite h (h.byMaster (fun _ h => h.getD h.regionWrite))

protected theorem Goes.execRegisterWrite {m a v s} : Goes s (execRegisterWrite m a v s) := by
  unfold execRegisterWrite
  split
  exacts [.next fun h => h, .next fun h => h.registerWriteOp]

protected theorem Goes.execTimer {c s} : Goes s (execTimer c s) := by
  unfold execTimer
  split
  exacts [.next fun h => h, .next fun h => h.timerUpdate]

protected theorem Goes.execVectorRetire {c s} : Goes s (execVectorRetire c s) := by
  unfold execVectorRetire
  split
  exacts [.next fun h => h, .next fun h => h.vecRetire]

protected theorem Goes.execQuietWindowEnd {c s} : Goes s (execQuietWindowEnd c s) := by
  unfold execQuietWindowEnd
  split
  · exact .next fun h => h
  split
  exacts [.next fun h => h.modCore, .next fun h => h]

protected theorem Goes.execWardenStopTaken {c s} : Goes s (execWardenStopTaken c s) := by
  unfold execWardenStopTaken
  split
  exacts [.next fun h => h.stopCore, .next fun h => h]

protected theorem Goes.execCoreSwiWrite {c v s} : Goes s (execCoreSwiWrite c v s) := by
  unfold execCoreSwiWrite
  split
  exacts [.next fun h => h, .next fun h => h.ctrlRegWrite]

protected theorem Goes.execNumModeApply {c s} : Goes s (execNumModeApply c s) := by
  unfold execNumModeApply
  split
  exacts [.next fun h => h, .next fun h => h.modeApply]

protected theorem Goes.execArrayRampStep {c s} : Goes s (execArrayRampStep c s) := by
  unfold execArrayRampStep
  split
  · exact .next fun h => h
  extract_lets _ _ s11
  have h11 (h : Canonical s) : Canonical s11 := h.setFld
  split
  · exact .next fun h => h
  split
  · exact .next fun h => h.rampRow
  split
  · exact .next fun h => (h11 h).when .setBit
  split
  exacts [.next fun h => h.setFld, .next fun h => h.setFld.setBit]

protected theorem Goes.execVecVlApply {c s} : Goes s (execVecVlApply c s) := by
  unfold execVecVlApply
  split
  exacts [.next fun h => h, .next fun h => h.vlApply]

protected theorem Goes.execQuiescentApply {c s} : Goes s (execQuiescentApply c s) := by
  unfold execQuiescentApply
  split
  exacts [.next fun h => h, .next fun h => h.rngApply]

protected theorem Goes.execPrefetch {c i s} : Goes s (execPrefetch c i s) := by
  unfold execPrefetch
  split
  · exact .next fun h => h
  split
  · exact .next fun h => h
  split
  · exact .next fun h => h
  extract_lets s31
  have h31 (h : Canonical s) : Canonical s31 := h.modCore
  split
  · exact .next fun h => (h31 h)
  split
  · exact .next fun h => h.count
  split
  exacts [.next fun h => h, .next fun h => (h31 h).count.sliceRequest]

protected theorem Goes.execDeadfall {c v s} : Goes s (execDeadfall c v s) := by
  unfold execDeadfall
  split
  exacts [.next fun h => h, .next fun h => h.byMaster (fun _ h => h.deadfallOp)]

protected theorem Goes.execThrashWindow {slice s} : Goes s (execThrashWindow slice s) := by
  unfold execThrashWindow
  split
  exacts [.next fun h => h, .next fun h => h.setSlice]

protected theorem Goes.execMarchGo {v s} : Goes s (execMarchGo v s) := by
  unfold execMarchGo
  split
  exacts [.next fun h => h, .next fun h => h.marchCtrlWrite]

protected theorem Goes.execPteSet {st v s} : Goes s (execPteSet st v s) := by
  unfold execPteSet
  split
  exacts [.next fun h => h, .next fun h => h.pteSetWrite]

protected theorem Goes.execAccClear {st i v s} : Goes s (execAccClear st i v s) := by
  unfold execAccClear
  split
  exacts [.next fun h => h, .next fun h => h.accClearOp]

protected theorem Goes.execAccAdd {st i v s} : Goes s (execAccAdd st i v s) := by
  unfold execAccAdd
  split
  exacts [.next fun h => h, .next fun h => h.accAddOp]

protected theorem Goes.execAccAddsq {st i v s} : Goes s (execAccAddsq st i v s) := by
  unfold execAccAddsq
  split
  exacts [.next fun h => h, .next fun h => h.accAddSqOp]

protected theorem Goes.execSubOpen {k s} : Goes s (execSubOpen k s) := by
  unfold execSubOpen
  split
  exacts [.next fun h => h, .next fun h => h.subOpenOp]

protected theorem Goes.execSubCloseKeep {k s} : Goes s (execSubCloseKeep k s) := by
  unfold execSubCloseKeep
  split
  exacts [.next fun h => h, .next fun h => h.subCloseOp]

protected theorem Goes.execSubCloseDiscard {k s} : Goes s (execSubCloseDiscard k s) := by
  unfold execSubCloseDiscard
  split
  exacts [.next fun h => h, .next fun h => h.subCloseOp]

protected theorem Goes.execSilenceTimeout {member s} : Goes s (execSilenceTimeout member s) := by
  unfold execSilenceTimeout
  split
  · exact .next id
  split
  · refine .next fun h => h.foldl fun s r h => ?_
    split
    · exact h.when fun h => h.leadPut.leadDecide
    · exact h
  · exact .next id

protected theorem Goes.execOutcomeTimeout {ring s} : Goes s (execOutcomeTimeout ring s) := by
  unfold execOutcomeTimeout
  split
  · exact .next fun h => h
  split
  · split
    exacts [.next fun h => h.memberResolve, .next fun h => h]
  · exact .next fun h => h

protected theorem Goes.execResolveRetry {ring lead s} : Goes s (execResolveRetry ring lead s) := by
  unfold execResolveRetry
  split
  · exact .next fun h => h
  split
  · split
    exacts [.next fun h => h.putResolve.sendClaim, .next fun h => h]
  · exact .next fun h => h

protected theorem Goes.execVoteAlive {p s} : Goes s (execVoteAlive p s) := by
  unfold execVoteAlive
  split
  exacts [.next fun h => h, .next fun h => h.recvRing]

protected theorem Goes.execRingNextWrite {v s} : Goes s (execRingNextWrite v s) := by
  unfold execRingNextWrite
  split
  exacts [.next fun h => h, .next fun h => h.ringNextOp]

protected theorem Goes.execRingGstepWrite {v s} : Goes s (execRingGstepWrite v s) := by
  unfold execRingGstepWrite
  split
  exacts [.next fun h => h, .next fun h => h.ringGstepOp]

protected theorem Goes.execXferPost {m e v s} : Goes s (execXferPost m e v s) := by
  unfold execXferPost
  split
  exacts [.next fun h => h, .next fun h => .ite h (h.byMaster (fun _ h => h.xferPostOp))]

protected theorem Goes.execXferAbort {e s} : Goes s (execXferAbort e s) := by
  unfold execXferAbort
  split
  exacts [.next fun h => h, .next fun h => h.abortEngine]

protected theorem Goes.execReplayRequest {port ack s} : Goes s (execReplayRequest port ack s) := by
  unfold execReplayRequest
  split
  · exact .next fun h => h
  split
  exacts [.next fun h => h.ackFlits.replay, .next fun h => h]

protected theorem Goes.execReplayTimeout {port s} : Goes s (execReplayTimeout port s) := by
  unfold execReplayTimeout
  split
  · exact .next fun h => h
  split
  exacts [.next fun h => h, .next fun h => h.replay]

protected theorem Goes.execPortFailure {port s} : Goes s (execPortFailure port s) := by
  unfold execPortFailure
  split
  exacts [.next fun h => h, .next fun h => h.portDown]

protected theorem Goes.execFecThreshold {port ended s} : Goes s (execFecThreshold port ended s) := by
  unfold execFecThreshold
  split
  · exact .next fun h => h
  split
  · exact .next fun h => h
  split
  · exact .next fun h => h.portDown
  split
  exacts [.next fun h => h.modPort, .next fun h => h]

protected theorem Goes.execRetrain {port s} : Goes s (execRetrain port s) := by
  unfold execRetrain
  split
  exacts [.next fun h => h, .next fun h => h.portDown]

protected theorem Goes.execJoinRefuse {port s} : Goes s (execJoinRefuse port s) := by
  unfold execJoinRefuse
  split
  · exact .next fun h => h
  split
  exacts [.next fun h => h, .next fun h => h.setPortState.rideEvent.bootCheck]

protected theorem Goes.execStreamExpiry {src cls s} : Goes s (execStreamExpiry src cls s) := by
  unfold execStreamExpiry
  split
  · exact .next fun h => h
  split
  exacts [.next fun h => h, .next fun h => h.modRide]

protected theorem Goes.execDuplicateWaitExpiry {id s} : Goes s (execDuplicateWaitExpiry id s) := by
  unfold execDuplicateWaitExpiry
  split
  · exact .next fun h => h
  split
  · split
    exacts [.next fun h => h.rideComplete.drainHeld, .next fun h => h]
  · exact .next fun h => h

protected theorem Goes.execBlzValueWrite {b v s} : Goes s (execBlzValueWrite b v s) := by
  unfold execBlzValueWrite
  split
  exacts [.next fun h => h, .next fun h => h.blzStore]

protected theorem Goes.execBlzAddWrite {b v s} : Goes s (execBlzAddWrite b v s) := by
  unfold execBlzAddWrite
  split
  exacts [.next fun h => h, .next fun h => h.blzAdd]

protected theorem Goes.execCancel {v s} : Goes s (execCancel v s) := by
  unfold execCancel
  split
  exacts [.next fun h => h, .next fun h => h.cancelOp]

protected theorem Goes.execSensorReading {q t s} : Goes s (execSensorReading q t s) := by
  unfold execSensorReading
  extract_lets s1
  have h1 (h : Canonical s) : Canonical s1 := .ite h h.modFor
  exact .next fun h => (h1 h).withModu

protected theorem Canonical.scrubStack {start s st} (h : Canonical s) : Canonical (scrubStack start s st) := by
  unfold scrubStack
  extract_lets done _ _ _ s2 s3 s4
  have hdone (s t) (h : Canonical s) : Canonical (done s t) := h.modFor
  have h2 : Canonical s2 := h.setFld
  have h3 : Canonical s3 := hdone _ _ h2
  have h4 : Canonical s4 := h3.countSat
  exact .ite (hdone _ _ h) (.ite h3 h4.modMem)

protected theorem Canonical.actFinish {s k start mon} (h : Canonical s) : Canonical (actFinish s k start mon) :=
  .ite (h.foldl fun _ _ h => h.scrubStack) (h.when fun h => h.storeMon.setBit)

protected theorem Goes.execActivityEnd {k mon s} : Goes s (execActivityEnd k mon s) := by
  unfold execActivityEnd
  split
  · exact .next fun h => h
  extract_lets _ _ _ s11 s12 s13 s14
  have h11 (h : Canonical s) : Canonical s11 := h.actFinish
  have h12 (h : Canonical s) : Canonical s12 := (h11 h).setFld
  have h13 (h : Canonical s) : Canonical s13 := .ite (h12 h) ((h12 h).count)
  have h14 (h : Canonical s) : Canonical s14 := (h13 h).when .setBit
  split
  exacts [.next fun h => h, .next fun h => (h14 h).setAct]

protected theorem Goes.execForActWrite {k v s} : Goes s (execForActWrite k v s) := by
  unfold execForActWrite
  split
  exacts [.next fun h => h, .next fun h => h.forActWrite]

protected theorem Goes.execCoreRest {c s} : Goes s (execCoreRest c s) := by
  unfold execCoreRest
  split
  exacts [.next fun h => h, .next fun h => h.restOn]

protected theorem Goes.execThermalTrip {q t s} : Goes s (execThermalTrip q t s) := by
  unfold execThermalTrip
  split
  · exact .next fun h => h
  split
  · extract_lets s21 s22 s23
    have h21 (h : Canonical s) : Canonical s21 := h.modPwr
    have h22 (h : Canonical s) : Canonical s22 := (h21 h).setBit
    have h23 (h : Canonical s) : Canonical s23 := (h22 h).setBit
    exact .next fun h => (h23 h).frame
  · exact .next fun h => h

protected theorem Canonical.railAck {s k} (h : Canonical s) : Canonical (railAck s k) :=
  h.when fun h => h.setFld.setRail.railUpdate

protected theorem Goes.execRailAck {k s} : Goes s (execRailAck k s) := by
  unfold execRailAck
  split
  exacts [.next fun h => h, .next fun h => h.railAck]

protected theorem Canonical.avsTimeout {s k} (h : Canonical s) : Canonical (avsTimeout s k) :=
  .ite h (.ite h.count.setRail.avsQueue.avsQueue (.ite ((h.count.setFld.setRail.when .setFld).logFault) ((h.count.setFld.setRail.when .setFld).logFault.railUpdate)))

protected theorem Goes.execAvsTimeout {k s} : Goes s (execAvsTimeout k s) := by
  unfold execAvsTimeout
  split
  exacts [.next fun h => h, .next fun h => h.avsTimeout]

protected theorem Canonical.clockStep {s c} (h : Canonical s) : Canonical (clockStep s c) := by
  unfold clockStep
  split
  exacts [h.setFld.setFld.when fun h => h.count.count.railUpdate, h]

protected theorem Goes.execClockStep {c s} : Goes s (execClockStep c s) := by
  unfold execClockStep
  split
  exacts [.next fun h => h, .next fun h => h.clockStep]

protected theorem Goes.execAgeMeasure {mon s} : Goes s (execAgeMeasure mon s) := by
  unfold execAgeMeasure
  split
  · exact .next fun h => h
  split
  · extract_lets _ s21
    have h21 (h : Canonical s) : Canonical s21 := h.withWdn
    exact .next fun h => (h21 h).storeMon.setBit
  split
  exacts [.next fun h => h, .next fun h => h.storeMon]

protected theorem Goes.execMailboxPost {v s} : Goes s (execMailboxPost v s) := by
  unfold execMailboxPost
  split
  exacts [.next fun h => h, .next fun h => h.mboxPost]

protected theorem Goes.execSvcqBaseWrite {v s} : Goes s (execSvcqBaseWrite v s) := by
  unfold execSvcqBaseWrite
  split
  exacts [.next fun h => h, .next fun h => h.svcqBaseOp]

protected theorem Goes.execWtSeedWrite {v s} : Goes s (execWtSeedWrite v s) := by
  unfold execWtSeedWrite
  split
  exacts [.next fun h => h, .next fun h => h.wtSeedOp]

protected theorem Goes.execWtPointWrite {k v s} : Goes s (execWtPointWrite k v s) := by
  unfold execWtPointWrite
  split
  exacts [.next fun h => h, .next fun h => h.wtPointOp]

protected theorem Goes.execPmbusPoll {r s} : Goes s (execPmbusPoll r s) := by
  unfold execPmbusPoll
  split
  exacts [.next fun h => h, .next fun h => h.modWdn]

protected theorem Goes.execGpioEdge {pin s} : Goes s (execGpioEdge pin s) := by
  unfold execGpioEdge
  split
  exacts [.next fun h => h.raiseInt, .next fun h => h]

protected theorem Goes.execUpdFallbackSet {c v s} : Goes s (execUpdFallbackSet c v s) := by
  unfold execUpdFallbackSet
  split
  exacts [.next fun h => h, .next fun h => h.fallbackWrite]

protected theorem Goes.execUpdCountInc {c k s} : Goes s (execUpdCountInc c k s) := by
  unfold execUpdCountInc
  split
  exacts [.next fun h => h, .next fun h => h.ctrlRegWrite]

protected theorem Goes.execClaimResend {ring lead s} : Goes s (execClaimResend ring lead s) := by
  unfold execClaimResend
  split
  · exact .next fun h => h
  split
  · split
    exacts [.next fun h => h.putResolve.sendClaim, .next fun h => h]
  · exact .next fun h => h

protected theorem Canonical.sendJudged {s p} (h : Canonical s) : Canonical (sendJudged s p) := by
  unfold sendJudged
  split
  exacts [h.sendPacket, h.withRide]

protected theorem Goes.execWtXportHoldRelease {i s} : Goes s (execWtXportHoldRelease i s) := by
  unfold execWtXportHoldRelease
  split
  · exact .next fun h => h
  split
  exacts [.next fun h => h.withFlt.sendJudged, .next fun h => h]

protected theorem Goes.execBankModeChange {s} : Goes s (execBankModeChange s) := by
  unfold execBankModeChange
  split
  exacts [.next fun h => h, .next fun h => h.setBit]

protected theorem Goes.execRingOpen {s} : Goes s (execRingOpen s) := by
  unfold execRingOpen
  split
  exacts [.next fun h => h, .next fun h => h.ringCtrlWrite]

protected theorem Canonical.openHeld {s} (h : Canonical s) : Canonical (openHeld s) :=
  h.when fun h => .ite h.setBit.setBit.ringEvent h.openRing

protected theorem Goes.execOpenAccept {s} : Goes s (execOpenAccept s) := by
  unfold execOpenAccept
  split
  exacts [.next fun h => h, .next fun h => h.openHeld]

protected theorem Goes.execSeal {s} : Goes s (execSeal s) := by
  unfold execSeal
  split
  exacts [.next fun h => h, .next fun h => h.ringCtrlWrite]

protected theorem Goes.execRingCtrlDiscard {s} : Goes s (execRingCtrlDiscard s) := by
  unfold execRingCtrlDiscard
  split
  exacts [.next fun h => h, .next fun h => h.ringCtrlWrite]

protected theorem Canonical.prepareDone {s} (h : Canonical s) : Canonical (prepareDone s) := by
  unfold prepareDone
  split
  exacts [h, .ite h (.ite h.setSlot.setSlotState.ringEvent h.setSlot.setSlotState.ringEvent.setSlot.sendVote)]

protected theorem Goes.execPrepareComplete {s} : Goes s (execPrepareComplete s) := by
  unfold execPrepareComplete
  split
  exacts [.next fun h => h, .next fun h => h.prepareDone]

protected theorem Goes.execMirrorDrainComplete {s} : Goes s (execMirrorDrainComplete s) := by
  unfold execMirrorDrainComplete
  split
  · exact .next fun h => h
  split
  · exact .next fun h => h
  extract_lets _ s21
  have h21 (h : Canonical s) : Canonical s21 := h.setSlot
  split
  exacts [.next fun h => (h21 h).sendVote, .next fun h => h]

protected theorem Goes.execAliveTimer {s} : Goes s (execAliveTimer s) := by
  unfold execAliveTimer
  split
  · exact .next fun h => h
  split
  exacts [.next fun h => h, .next fun h => h.sendVote]

protected theorem Goes.execRecoverResolve {s} : Goes s (execRecoverResolve s) := by
  unfold execRecoverResolve
  split
  · exact .next fun h => h
  split
  · extract_lets s21 s22
    have h21 (h : Canonical s) : Canonical s21 := h.modRing
    have h22 (h : Canonical s) : Canonical s22 := (h21 h).foldl fun _ _ h => h.when .memberResolve
    exact .next fun h => (h22 h).recoverCheck
  · exact .next fun h => h

protected theorem Goes.execResetQuietEnd {s} : Goes s (execResetQuietEnd s) := by
  unfold execResetQuietEnd
  split
  exacts [.next fun h => h, .next fun h => h.modRide.drainOutbox]

protected theorem Goes.execPostAccept {s} : Goes s (execPostAccept s) := by
  unfold execPostAccept
  split
  · exact .next fun h => h
  split
  · split
    exacts [.next fun h => h.modFor.acceptPost, .next fun h => h]
  · exact .next fun h => h

protected theorem Goes.execForesterTick {s} : Goes s (execForesterTick s) := by
  unfold execForesterTick
  split
  · exact .next fun h => h
  extract_lets _ s11 _ s12
  have h11 (h : Canonical s) : Canonical s11 := h.foldl fun _ _ h => h.setFld
  have h12 (h : Canonical s) : Canonical s12 := (h11 h).modFor
  split
  exacts [.next fun h => (h12 h).decision, .next fun h => (h12 h)]

protected theorem Canonical.fcapAdjust {s q} (h : Canonical s) : Canonical (fcapAdjust s q) := by
  unfold fcapAdjust
  extract_lets _ _ _ _ _ s1 s2
  have h1 : Canonical s1 := h.setFld
  have h2 : Canonical s2 := .ite (h1.setBit.count.foldl fun _ _ h => h.raiseInt) (h1.when .setBit)
  exact (h2.foldl fun _ _ h => h.requestClock).serveRails

protected theorem Goes.execFcapAdjust {s} : Goes s (execFcapAdjust s) := by
  unfold execFcapAdjust
  split
  exacts [.next fun h => h, .next fun h => h.foldl fun _ _ h => h.fcapAdjust]

protected theorem Goes.execHeatInAssert {s} : Goes s (execHeatInAssert s) := by
  unfold execHeatInAssert
  split
  · exact .next fun h => h
  extract_lets s11 s12
  have h11 (h : Canonical s) : Canonical s11 := h.modPwr
  have h12 (h : Canonical s) : Canonical s12 := (h11 h).setBit
  split
  exacts [.next fun h => (h11 h), .next fun h => ((h12 h).foldl fun _ _ h => h.raiseInt).applyCaps]

protected theorem Goes.execHeatInRelease {s} : Goes s (execHeatInRelease s) := by
  unfold execHeatInRelease
  split
  · extract_lets s11
    have h11 (h : Canonical s) : Canonical s11 := h.modPwr
    split
    exacts [.next fun h => (h11 h), .next fun h => (h11 h).setBit.applyCaps]
  · exact .next fun h => h

protected theorem Canonical.takeDown {s p} (h : Canonical s) : Canonical (takeDown s p) :=
  .ite h h.setFld

protected theorem Canonical.powerDownRest {s} (h : Canonical s) : Canonical (powerDownRest s) := by
  unfold powerDownRest
  extract_lets s1 s2 s3 s4 s5
  have h2 : Canonical s2 := (h.foldl fun _ _ h => h.setFld).setFld
  have h3 : Canonical s3 := h2.mapMem fun hm => by
    obtain ⟨a1, a2, a3, a4, a5, -, a7, a8, a9⟩ := (Memory.wf_iff _).1 (flushDirty_wf hm)
    exact (Memory.wf_iff _).2 ⟨a1, a2, a3, a4, a5, rfl, a7, a8, a9⟩
  have h4 : Canonical s4 := ⟨mapWf_filter _ _ _ h3.1, h3.memWf, Canonical.reset.2.2⟩
  have h5 : Canonical s5 := h4.foldl fun _ _ h => h.setFld
  exact h5.setBit.foldl fun _ _ h => h.setFld.setFld.takeDown

protected theorem Goes.execDomainPowerDownDone {s} : Goes s (execDomainPowerDownDone s) := by
  unfold execDomainPowerDownDone
  split
  · exact .next fun h => h
  split
  · exact .next fun h => h.powerDownRest.setDevState
  split
  exacts [.next fun h => h.powerDownOff, .next fun h => h]

protected theorem Goes.execWakeComplete {s} : Goes s (execWakeComplete s) := by
  unfold execWakeComplete
  split
  · exact .next fun h => h
  split
  · exact .next fun h => h.releaseAll.setDevState
  split
  exacts [.next fun h => h.setDevState.startService, .next fun h => h]

protected theorem Goes.execOscCalibration {s} : Goes s (execOscCalibration s) := by
  unfold execOscCalibration
  split
  exacts [.next fun h => h, .next fun h => h.count]

protected theorem Goes.execAgePlan {s} : Goes s (execAgePlan s) := by
  unfold execAgePlan
  split
  · exact .next fun h => h
  split
  exacts [.next fun h => h, .next fun h => h.planRun]

protected theorem Goes.execAgePlanPeriod {s} : Goes s (execAgePlanPeriod s) := by
  unfold execAgePlanPeriod
  split
  exacts [.next fun h => h, .next fun h => (h.when .setFld).planRun]

protected theorem Canonical.stopAll {s} (h : Canonical s) : Canonical (stopAll s) :=
  h.foldl fun _ _ h => .ite h h.stopCore

protected theorem Canonical.groupChange {s} (h : Canonical s) : Canonical (groupChange s) := by
  unfold groupChange
  extract_lets s1 s2 s3
  have h1 : Canonical s1 := h.foldl fun _ _ h => .ite h.dropRing (h.when .freeSlot)
  have h2 : Canonical s2 := h1.setReg
  have h3 : Canonical s3 := h2.mapMem fun hm => by
    obtain ⟨stk, bank, acc, dirty, arr, pins, new, old, -⟩ := (Memory.wf_iff _).1 hm
    exact (Memory.wf_iff _).2 ⟨stk, bank, acc, dirty, arr, pins, new, old, rfl⟩
  exact h3.modRing

protected theorem Canonical.applyPending {s e} (h : Canonical s) : Canonical (applyPending s e) :=
  .ite h.setShare (.ite h.setFld.setFld h.setReg)

protected theorem Canonical.applyLL {s members} (h : Canonical s) : Canonical (applyLL s members) := by
  unfold applyLL
  extract_lets _ s1 s2 s3
  have h1 : Canonical s1 := h.when .groupChange
  have h2 : Canonical s2 := h1.foldl fun _ _ h => h.applyPending
  have h3 : Canonical s3 := h2.withLl
  split
  exacts [h3.modRing, h3.when .modRing]

protected theorem Canonical.launchApply {s l} (h : Canonical s) : Canonical (launchApply s l) := by
  unfold launchApply
  extract_lets s1 s2 _ _ _ _ s3 s4 s5 s6 s7 s8 s9 s10
  have h1 : Canonical s1 := h.stopAll
  have h2 : Canonical s2 := h1.applyLL
  have h3 : Canonical s3 := h2.applyLaunchSecs
  have h4 : Canonical s4 := h3.extend
  have h5 : Canonical s5 := h4.setReg
  have h6 : Canonical s6 := h5.setFld
  have h7 : Canonical s7 := h6.countSat
  have h8 : Canonical s8 := h7.setBit.setBit
  have h9 : Canonical s9 := h8.modWdn
  have h10 : Canonical s10 := h9.withCores
  exact (h10.foldl fun _ _ h => h.when .releaseCore).decision

protected theorem Goes.execLaunchDrained {s} : Goes s (execLaunchDrained s) := by
  unfold execLaunchDrained
  split
  · split
    exacts [.next fun h => h.launchApply, .next fun h => h]
  · exact .next fun h => h

protected theorem Canonical.launchFail {s e} (h : Canonical s) : Canonical (launchFail s e) :=
  h.setFld.canFault.setBit

protected theorem Goes.execDrainTimeout {s} : Goes s (execDrainTimeout s) := by
  unfold execDrainTimeout
  split
  · extract_lets s11 s12 s13
    have h11 (h : Canonical s) : Canonical s11 := h.modWdn.launchFail
    have h12 (h : Canonical s) : Canonical s12 := (h11 h).setBit
    have h13 (h : Canonical s) : Canonical s13 := by unfold s13; split; exacts [(h12 h).raiseInt, (h12 h)]
    exact .next fun h => (h13 h).decision
  · exact .next fun h => h

protected theorem Canonical.finishOut {s r out} (h : Canonical s) : Canonical (finishOut s r out) :=
  .ite h.finishReq h.finishReq

protected theorem Goes.execWdnInfo {s} : Goes s (execWdnInfo s) :=
  .next fun h => h.serve (fun _ _ h => h.finishOut)

protected theorem Goes.execWdnQuote {s} : Goes s (execWdnQuote s) :=
  .next fun h => h.serve (fun _ _ h => h.finishOut)

protected theorem Goes.execWdnCert {s} : Goes s (execWdnCert s) :=
  .next fun h => h.serve (fun _ _ h => .ite h.finishReq h.finishOut)

protected theorem Canonical.readImage {s r} (h : Canonical s) : Canonical (readImage s r).1 := by
  unfold readImage
  split
  · exact h
  · split
    · exact (h.memRead.fst ‹_›).memRead
    · exact h.memRead

protected theorem Canonical.jobCheck {dir off n i s} (h : Canonical s) : Canonical (jobCheck dir off n i s).1 := by
  induction n generalizing i s with
  | zero => exact h
  | succ n ih =>
    unfold jobCheck
    split
    · exact h.memRead.fst ‹_›
    · have h1 := h.memRead.fst ‹_›
      split
      · split
        · exact h1.memRead.fst ‹_›
        · have h2 := h1.memRead.fst ‹_›
          exact .iteFst h2 (ih h2)
        · exact h1.memRead.fst ‹_›
      · exact ih h1
    · exact h.memRead.fst ‹_›

protected theorem Canonical.membersCheck {s} (h : Canonical s) : Canonical (membersCheck s).1 := by
  unfold membersCheck
  extract_lets
  split
  · split
    · exact h.memRead.fst ‹_›
    · exact h.memRead.fst ‹_›
    · exact h.memRead.fst ‹_›
  · exact h

protected theorem Canonical.launchCheck {s r} (h : Canonical s) : Canonical (launchCheck s r).1 := by
  unfold launchCheck
  split
  · exact h.readImage.fst ‹_›
  · have h1 := h.readImage.fst ‹_›
    split
    · exact h1
    extract_lets pin short job
    have hj : Canonical job.1 := by
      unfold job
      split
      exacts [h1.jobCheck, h1]
    clear_value job short
    split
    · exact h1
    split
    · refine .iteFst hj ?_
      split
      · exact hj.membersCheck.fst ‹_›
      · exact hj.membersCheck
    · exact hj
  · exact h.readImage.fst ‹_›

protected theorem Canonical.launchServe {s r} (h : Canonical s) : Canonical (launchServe s r) := by
  unfold launchServe
  split
  · exact h
  · exact (h.launchCheck.fst ‹_›).launchFail.finishReq
  · exact (h.launchCheck.fst ‹_›).modWdn.setBit.finishReq

protected theorem Goes.execWdnLaunch {s} : Goes s (execWdnLaunch s) :=
  .next fun h => h.serve (fun _  _ h => h.launchServe)

protected theorem Goes.execWdnStop {s} : Goes s (execWdnStop s) :=
  .next fun h => h.serve (fun _ _ h => .ite ((h.foldl fun _ _ h => h.when .modCore).finishReq) h.finishReq)

protected theorem Goes.execWdnRelease {s} : Goes s (execWdnRelease s) :=
  .next fun h => h.serve (fun _ _ h => .ite h.finishReq (.ite ((h.foldl fun _ _ h => h.releaseCore).finishReq) h.finishReq))

protected theorem Canonical.enterDown {s n} (h : Canonical s) : Canonical (enterDown s n) :=
  ((h.stopAll.foldl fun _ _ h => h.drainMerge).foldl fun _ _ h => h.takeDown).setDevState

protected theorem Goes.execWdnRest {s} : Goes s (execWdnRest s) :=
  .next fun h => h.serve (fun _ _ h => .ite h.finishReq h.finishReq.enterDown)

protected theorem Goes.execWdnOff {s} : Goes s (execWdnOff s) :=
  .next fun h => h.serve (fun _ _ h => .ite h.finishReq h.finishReq.enterDown)

protected theorem Goes.execWdnFlashRead {s} : Goes s (execWdnFlashRead s) :=
  .next fun h => h.serve (fun _ _ h => .ite h.finishReq (.ite h.finishReq h.finishOut))

protected theorem Canonical.reqInput {s r} (h : Canonical s) : Canonical (reqInput s r).1 := by
  unfold reqInput
  split
  · exact h
  split
  · split
    · exact h.memRead.fst ‹_›
    · exact h.memRead.fst ‹_›
  · exact h

protected theorem Goes.execWdnFlashWrite {s} : Goes s (execWdnFlashWrite s) := by
  unfold execWdnFlashWrite
  refine .next fun h => h.serve fun s r h => ?_
  extract_lets
  split
  · exact (h.reqInput.fst ‹_›).finishReq
  · exact .ite ((h.reqInput.fst ‹_›).finishReq) (.ite ((h.reqInput.fst ‹_›).finishReq) ((h.reqInput.fst ‹_›).withModu.finishReq))

protected theorem Goes.execWdnAgeRead {s} : Goes s (execWdnAgeRead s) :=
  .next fun h => h.serve (fun _ _ h => h.finishOut)

protected theorem Goes.execWdnLimits {s} : Goes s (execWdnLimits s) :=
  .next fun h => h.serve (fun _ _ h => h.finishOut)

protected theorem Goes.execWdnEnroll {s} : Goes s (execWdnEnroll s) := by
  unfold execWdnEnroll
  refine .next fun h => h.serve fun s r h => ?_
  split
  · exact h.finishReq
  split
  · exact .ite ((h.reqInput.fst ‹_›).finishReq) ((h.reqInput.fst ‹_›).withNv.setBit.finishReq)
  · exact (h.reqInput.fst ‹_›).finishReq

protected theorem Goes.execWdnFloorRaise {s} : Goes s (execWdnFloorRaise s) :=
  .next fun h => h.serve (fun _ _ h => .ite h.finishReq h.withNv.setFld.finishReq)

protected theorem Goes.execWdnFaultRead {s} : Goes s (execWdnFaultRead s) :=
  .next fun h => h.serve (fun _ _ h => h.finishOut)

protected theorem Goes.execWdnMboxService {s} : Goes s (execWdnMboxService s) := by
  unfold execWdnMboxService
  refine .next fun h => h.serve fun s r h => ?_
  split
  · exact .ite ((h.reqInput.fst ‹_›).finishReq) (.ite ((h.reqInput.fst ‹_›).finishReq) ((h.reqInput.fst ‹_›).svcEnq.finishReq))
  · exact (h.reqInput.fst ‹_›).finishReq

protected theorem Goes.execWdnTelemetry {s} : Goes s (execWdnTelemetry s) :=
  .next fun h => h.serve (fun _ _ h => h.finishOut)

protected theorem Canonical.smbReply {s cmd data} (h : Canonical s) : Canonical (smbReply s cmd data) :=
  .ite h h.withModu

protected theorem Goes.execSmbStatus {s} : Goes s (execSmbStatus s) :=
  .next fun h => h.smbReply

protected theorem Goes.execSmbJunctionTemp {s} : Goes s (execSmbJunctionTemp s) := by
  unfold execSmbJunctionTemp
  split
  exacts [.next fun h => h.free.smbReply, .next fun h => h.smbReply]

protected theorem Goes.execSmbModulePower {s} : Goes s (execSmbModulePower s) :=
  .next fun h => h.smbReply

protected theorem Goes.execSmbWdnBoot {s} : Goes s (execSmbWdnBoot s) :=
  .next fun h => h.smbReply

protected theorem Goes.execSmbDieid {s} : Goes s (execSmbDieid s) :=
  .next fun h => h.smbReply

protected theorem Canonical.tapLoad {s i dr} (h : Canonical s) : Canonical (tapLoad s i dr) :=
  h.withModu

protected theorem Goes.execTapBypass {s} : Goes s (execTapBypass s) :=
  .next fun h => h.tapLoad

protected theorem Goes.execTapIdcode {s} : Goes s (execTapIdcode s) :=
  .next fun h => h.tapLoad

protected theorem Goes.execTapSamplePreload {s} : Goes s (execTapSamplePreload s) :=
  .next fun h => h.tapLoad

protected theorem Canonical.tapDrive {s i dr} (h : Canonical s) : Canonical (tapDrive s i dr) :=
  .ite h.tapLoad h.tapLoad

protected theorem Goes.execTapExtest {s} : Goes s (execTapExtest s) :=
  .next fun h => h.tapDrive

protected theorem Goes.execTapClamp {s} : Goes s (execTapClamp s) :=
  .next fun h => h.tapDrive

protected theorem Goes.execTapHighz {s} : Goes s (execTapHighz s) :=
  .next fun h => h.tapDrive

protected theorem Goes.execTapExtestPulse {s} : Goes s (execTapExtestPulse s) :=
  .next fun h => h.tapDrive

protected theorem Goes.execTapExtestTrain {s} : Goes s (execTapExtestTrain s) :=
  .next fun h => h.tapDrive

protected theorem Goes.execPoresetNAssert {s} : Goes s (execPoresetNAssert s) := by
  unfold execPoresetNAssert
  extract_lets t
  have ht : Canonical t := .poreset
  clear_value t
  exact .next fun _ => ht.frame

protected theorem Goes.execVddAonRemoval {s} : Goes s (execVddAonRemoval s) := by
  unfold execVddAonRemoval
  extract_lets z _ _ t
  have ht : Canonical t := Canonical.frame (s := State.reset) .reset
  exact .next fun _ => ht.setReg.setFld.resetCores

protected theorem Goes.execMgmtPortModeAlternate {s} : Goes s (execMgmtPortModeAlternate s) := by
  unfold execMgmtPortModeAlternate
  split
  · exact .next fun h => h
  split
  exacts [.next fun h => h.modWdn, .next fun h => h]

protected theorem Goes.exec {i s} : Goes s (exec i s) := by
  cases i
  · exact .execAdd
  · exact .execSub
  · exact .execAnd
  · exact .execOr
  · exact .execXor
  · exact .execSll
  · exact .execSrl
  · exact .execSra
  · exact .execSlt
  · exact .execSltu
  · exact .execMul
  · exact .execMulh
  · exact .execMulhu
  · exact .execDiv
  · exact .execDivu
  · exact .execRem
  · exact .execRemu
  · exact .execAddi
  · exact .execAndi
  · exact .execOri
  · exact .execXori
  · exact .execSlti
  · exact .execSlli
  · exact .execSrli
  · exact .execSrai
  · exact .execLui
  · exact .execLb
  · exact .execLh
  · exact .execLw
  · exact .execLd
  · exact .execLbu
  · exact .execLhu
  · exact .execLwu
  · exact .execSb
  · exact .execSh
  · exact .execSw
  · exact .execSd
  · exact .execBeq
  · exact .execBne
  · exact .execBlt
  · exact .execBge
  · exact .execBltu
  · exact .execBgeu
  · exact .execJal
  · exact .execJalr
  · exact .execFadd
  · exact .execFsub
  · exact .execFmul
  · exact .execFdiv
  · exact .execFsqrt
  · exact .execFmadd
  · exact .execFeq
  · exact .execFlt
  · exact .execFle
  · exact .execFcvtff
  · exact .execFcvtfh
  · exact .execFcvthf
  · exact .execFcvtif
  · exact .execFcvtuf
  · exact .execFcvtfi
  · exact .execFcvtfu
  · exact .execFmvxf
  · exact .execFmvfx
  · exact .execFstatr
  · exact .execFstatw
  · exact .execFlw
  · exact .execFld
  · exact .execFsw
  · exact .execFsd
  · exact .execLcall
  · exact .execBrk
  · exact .execQwin
  · exact .execWfi
  · exact .execRfe
  · exact .execFseal
  · exact .execTaskj
  · exact .execCanreq
  · exact .execCstop
  · exact .execTmma
  · exact .execTmma4
  · exact .execTld
  · exact .execTst
  · exact .execTzero
  · exact .execTfree
  · exact .execTgetv
  · exact .execTputv
  · exact .execVld
  · exact .execVldff
  · exact .execVldw
  · exact .execVst
  · exact .execVstn
  · exact .execVstns
  · exact .execVadd
  · exact .execVsub
  · exact .execVmul
  · exact .execVmulhu
  · exact .execVand
  · exact .execVor
  · exact .execVxor
  · exact .execVsll
  · exact .execVsrl
  · exact .execVsra
  · exact .execVmin
  · exact .execVmax
  · exact .execVminu
  · exact .execVmaxu
  · exact .execVabsdu
  · exact .execVfadd
  · exact .execVfsub
  · exact .execVfmul
  · exact .execVfdiv
  · exact .execVfsqrt
  · exact .execVfmax
  · exact .execVfmin
  · exact .execVfabs
  · exact .execVfneg
  · exact .execVfexp
  · exact .execVflog
  · exact .execVfrsqrt
  · exact .execVfrecip
  · exact .execVfceq
  · exact .execVfclt
  · exact .execVfcle
  · exact .execVfma
  · exact .execVfms
  · exact .execVfnma
  · exact .execVredsum
  · exact .execVredmax
  · exact .execVredmin
  · exact .execVfredsum
  · exact .execVfredmax
  · exact .execVfredmin
  · exact .execVfdot
  · exact .execVsad
  · exact .execVsadf
  · exact .execVsetvl
  · exact .execVmv
  · exact .execVsplat
  · exact .execVceq
  · exact .execVclt
  · exact .execVcltu
  · exact .execVmand
  · exact .execVmor
  · exact .execVmxor
  · exact .execVmandn
  · exact .execVmpop
  · exact .execVmfirst
  · exact .execVcvtfw
  · exact .execVcvtwf
  · exact .execVcvtwfs
  · exact .execVcvtif
  · exact .execVcvtfi
  · exact .execVcvtb
  · exact .execVcvtbf
  · exact .execVrand
  · exact .execVrseed
  · exact .execVmom
  · exact .execVbias
  · exact .execVsign
  · exact .execVsrnd
  · exact .execFence
  · exact .execFenceG
  · exact .execAmoadd
  · exact .execAmoswap
  · exact .execAmoand
  · exact .execAmoor
  · exact .execAmoxor
  · exact .execAmomax
  · exact .execAmomin
  · exact .execAmomaxu
  · exact .execAmominu
  · exact .execAmocas
  · exact .execRget
  · exact .execRput
  · exact .execRatom
  · exact .execRexsum
  · exact .execRexsumsq
  · exact .execRservice
  · exact .execBsig
  · exact .execBwait
  · exact .execTakeInterrupt
  · exact .execFetchLineFill
  · exact .execTileRetire
  · exact .execMergePerform
  · exact .execL2FillComplete
  · exact .execStackAccess
  · exact .execMarchRunEnd
  · exact .execPteSetComplete
  · exact .execSubCloseEffect
  · exact .execPoolWaitResume
  · exact .execClaimResponse
  · exact .execVoteReady
  · exact .execVoteDoom
  · exact .execVoteRefuse
  · exact .execVoteFlipped
  · exact .execVoteClaim
  · exact .execVoteMirrored
  · exact .execRecvCommit
  · exact .execRecvDiscard
  · exact .execRecvRetire
  · exact .execXferCopy
  · exact .execXferGet
  · exact .execXferPut
  · exact .execXferZero
  · exact .execXferExsum
  · exact .execXferExsumsq
  · exact .execXferSignal
  · exact .execRequestIssue
  · exact .execRequestComplete
  · exact .execDescriptorComplete
  · exact .execFlitReceive
  · exact .execTrainingComplete
  · exact .execJoinAccept
  · exact .execRideGet
  · exact .execRidePut
  · exact .execRideAtom
  · exact .execRideExsum
  · exact .execRideExsumsq
  · exact .execRideSignal
  · exact .execRideWait
  · exact .execRideService
  · exact .execRideMirrorPut
  · exact .execRideResponse
  · exact .execBusyResend
  · exact .execHoldTimeout
  · exact .execFailover
  · exact .execRemoteCompletion
  · exact .execBwaitRetire
  · exact .execPost
  · exact .execTaskDone
  · exact .execHoldEntry
  · exact .execHoldWake
  · exact .execActivityStart
  · exact .execCoreRestWake
  · exact .execDeviceWake
  · exact .execAvsFrame
  · exact .execPoreset
  · exact .execWarmrst
  · exact .execWdnReset
  · exact .execMgmtFrame
  · exact .execFaultRecord
  · exact .execRegisterWrite
  · exact .execTimer
  · exact .execVectorRetire
  · exact .execQuietWindowEnd
  · exact .execWardenStopTaken
  · exact .execCoreSwiWrite
  · exact .execNumModeApply
  · exact .execArrayRampStep
  · exact .execVecVlApply
  · exact .execQuiescentApply
  · exact .execPrefetch
  · exact .execDeadfall
  · exact .execThrashWindow
  · exact .execMarchGo
  · exact .execPteSet
  · exact .execAccClear
  · exact .execAccAdd
  · exact .execAccAddsq
  · exact .execSubOpen
  · exact .execSubCloseKeep
  · exact .execSubCloseDiscard
  · exact .execSilenceTimeout
  · exact .execOutcomeTimeout
  · exact .execResolveRetry
  · exact .execVoteAlive
  · exact .execRingNextWrite
  · exact .execRingGstepWrite
  · exact .execXferPost
  · exact .execXferAbort
  · exact .execReplayRequest
  · exact .execReplayTimeout
  · exact .execPortFailure
  · exact .execFecThreshold
  · exact .execRetrain
  · exact .execJoinRefuse
  · exact .execStreamExpiry
  · exact .execDuplicateWaitExpiry
  · exact .execBlzValueWrite
  · exact .execBlzAddWrite
  · exact .execCancel
  · exact .execSensorReading
  · exact .execActivityEnd
  · exact .execForActWrite
  · exact .execCoreRest
  · exact .execThermalTrip
  · exact .execRailAck
  · exact .execAvsTimeout
  · exact .execClockStep
  · exact .execAgeMeasure
  · exact .execMailboxPost
  · exact .execSvcqBaseWrite
  · exact .execWtSeedWrite
  · exact .execWtPointWrite
  · exact .execPmbusPoll
  · exact .execGpioEdge
  · exact .execUpdFallbackSet
  · exact .execUpdCountInc
  · exact .execClaimResend
  · exact .execWtXportHoldRelease
  · exact .execBankModeChange
  · exact .execRingOpen
  · exact .execOpenAccept
  · exact .execSeal
  · exact .execRingCtrlDiscard
  · exact .execPrepareComplete
  · exact .execMirrorDrainComplete
  · exact .execAliveTimer
  · exact .execRecoverResolve
  · exact .execResetQuietEnd
  · exact .execPostAccept
  · exact .execForesterTick
  · exact .execFcapAdjust
  · exact .execHeatInAssert
  · exact .execHeatInRelease
  · exact .execDomainPowerDownDone
  · exact .execWakeComplete
  · exact .execOscCalibration
  · exact .execAgePlan
  · exact .execAgePlanPeriod
  · exact .execLaunchDrained
  · exact .execDrainTimeout
  · exact .execWdnInfo
  · exact .execWdnQuote
  · exact .execWdnCert
  · exact .execWdnLaunch
  · exact .execWdnStop
  · exact .execWdnRelease
  · exact .execWdnRest
  · exact .execWdnOff
  · exact .execWdnFlashRead
  · exact .execWdnFlashWrite
  · exact .execWdnAgeRead
  · exact .execWdnLimits
  · exact .execWdnEnroll
  · exact .execWdnFloorRaise
  · exact .execWdnFaultRead
  · exact .execWdnMboxService
  · exact .execWdnTelemetry
  · exact .execSmbStatus
  · exact .execSmbJunctionTemp
  · exact .execSmbModulePower
  · exact .execSmbWdnBoot
  · exact .execSmbDieid
  · exact .execTapBypass
  · exact .execTapIdcode
  · exact .execTapSamplePreload
  · exact .execTapExtest
  · exact .execTapClamp
  · exact .execTapHighz
  · exact .execTapExtestPulse
  · exact .execTapExtestTrain
  · exact .execPoresetNAssert
  · exact .execVddAonRemoval
  · exact .execMgmtPortModeAlternate

protected theorem Canonical.freeRun {s c n} (h : Canonical s) : Canonical (freeRun s c n) :=
  .ite h h.setLanes

protected theorem Canonical.coreTick {s c} (h : Canonical s) : Canonical (coreTick s c) :=
  .ite h (.ite h.timerUpdate h.setReg.freeRun.timerUpdate)

protected theorem Canonical.nextFlit {s p} (h : Canonical s) : Canonical (nextFlit s p) :=
  .ite h (.ite h.sendFlit h.sendFlit)

protected theorem Canonical.flitTick {s} (h : Canonical s) : Canonical (flitTick s) :=
  h.when fun h => h.foldl fun _ _ h => h.nextFlit

protected theorem Canonical.tick {s} (h : Canonical s) : Canonical (tick s) := by
  unfold tick
  extract_lets s1 s2 s3 s4
  have h2 : Canonical s2 := h.setReg.when .countSat
  have h3 : Canonical s3 := (h2.foldl fun _ _ h => h.coreTick).foldl fun _ _ h => h.restTry
  have h4 : Canonical s4 := h3.foldl fun _ _ h => h.pteRun
  exact .ite h2 h4.flitTick.pathCheck.drainHeld

/-- A step goes on, to a canonical state where the present one is canonical. -/
theorem step_goes (s : State) : ∃ t, step s = .next t ∧ (Canonical s → Canonical t) := by
  unfold step
  split
  · obtain ⟨t, e, h⟩ := Goes.exec (i := ‹_›) (s := { s with pending := ‹_› })
    exact ⟨_, e, fun hs => (h hs.frame).frame⟩
  · exact ⟨_, rfl, fun hs => hs.tick.frame⟩

end Sys2Proof.Machine
end

section
/-! The obligations about every step, and the state after reset. -/
namespace Sys2Proof.Machine
open Host
set_option Elab.async false

/-- Settles O4: what a step does to registers, memory and engines is built of changes that each keep the canonical form (`step_goes`). -/
theorem stepKeepsTheCanonicalForm : Obligations.StepKeepsTheCanonicalForm := by
  intro s t hs e
  obtain ⟨u, e', hu⟩ := step_goes s
  have hut : u = t := Outcome.next.inj (e'.symm.trans e)
  exact hut ▸ hu hs

/-- A run of any number of steps goes on. -/
theorem runsSafely_all (n : Nat) (s : State) : runsSafely n s := by
  induction n generalizing s with
  | zero => trivial
  | succ n ih =>
    obtain ⟨t, e, -⟩ := step_goes s
    exact ⟨t, e, ih t⟩

/-- Settles O2: every command's meaning ends in `next`, which puts the queue of the state it began in back (`Goes.exec`). -/
theorem everyCommandAnswersNext : Obligations.EveryCommandAnswersNext := by
  refine ⟨fun i s => ?_, runsSafely_all⟩
  obtain ⟨t, e, -⟩ := Goes.exec (i := i) (s := s)
  exact ⟨_, e, rfl⟩

/-- After reset no granule of stacked memory outside the pool is of another kind than PLAIN. -/
theorem kindAt_reset (a : Nat) (hp : inPool State.reset (granule a) = false) : kindAt State.reset a = 0 := by
  unfold kindAt
  rw [hp]
  rfl

/-- After reset stacked memory outside the pool reads 0. -/
theorem stackByte_reset (sub a : Nat) (hp : inPool State.reset (granule a) = false) : stackByte State.reset sub a = 0 := by
  unfold stackByte
  rw [hp, kindAt_reset a hp]
  rfl

/-- Settles O5: no register is listed at reset, so each reads its reset value, and every core's state is that of the reset. -/
theorem resetState : Obligations.ResetState := by
  have hc (c : CoreId) : State.reset.core c = CoreSt.reset := Vector.getElem_replicate _
  refine ⟨.reset, rfl, fun c => ⟨?_, fun r => ?_, fun r => ?_, fun r => ?_⟩,
    fun sub a _ hp => ⟨kindAt_reset a hp, stackByte_reset sub a hp⟩,
    fun k => rfl, ?_, ?_, ?_⟩
  · revert c; decide +kernel
  · rw [hc]; exact Vector.getElem_replicate _
  · rw [hc]; exact Vector.getElem_replicate _
  · rw [hc]; exact Vector.getElem_replicate _
  · decide +kernel
  · decide +kernel
  · decide +kernel

end Sys2Proof.Machine
end

section
/-! SUPPORT. Fields of a word, and what the access codes of a register's fields leave of it (Table 0.5). -/
namespace Sys2Proof.Machine
open Host
set_option Elab.async false

/-! ### Fields of a word -/

/-- A field lies in the word. -/
def Fld.Fits (f : Fld) : Prop := f.lo ≤ f.hi ∧ f.hi < 64

/-- Two fields share no bit. -/
def Fld.Apart (f g : Fld) : Prop := f.hi < g.lo ∨ g.hi < f.lo


theorem Fld.testBit_get (f : Fld) (w : Word) (i : Nat) : (f.get w).testBit i = (decide (i < f.width) && w.getLsbD (f.lo + i)) := by
  simp [Fld.get, Nat.testBit_mod_two_pow, BitVec.testBit_toNat]

theorem Fld.getLsbD_mask (f : Fld) (i : Nat) : f.mask.getLsbD i = decide (i < 64 ∧ f.lo ≤ i ∧ i < f.lo + f.width) := by
  rw [Fld.mask, BitVec.getLsbD_ofNat, Nat.testBit_shiftLeft, Nat.testBit_two_pow_sub_one]
  grind

theorem Fld.getLsbD_set (f : Fld) (v : Nat) (w : Word) (i : Nat) : (f.set v w).getLsbD i =
    if i < 64 ∧ f.lo ≤ i ∧ i < f.lo + f.width then v.testBit (i - f.lo) else w.getLsbD i := by
  simp only [Fld.set, BitVec.getLsbD_or, BitVec.getLsbD_and, BitVec.getLsbD_not, Fld.getLsbD_mask, BitVec.getLsbD_ofNat,
    Nat.testBit_shiftLeft, Nat.testBit_mod_two_pow]
  by_cases hi : i < 64
  · grind
  · simp [hi, BitVec.getLsbD_of_ge w i (by omega)]

/-- A field read back after it is written. -/
theorem Fld.get_set_self {f : Fld} (h : f.Fits) (v : Nat) (w : Word) : f.get (f.set v w) = v % 2 ^ f.width := by
  obtain ⟨h1, h2⟩ := h
  apply Nat.eq_of_testBit_eq
  intro i
  rw [Fld.testBit_get, Fld.getLsbD_set, Nat.testBit_mod_two_pow]
  unfold Fld.width
  grind

/-- A field read after a write of bits outside it. -/
theorem Fld.get_congr {f : Fld} {w w' : Word} (h : ∀ i, f.lo ≤ i → i < f.lo + f.width → w.getLsbD i = w'.getLsbD i) : f.get w = f.get w' := by
  apply Nat.eq_of_testBit_eq
  intro i
  rw [Fld.testBit_get, Fld.testBit_get]
  by_cases hi : i < f.width
  · rw [h _ (by omega) (by omega)]
  · simp [hi]

theorem Fld.get_set_apart {f g : Fld} (hg : g.Fits) (h : f.Apart g) (v : Nat) (w : Word) : f.get (g.set v w) = f.get w := by
  refine Fld.get_congr fun i h1 h2 => ?_
  rw [Fld.getLsbD_set, if_neg]
  unfold Fld.Apart Fld.Fits Fld.width at *
  omega

theorem Fld.get_lt (f : Fld) (w : Word) : f.get w < 2 ^ f.width := Nat.mod_lt _ (by positivity)

theorem Fld.test_eq_bitOf {f : Fld} (h : f.lo = f.hi) (w : Word) : f.test w = bitOf w.toNat f.lo := by
  have hw : f.width = 1 := by unfold Fld.width; omega
  unfold Fld.test Fld.get bitOf
  rw [hw]
  rcases Nat.mod_two_eq_zero_or_one (w.toNat >>> f.lo) with e | e <;> simp [e]

/-- A flag read back after it is written. -/
theorem Fld.test_set_flag {f : Fld} (hf : f.Fits) (h : f.lo = f.hi) {on : Bool} (w : Word) : f.test (f.set (flag on) w) = on := by
  have hw : f.width = 1 := by unfold Fld.width; omega
  unfold Fld.test
  rw [Fld.get_set_self hf, hw]
  cases on <;> rfl

/-! ### What the access codes leave -/

/-- What a write leaves of one field. -/
def accFld (v w : Word) (f : RegFld) : Word :=
  match f.acc with
  | .rw => f.fld.set (f.fld.get v) w
  | .w1c => w &&& ~~~ (v &&& f.fld.mask)
  | .w1s => w ||| (v &&& f.fld.mask)
  | _ => w

theorem accWrite_eq (r : RegRow) (old v : Word) : accWrite r old v = r.flds.foldl (accFld v) old := rfl

/-- A field that a write of another field leaves. -/
theorem get_accFld_apart {f : Fld} {g : RegFld} (hg : g.fld.Fits) (h : f.Apart g.fld) (v w : Word) : f.get (accFld v w g) = f.get w := by
  have hm (i : Nat) (h1 : f.lo ≤ i) (h2 : i < f.lo + f.width) : g.fld.mask.getLsbD i = false := by
    rw [Fld.getLsbD_mask]
    unfold Fld.Apart Fld.Fits Fld.width at *
    simp; omega
  unfold accFld
  split
  · exact Fld.get_set_apart hg h _ _
  · refine Fld.get_congr fun i h1 h2 => ?_
    by_cases hi : i < 64
    · rw [BitVec.getLsbD_and, BitVec.getLsbD_not, BitVec.getLsbD_and, hm i h1 h2]
      simp [hi]
    · simp [BitVec.getLsbD_of_ge w i (by omega)]
  · exact Fld.get_congr fun i h1 h2 => by simp [hm i h1 h2]
  · rfl

theorem get_foldl_accFld_apart {f : Fld} (v : Word) (l : List RegFld) (hl : ∀ g ∈ l, g.fld.Fits ∧ f.Apart g.fld) (w : Word) :
    f.get (l.foldl (accFld v) w) = f.get w := by
  induction l generalizing w with
  | nil => rfl
  | cons g l ih =>
    obtain ⟨hg, ha⟩ := hl g (List.mem_cons_self ..)
    rw [List.foldl_cons, ih fun g' h' => hl g' (List.mem_cons_of_mem _ h'), get_accFld_apart hg ha]

/-- The fields of a row lie in the word and share no bit. -/
def RegRow.Sound (r : RegRow) : Prop := (∀ f ∈ r.flds, f.fld.Fits) ∧ r.flds.Pairwise fun f g => f.fld.Apart g.fld

theorem regRows_sound : ∀ r ∈ regRows, r.Sound := by
  unfold RegRow.Sound Fld.Fits Fld.Apart
  decide +kernel

theorem regRowAt_sound {a : Nat} {r : RegRow} (h : regRowAt a = some r) : r.Sound := regRows_sound r (List.mem_of_find?_eq_some h)

theorem Fld.Apart.symm {f g : Fld} (h : f.Apart g) : g.Apart f := Or.symm h

/-- A field of a row after a write is what its own access code leaves of it. -/
theorem get_accWrite {r : RegRow} (hr : r.Sound) {f : RegFld} (hf : f ∈ r.flds) (old v : Word) :
    ∃ w, f.fld.get w = f.fld.get old ∧ f.fld.get (accWrite r old v) = f.fld.get (accFld v w f) := by
  obtain ⟨hfit, hp⟩ := hr
  obtain ⟨l, m, e⟩ := List.append_of_mem hf
  rw [e] at hp hfit
  obtain ⟨-, hm, hlm⟩ := List.pairwise_append.1 hp
  have hfm := (List.pairwise_cons.1 hm).1
  refine ⟨l.foldl (accFld v) old, get_foldl_accFld_apart v l (fun g hg => ⟨hfit g (by simp [hg]), (hlm g hg f (by simp)).symm⟩) old, ?_⟩
  rw [accWrite_eq, e, List.foldl_append, List.foldl_cons]
  exact get_foldl_accFld_apart v m (fun g hg => ⟨hfit g (by simp [hg]), hfm g hg⟩) _

/-- Numbers that share no bit add up to their union. -/
theorem add_eq_or_of_and_eq_zero {x y : Nat} (h : x &&& y = 0) : x + y = x ||| y := by
  have hlt : x + y < 2 ^ (x + y) := Nat.lt_two_pow_self
  have hx : x < 2 ^ (x + y) := by omega
  have hy : y < 2 ^ (x + y) := by omega
  have e := congrArg BitVec.toNat (BitVec.add_eq_or_of_and_eq_zero (BitVec.ofNat (x + y) x) (BitVec.ofNat (x + y) y)
    (BitVec.eq_of_toNat_eq (by simp [Nat.mod_eq_of_lt hx, Nat.mod_eq_of_lt hy, h])))
  simpa [Nat.mod_eq_of_lt hx, Nat.mod_eq_of_lt hy, Nat.mod_eq_of_lt hlt] using e

/-- The bits of a number that another does not have. -/
theorem eq_sub_and_of_testBit {x y k : Nat} (h : ∀ i, k.testBit i = (x.testBit i && !y.testBit i)) : k = x - (x &&& y) := by
  have hk : k &&& (x &&& y) = 0 := Nat.eq_of_testBit_eq fun i => by simp [h]; grind
  have hor : k ||| (x &&& y) = x := Nat.eq_of_testBit_eq fun i => by simp [h]; grind
  have hadd := add_eq_or_of_and_eq_zero hk
  omega

theorem getLsbD_and_mask (f : Fld) (v : Word) {i : Nat} (h : i < f.width) :
    (v &&& f.mask).getLsbD (f.lo + i) = v.getLsbD (f.lo + i) := by
  rw [BitVec.getLsbD_and, Fld.getLsbD_mask]
  by_cases h64 : f.lo + i < 64
  · simp [h64, h]
  · simp [BitVec.getLsbD_of_ge v _ (by omega : 64 ≤ f.lo + i)]

/-- A field in which each bit written as 1 is cleared. -/
theorem Fld.get_clear {f : Fld} (hf : f.Fits) (v w : Word) : f.get (w &&& ~~~ (v &&& f.mask)) = f.get w - (f.get w &&& f.get v) := by
  refine eq_sub_and_of_testBit fun i => ?_
  simp only [Fld.testBit_get]
  by_cases hi : i < f.width
  · have h64 : f.lo + i < 64 := by unfold Fld.Fits Fld.width at *; omega
    rw [BitVec.getLsbD_and, BitVec.getLsbD_not, getLsbD_and_mask f v hi]
    simp [hi, h64]
  · simp [hi]

/-- A field in which each bit written as 1 is set. -/
theorem Fld.get_setOnes (f : Fld) (v w : Word) : f.get (w ||| (v &&& f.mask)) = f.get w ||| f.get v := by
  refine Nat.eq_of_testBit_eq fun i => ?_
  rw [Nat.testBit_or]
  simp only [Fld.testBit_get]
  by_cases hi : i < f.width
  · rw [BitVec.getLsbD_or, getLsbD_and_mask f v hi]
    simp [hi]
  · simp [hi]

/-- What a write leaves of a field, by its access code (Table 0.5). -/
theorem get_accWrite_cases {r : RegRow} (hr : r.Sound) {f : RegFld} (hf : f ∈ r.flds) (old v : Word) :
    (f.acc = .rw → f.fld.get (accWrite r old v) = f.fld.get v) ∧
    (f.acc = .w1c → f.fld.get (accWrite r old v) = f.fld.get old - (f.fld.get old &&& f.fld.get v)) ∧
    (f.acc = .w1s → f.fld.get (accWrite r old v) = f.fld.get old ||| f.fld.get v) ∧
    (f.acc ≠ .rw → f.acc ≠ .w1c → f.acc ≠ .w1s → f.fld.get (accWrite r old v) = f.fld.get old) := by
  have hfit := hr.1 f hf
  obtain ⟨w, hw, e⟩ := get_accWrite hr hf old v
  rw [e, ← hw]
  refine ⟨fun h => ?_, fun h => ?_, fun h => ?_, fun h1 h2 h3 => ?_⟩
  · rw [accFld, h]
    exact (Fld.get_set_self hfit _ _).trans (Nat.mod_eq_of_lt (Fld.get_lt _ _))
  · rw [accFld, h]
    exact Fld.get_clear hfit v w
  · rw [accFld, h]
    exact Fld.get_setOnes _ v w
  · unfold accFld
    split
    exacts [absurd ‹_› h1, absurd ‹_› h2, absurd ‹_› h3, rfl]

end Sys2Proof.Machine
end

section
/-! Stores to control registers, blazes and update counters (R4, R10, R178, R331, R422). -/
namespace Sys2Proof.Machine
open Host
set_option Elab.async false

/-! ### A write by a master -/

/-- A master whose earlier instructions have retired and whose earlier stores are performed. -/
def Settled (s : State) (m : Nat) : Prop :=
  48 ≤ m ∨ ((s.core (coreOf m)).mbuf = [] ∧ (s.core (coreOf m)).vecQ = [] ∧ storesWait s (coreOf m) = false)

theorem State.modCore_eq_self {s : State} {c : CoreId} {g : CoreSt → CoreSt} (h : g (s.core c) = s.core c) : s.modCore c g = s := by
  unfold State.modCore State.setCore
  rw [h]
  unfold State.core
  rw [show s.cores.set c (s.cores.get c) = s.cores from Vector.set_getElem_self ..]

theorem byMaster_of_settled {s : State} {m : Nat} (h : Settled s m) (f : State → State) : byMaster s m f = f s := by
  unfold byMaster
  split
  case isFalse => rfl
  case isTrue hm =>
    obtain ⟨hbuf, hvec, hwait⟩ := h.resolve_left (by omega)
    have hret : retireAll s (coreOf m) = s := by rw [retireAll, hvec]; rfl
    have hdrain : drainMerge s (coreOf m) = s := by
      rw [drainMerge, hbuf]
      exact State.modCore_eq_self (by rw [← hbuf])
    simp only [hret, hdrain, hwait]
    rfl

theorem exec_registerWrite {s : State} {m a : Nat} {v : Word} (hlow : s.modu.poresetLow = false) (ha : a % 8 = 0) (hs : Settled s m)
    (hp : postWaits s a = false) : exec (.registerWrite m a v) s = next s ((regionWrite s m (unalias m a) v).getD s) := by
  show execRegisterWrite m a v s = _
  unfold execRegisterWrite registerWriteOp
  simp [hlow, ha, hp, byMaster_of_settled hs]

/-- A write that has no effect where it is performed has none. -/
theorem exec_registerWrite_eq_self {s : State} {m a : Nat} {v : Word}
    (h : a % 8 = 0 → Settled s m ∧ (regionWrite s m (unalias m a) v).getD s = s) : exec (.registerWrite m a v) s = .next s := by
  show execRegisterWrite m a v s = _
  unfold execRegisterWrite registerWriteOp
  split
  · rfl
  split
  · rfl
  next hn =>
    obtain ⟨hs, he⟩ := h (by omega)
    rw [byMaster_of_settled hs, he]
    rfl

theorem regionWrite_eq_none {s : State} {m a : Nat} {v : Word} (h : ∀ g, regionOf s a = some g → g.plain = true) :
    regionWrite s m a v = none := by
  unfold regionWrite
  split
  exacts [absurd (h _ ‹_›) (by decide), absurd (h _ ‹_›) (by decide), absurd (h _ ‹_›) (by decide), rfl]

theorem regionWrite_ctrl {s : State} {m a : Nat} {v : Word} (h : regionOf s a = some .ctrl) :
    regionWrite s m a v = some (ctrlRegWrite s m a v) := by simp [regionWrite, h]

theorem regionWrite_blaze {s : State} {m a : Nat} {v : Word} (h : regionOf s a = some .blaze) :
    regionWrite s m a v = some (blazeWrite s a v) := by simp [regionWrite, h]

theorem ctrlRegWrite_none {s : State} {m a : Nat} {v : Word} (h : regRowAt a = none) : ctrlRegWrite s m a v = s := by
  simp [ctrlRegWrite, h]

theorem ctrlRegWrite_closed {s : State} {m a : Nat} {v : Word} (hw : inWt a = true)
    (h : s.test CAN_POLICY fldCAN_POLICY_WINDTHROW = false) : ctrlRegWrite s m a v = s := by
  unfold ctrlRegWrite
  split
  · rfl
  · simp [hw, h]

/-! ### What a write leaves unchanged -/

/-- Registers but those listed, memory and the cores but what their unretired instructions put back. -/
def KeepsBut (s t : State) (l : List Nat) : Prop :=
  sameRegs s t l ∧ t.mem = s.mem ∧ ∀ d,
    t.core d = { s.core d with vecQ := (t.core d).vecQ, tileQ := (t.core d).tileQ } ∧
    ((s.core d).vecQ = [] → (s.core d).tileQ = [] → t.core d = s.core d)

theorem KeepsBut.setReg (s : State) (a : Nat) (w : Word) : KeepsBut s (s.setReg a w) [a] :=
  ⟨fun _ hb => State.reg_setReg_ne s w (by simpa using hb), rfl, fun _ => ⟨rfl, fun _ _ => rfl⟩⟩

theorem KeepsBut.refl (s : State) (l : List Nat) : KeepsBut s s l := ⟨fun _ _ => rfl, rfl, fun _ => ⟨rfl, fun _ _ => rfl⟩⟩

/-- What unretired instructions put back may change besides. -/
theorem KeepsBut.keepWrite {s t : State} {l : List Nat} (h : KeepsBut s t l) (c : CoreId) (a : Nat) (f : Word → Word) :
    KeepsBut s (keepWrite t c a f) l := by
  unfold Machine.keepWrite
  split
  · exact h
  next hq =>
    obtain ⟨hr, hm, hc⟩ := h
    refine ⟨hr, hm, fun d => ?_⟩
    by_cases hd : d = c
    · subst hd
      rw [State.core_modCore_self]
      obtain ⟨h1, h2⟩ := hc d
      refine ⟨by rw [h1], fun hv ht => absurd hq ?_⟩
      simp [h2 hv ht, hv, ht]
    · rw [State.core_modCore_ne _ _ hd]
      exact hc d

theorem keepWrite_reg (s : State) (c : CoreId) (a : Nat) (f : Word → Word) (b : Nat) : (keepWrite s c a f).reg b = s.reg b := by
  unfold keepWrite
  split <;> rfl

theorem keepWrite_ll (s : State) (c : CoreId) (a : Nat) (f : Word → Word) : (keepWrite s c a f).ll = s.ll := by
  unfold keepWrite
  split <;> rfl

theorem keepWrite_mem (s : State) (c : CoreId) (a : Nat) (f : Word → Word) : (keepWrite s c a f).mem = s.mem := by
  unfold keepWrite
  split <;> rfl

theorem plainWrite_eq_setReg {r : RegRow} (h : ∀ f ∈ r.flds, f.acc ≠ .ll) (s : State) (a : Nat) (v : Word) :
    plainWrite s r a v = s.setReg a (accWrite r (s.reg a) v) := by
  unfold plainWrite llWrite
  rw [if_neg]
  simpa using h

/-- A write of a register whose map gives it no further effect. -/
theorem ctrlRegWrite_plain {s : State} {m a : Nat} {v : Word} {r : RegRow} (hr : regRowAt a = some r)
    (hw : inWt a = true → s.test CAN_POLICY fldCAN_POLICY_WINDTHROW = true)
    (hn : (if CORE_ID 0 ≤ a ∧ a < CORE_ID 48 then coreRegWrite s m r a v else deviceWrite s m r a v) = none)
    (hl : ∀ f ∈ r.flds, f.acc ≠ .ll) :
    KeepsBut s (ctrlRegWrite s m a v) [a] ∧ (ctrlRegWrite s m a v).ll = s.ll ∧
      (ctrlRegWrite s m a v).reg a = accWrite r (s.reg a) v := by
  unfold ctrlRegWrite
  rw [hr]
  have hopen : ¬ (inWt a = true ∧ s.test CAN_POLICY fldCAN_POLICY_WINDTHROW = false) := fun ⟨h1, h2⟩ => by simp [hw h1] at h2
  simp only [hopen, if_false]
  split at hn
  case isTrue hc =>
    rw [if_pos hc, hn, Option.getD_none, plainWrite_eq_setReg hl]
    exact ⟨(KeepsBut.setReg s a _).keepWrite _ _ _, keepWrite_ll .., by rw [keepWrite_reg, State.reg_setReg_self]⟩
  case isFalse hc =>
    rw [if_neg hc, hn, Option.getD_none, plainWrite_eq_setReg hl]
    exact ⟨KeepsBut.setReg s a _, rfl, State.reg_setReg_self ..⟩

/-! ### Posts to an engine, which may wait -/

theorem some_ite_eq_none {α : Type} {c : Prop} [Decidable c] {x : α} {o : Option α} :
    (if c then some x else o) = none ↔ ¬ c ∧ o = none := by
  split <;> simp [*]

theorem XFER_POST_row (e : Fin 16) : (regRowAt (XFER_POST e)).map RegRow.base = some (XFER_POST 0) := by
  revert e; decide +kernel

/-- No post waits where the register written is none of the engines' posts. -/
theorem postWaits_eq_false {s : State} {a : Nat} (h : ∀ e : Fin 16, a ≠ XFER_POST e) : postWaits s a = false := by
  unfold postWaits
  simp only [List.any_eq_false, Bool.and_eq_true, beq_iff_eq, not_and]
  exact fun e _ he => absurd he (h e)

theorem unalias_XFER_POST (m : Nat) (e : Fin 16) : unalias m (XFER_POST e) = XFER_POST e := by
  have h : ¬ (m < 48 ∧ aliasBase ≤ XFER_POST e ∧ XFER_POST e < aliasBase + 0x10000) := by
    have he := e.isLt
    unfold XFER_POST aliasBase ctrlBase
    omega
  exact if_neg h

/-- Where nothing but the access codes says what a write does, no post waits. -/
theorem postWaits_of_plain {s : State} {m a : Nat} {v : Word} {r : RegRow} (hr : regRowAt (unalias m a) = some r)
    (hn : (if CORE_ID 0 ≤ unalias m a ∧ unalias m a < CORE_ID 48 then coreRegWrite s m r (unalias m a) v
      else deviceWrite s m r (unalias m a) v) = none) : postWaits s a = false := by
  refine postWaits_eq_false fun e he => ?_
  subst he
  rw [unalias_XFER_POST] at hr hn
  have hb : r.base = XFER_POST 0 := by simpa [hr] using XFER_POST_row e
  rw [if_neg (by have := e.isLt; simp only [XFER_POST, CORE_ID]; omega)] at hn
  simp only [deviceWrite, some_ite_eq_none, hb, not_true_eq_false, false_and, and_false] at hn

/-! ### Counters that raise an interrupt -/

theorem wfiCheck_reg (s : State) (c : CoreId) (b : Nat) : (wfiCheck s c).reg b = s.reg b := by
  unfold wfiCheck
  split
  · rfl
  split <;> rfl

theorem raiseInt_reg_ne (s : State) (c : CoreId) (v : Nat) {b : Nat} (h : b ≠ CORE_IPEND c) : (raiseInt s c v).reg b = s.reg b := by
  unfold raiseInt
  split
  · rfl
  · rw [wfiCheck_reg, State.reg_setReg_ne _ _ h]

/-- An interrupt raised on the cores of a mask changes the pending bits of those cores alone. -/
theorem raiseMask_reg_ne (s : State) (mask v : Nat) {b : Nat} (h : ∀ c : CoreId, bitOf mask c = true → b ≠ CORE_IPEND c) :
    (raiseMask s mask v).reg b = s.reg b := by
  unfold raiseMask
  generalize allCores = l
  induction l generalizing s with
  | nil => rfl
  | cons c l ih =>
    rw [List.foldl_cons, ih]
    split
    · exact raiseInt_reg_ne s c v (h c ‹_›)
    · rfl

theorem count_reg_ne (s : State) (a n : Nat) {b : Nat} (ha : b ≠ a) (h : ∀ c : CoreId, bitOf (perfMask s a) c = true → b ≠ CORE_IPEND c) :
    (count s a n).reg b = s.reg b := by
  unfold count
  extract_lets w s'
  split
  · exact (raiseMask_reg_ne _ _ _ h).trans (State.reg_setReg_ne _ _ ha)
  · exact State.reg_setReg_ne _ _ ha

theorem count_reg_self (s : State) (a n : Nat) (h : ∀ c : CoreId, bitOf (perfMask s a) c = true → a ≠ CORE_IPEND c) :
    (count s a n).reg a = countWord (s.reg a) n := by
  unfold count
  extract_lets w s'
  split
  · exact (raiseMask_reg_ne _ _ _ h).trans (State.reg_setReg_self ..)
  · exact State.reg_setReg_self ..

/-- A register in a core's block. -/
def InBlock (c : CoreId) (a : Nat) : Prop := CORE_ID c ≤ a ∧ a < CORE_ID c + 0x10000

theorem InBlock.index {c : CoreId} {a : Nat} (h : InBlock c a) : (CORE_ID 0 ≤ a ∧ a < CORE_ID 48) ∧ (a - CORE_ID 0) / 0x10000 = c.val := by
  have hc := c.isLt
  unfold InBlock CORE_ID at *
  omega

theorem bitOf_eq_testBit (w i : Nat) : bitOf w i = w.testBit i := by
  rw [bitOf, Nat.testBit_eq_decide_div_mod_eq, Nat.shiftRight_eq_div_pow]
  rfl

/-- A counter of a core's block raises its interrupt on that core alone. -/
theorem bitOf_perfMask {s : State} {c : CoreId} {a : Nat} (h : InBlock c a) (d : CoreId) : bitOf (perfMask s a) d = true → d = c := by
  obtain ⟨h1, h2⟩ := h.index
  intro hb
  rw [perfMask, if_pos h1, h2, bitOf_eq_testBit, Nat.testBit_two_pow, decide_eq_true_eq] at hb
  exact Fin.ext hb.symm

/-! ### The update counters (Table 6.11) -/

/-- The row of an update counter. -/
def updRow (k : Fin 2) : RegRow := if k = 0 then
    ⟨UPD_FALLBACK_COUNT 0, [(48, 0x10000)], [⟨fldUPD_FALLBACK_COUNT_OVF, .w1c, 0⟩,
      ⟨fldUPD_FALLBACK_COUNT_INC, .wo, 0⟩, ⟨fldUPD_FALLBACK_COUNT_COUNT, .ro, 0⟩]⟩
  else ⟨UPD_DONE_COUNT 0, [(48, 0x10000)], [⟨fldUPD_DONE_COUNT_OVF, .w1c, 0⟩,
      ⟨fldUPD_DONE_COUNT_INC, .wo, 0⟩, ⟨fldUPD_DONE_COUNT_COUNT, .ro, 0⟩]⟩

/-- The register of an update counter. -/
def updCounter (c : CoreId) (k : Fin 2) : Nat := if k = 0 then UPD_FALLBACK_COUNT c else UPD_DONE_COUNT c

theorem regRowAt_updCounter (c : CoreId) (k : Fin 2) : regRowAt (updCounter c k) = some (updRow k) := by
  revert c k; decide +kernel

theorem inBlock_updCounter (c : CoreId) (k : Fin 2) : InBlock c (updCounter c k) := by
  unfold InBlock updCounter CORE_ID
  split
  · unfold UPD_FALLBACK_COUNT; omega
  · unfold UPD_DONE_COUNT; omega

theorem updCounter_ne_CORE_IPEND (c d : CoreId) (k : Fin 2) : updCounter c k ≠ CORE_IPEND d := by
  unfold updCounter CORE_IPEND
  split
  · unfold UPD_FALLBACK_COUNT; omega
  · unfold UPD_DONE_COUNT; omega

/-- The word with INC alone. -/
def incWord : Word := fldUPD_FALLBACK_COUNT_INC.set 1 0

theorem and_not_incWord (w : Word) : w &&& ~~~ (incWord &&& Fld.mask ⟨63, 63⟩) = w := by
  rw [show ~~~ (incWord &&& Fld.mask ⟨63, 63⟩) = BitVec.allOnes 64 by decide, BitVec.and_allOnes]

theorem accWrite_incWord (k : Fin 2) (w : Word) : accWrite (updRow k) w incWord = w := by
  unfold updRow
  split
  · exact and_not_incWord w
  · exact and_not_incWord w

theorem plainWrite_incWord (s : State) (c : CoreId) (k : Fin 2) :
    plainWrite s (updRow k) (updCounter c k) incWord = s.setReg (updCounter c k) (s.reg (updCounter c k)) := by
  rw [plainWrite_eq_setReg (by revert k; decide), accWrite_incWord]

theorem blockCore_of_inBlock {c : CoreId} {a : Nat} (h : InBlock c a) : blockCore a = c := by
  unfold blockCore
  rw [h.index.2]
  exact dif_pos c.isLt

/-- A write of INC alone to an update counter counts 1. -/
theorem coreRegWrite_incWord (s : State) (m : Nat) (c : CoreId) (k : Fin 2) : coreRegWrite s m (updRow k) (updCounter c k) incWord =
    some (count (s.setReg (updCounter c k) (s.reg (updCounter c k))) (updCounter c k) 1) := by
  have hb : (updRow k).base ≠ VEC_RNG_STATE 0 0 := by revert k; decide
  have hp := plainWrite_incWord s c k
  have hc : blockCore (updCounter c k) = c := blockCore_of_inBlock (inBlock_updCounter c k)
  have hi : fldUPD_FALLBACK_COUNT_INC.test incWord = true ∧ fldUPD_DONE_COUNT_INC.test incWord = true := by decide
  have hn : ∀ b ∈ [CORE_IPEND c, CORE_IEN c, CORE_SWI c, CORE_TIMER_CMP c, NUM_MODE c, VEC_VL c, VEC_VPROG c, VEC_RNG c, UPD_FALLBACK c],
      updCounter c k ≠ b := by
    unfold updCounter CORE_IPEND CORE_IEN CORE_SWI CORE_TIMER_CMP NUM_MODE VEC_VL VEC_VPROG VEC_RNG UPD_FALLBACK UPD_FALLBACK_COUNT
      UPD_DONE_COUNT
    simp only [List.mem_cons, List.not_mem_nil, or_false]
    split <;> omega
  simp only [List.forall_mem_cons, ne_eq] at hn
  have hk : updCounter c k = UPD_FALLBACK_COUNT c ∨ updCounter c k ≠ UPD_FALLBACK_COUNT c ∧ updCounter c k = UPD_DONE_COUNT c := by
    unfold updCounter UPD_FALLBACK_COUNT UPD_DONE_COUNT
    split <;> simp
  unfold coreRegWrite
  simp only [hc, hn, hb, if_false, incWrite, hi, if_true, hp]
  rcases hk with h | ⟨h, h'⟩
  · exact if_pos h
  · exact (if_neg h).trans (if_pos h')

/-- What an increment of an update counter changes: the counter, and on an overflow the core's pending interrupts. -/
theorem ctrlRegWrite_incWord (s : State) (c : CoreId) (k : Fin 2) :
    (ctrlRegWrite s 64 (updCounter c k) incWord).reg (updCounter c k) = countWord (s.reg (updCounter c k)) 1 ∧
    sameRegs s (ctrlRegWrite s 64 (updCounter c k) incWord) [updCounter c k, CORE_IPEND c] ∧
    (ctrlRegWrite s 64 (updCounter c k) incWord).mem = s.mem := by
  have hin := inBlock_updCounter c k
  have hwt : inWt (updCounter c k) = false := by
    unfold InBlock CORE_ID at hin
    unfold inWt WT_CTRL
    simp; omega
  have hmask (t : State) (d : CoreId) (hd : bitOf (perfMask t (updCounter c k)) d = true) : d = c := bitOf_perfMask hin d hd
  unfold ctrlRegWrite
  rw [regRowAt_updCounter]
  simp only [hwt, false_and, if_false, if_pos hin.index.1, coreRegWrite_incWord, Option.getD_some, Bool.false_eq_true]
  refine ⟨?_, fun b hb => ?_, ?_⟩
  · rw [keepWrite_reg, count_reg_self _ _ _ fun d _ => updCounter_ne_CORE_IPEND c d k, State.reg_setReg_self]
  · simp only [List.mem_cons, List.not_mem_nil, or_false, not_or] at hb
    rw [keepWrite_reg, count_reg_ne _ _ _ hb.1 fun d hd => hmask _ d hd ▸ hb.2, State.reg_setReg_ne _ _ hb.1]
  · exact (keepWrite_mem ..).trans (count_mem ..)

/-! ### UPD_FALLBACK -/

/-- What a write of UPD_FALLBACK leaves (Table 6.11). -/
theorem fallbackWrite_cases (s : State) (c : CoreId) (v : Word) :
    KeepsBut s (fallbackWrite s (UPD_FALLBACK c) v) [UPD_FALLBACK c] ∧
    (fallbackWrite s (UPD_FALLBACK c) v).fld (UPD_FALLBACK c) fldUPD_FALLBACK_SHARD = v.toNat % 2 ^ 32 ∧
    (fallbackWrite s (UPD_FALLBACK c) v).test (UPD_FALLBACK c) fldUPD_FALLBACK_FLAG =
      (bitOf v.toNat 62 || (s.test (UPD_FALLBACK c) fldUPD_FALLBACK_FLAG && !bitOf v.toNat 63)) := by
  have fits (f : Fld) (h : f ∈ [fldUPD_FALLBACK_SHARD, fldUPD_FALLBACK_FLAG]) : f.Fits := by
    unfold Fld.Fits; revert f; decide
  have apart : fldUPD_FALLBACK_SHARD.Apart fldUPD_FALLBACK_FLAG := by unfold Fld.Apart; decide
  refine ⟨KeepsBut.setReg .., ?_, ?_⟩
  · unfold State.fld fallbackWrite
    rw [State.reg_setReg_self, Fld.get_set_apart (fits _ (by simp)) apart, Fld.get_set_self (fits _ (by simp))]
    simp [Fld.get, Fld.width, fldUPD_FALLBACK_SHARD]
  · unfold State.test fallbackWrite
    rw [State.reg_setReg_self, Fld.test_set_flag (fits _ (by simp)) rfl, Fld.test_eq_bitOf rfl v, Fld.test_eq_bitOf rfl v]
    rfl

/-! ### Blazes and the budget -/

theorem KeepsBut.setFld (s : State) (a : Nat) (f : Fld) (v : Nat) : KeepsBut s (s.setFld a f v) [a] := KeepsBut.setReg ..

theorem blazeWrite_owner (s : State) (n : Nat) (v : Word) :
    KeepsBut s (blazeWrite s (BLZ_CFG n) v) [BLZ_CFG n] ∧
    (blazeWrite s (BLZ_CFG n) v).fld (BLZ_CFG n) fldBLZ_CFG_OWNER =
      if fldBLZ_CFG_OWNER.get v < 48 then fldBLZ_CFG_OWNER.get v else s.fld (BLZ_CFG n) fldBLZ_CFG_OWNER := by
  have hb : (BLZ_CFG n - blazeBase) / 64 = n ∧ BLZ_CFG n % 64 = 16 := by unfold BLZ_CFG blazeBase; omega
  unfold blazeWrite
  simp only [hb]
  by_cases h : 48 ≤ fldBLZ_CFG_OWNER.get v
  · rw [if_neg (by omega : ¬ fldBLZ_CFG_OWNER.get v < 48)]
    simp [h, KeepsBut.refl]
  · rw [if_pos (by omega : fldBLZ_CFG_OWNER.get v < 48)]
    simp only [h, if_false, if_true, (by decide : ¬ 16 = 0), (by decide : ¬ 16 = 8)]
    refine ⟨KeepsBut.setFld .., ?_⟩
    rw [State.fld, State.reg_setFld_self, Fld.get_set_self (by unfold Fld.Fits; decide)]
    exact Nat.mod_eq_of_lt (Fld.get_lt _ v)

theorem blazeWrite_status (s : State) (n : Nat) (v : Word) :
    KeepsBut s (blazeWrite s (BLZ_STATUS n) v) [BLZ_STATUS n] ∧
    (blazeWrite s (BLZ_STATUS n) v).test (BLZ_STATUS n) fldBLZ_STATUS_BLZ_OVF =
      (s.test (BLZ_STATUS n) fldBLZ_STATUS_BLZ_OVF && !fldBLZ_STATUS_BLZ_OVF.test v) := by
  have hb : (BLZ_STATUS n - blazeBase) / 64 = n ∧ BLZ_STATUS n % 64 = 24 := by unfold BLZ_STATUS blazeBase; omega
  unfold blazeWrite
  simp only [hb]
  by_cases h : fldBLZ_STATUS_BLZ_OVF.test v = true
  · simp only [h, if_false, if_true, (by decide : ¬ 24 = 0), (by decide : ¬ 24 = 8), (by decide : ¬ 24 = 16)]
    refine ⟨KeepsBut.setFld .., ?_⟩
    rw [State.test, State.setBit, State.reg_setFld_self]
    exact (Fld.test_set_flag (on := false) (by unfold Fld.Fits; decide) rfl _).trans (by simp)
  · simp [h, KeepsBut.refl]

theorem FOR_BUDGET_row : regRowAt FOR_BUDGET = some ⟨FOR_BUDGET, [], [⟨fldFOR_BUDGET_LIMIT, .ci, 0⟩, ⟨fldFOR_BUDGET_WATTS, .rw, 0⟩]⟩ := by
  decide +kernel

/-- A write of the budget is bounded by LIMIT. -/
theorem ctrlRegWrite_budget (s : State) (m : Nat) (v : Word) :
    KeepsBut s (ctrlRegWrite s m FOR_BUDGET v) [FOR_BUDGET] ∧
    (ctrlRegWrite s m FOR_BUDGET v).fld FOR_BUDGET fldFOR_BUDGET_LIMIT = s.fld FOR_BUDGET fldFOR_BUDGET_LIMIT ∧
    (ctrlRegWrite s m FOR_BUDGET v).fld FOR_BUDGET fldFOR_BUDGET_WATTS =
      min (fldFOR_BUDGET_WATTS.get v) (s.fld FOR_BUDGET fldFOR_BUDGET_LIMIT) := by
  have hd : ctrlRegWrite s m FOR_BUDGET v = s.setReg FOR_BUDGET (fldFOR_BUDGET_WATTS.set
      (fldFOR_BUDGET_WATTS.get (fldFOR_BUDGET_WATTS.set (min (fldFOR_BUDGET_WATTS.get v) (s.fld FOR_BUDGET fldFOR_BUDGET_LIMIT)) v))
      (s.reg FOR_BUDGET)) := by
    unfold ctrlRegWrite
    rw [FOR_BUDGET_row]
    rfl
  have hw : fldFOR_BUDGET_WATTS.Fits := by unfold Fld.Fits; decide
  rw [hd]
  refine ⟨KeepsBut.setReg .., ?_, ?_⟩
  · rw [State.fld, State.reg_setReg_self, Fld.get_set_apart hw (by unfold Fld.Apart; decide)]
    rfl
  · rw [State.fld, State.reg_setReg_self, Fld.get_set_self hw, Nat.mod_eq_of_lt (Fld.get_lt ..), Fld.get_set_self hw]
    exact Nat.mod_eq_of_lt (lt_of_le_of_lt (min_le_left ..) (Fld.get_lt _ v))

/-- Settles O60, by what `ctrlRegWrite` and `blazeWrite` leave: a settled master's write is that of the region alone (`byMaster_of_settled`). -/
theorem registerWrites : Obligations.RegisterWrites := by
  intro s m a v c k
  refine ⟨?reset, ?still, ?align, ?plain, ?unlisted, ?closed, ?codes, ?budget, ?blaze, ?fallback, ?counter⟩
  case reset =>
    intro h
    show execRegisterWrite m a v s = _
    rw [execRegisterWrite, if_pos h]
    rfl
  case still =>
    intro h
    exact ⟨if_pos h, if_pos h⟩
  case align => exact fun h => exec_registerWrite_eq_self fun h0 => absurd h0 h
  case plain =>
    rintro ⟨-, ha, hs⟩ hg
    exact exec_registerWrite_eq_self fun _ => ⟨hs, by rw [regionWrite_eq_none hg]; rfl⟩
  case unlisted =>
    rintro ⟨-, ha, hs⟩ hc hr
    exact exec_registerWrite_eq_self fun _ => ⟨hs, by rw [regionWrite_ctrl hc, ctrlRegWrite_none hr]; rfl⟩
  case closed =>
    rintro ⟨-, ha, hs⟩ hc hw ht
    exact exec_registerWrite_eq_self fun _ => ⟨hs, by rw [regionWrite_ctrl hc, ctrlRegWrite_closed hw ht]; rfl⟩
  case codes =>
    rintro row ⟨hlow, ha, hs⟩ hc hr hw hn hl
    obtain ⟨hk, hll, hreg⟩ := ctrlRegWrite_plain (v := v) hr hw hn hl
    refine ⟨_, exec_registerWrite hlow ha hs (postWaits_of_plain hr hn), ?_⟩
    rw [regionWrite_ctrl hc]
    refine ⟨hk, hll, fun f hf => ?_⟩
    have hf := get_accWrite_cases (regRowAt_sound hr) hf (s.reg (unalias m a)) v
    rw [← hreg] at hf
    exact hf
  case budget =>
    rintro ⟨hlow, ha, hs⟩ hb hc
    have hp : postWaits s a = false := postWaits_eq_false fun e he => by
      rw [he, unalias_XFER_POST] at hb
      unfold XFER_POST FOR_BUDGET at hb
      omega
    refine ⟨_, exec_registerWrite hlow ha hs hp, ?_⟩
    rw [regionWrite_ctrl hc, hb]
    exact ctrlRegWrite_budget s m v
  case blaze =>
    rintro n ⟨hlow, ha, hs⟩ - hc
    have hp (o : Nat) (ho : o < 64) (hb : unalias m a = blazeBase + 64 * n + o) : postWaits s a = false := postWaits_eq_false fun e he => by
      rw [he, unalias_XFER_POST] at hb
      have := e.isLt
      unfold XFER_POST blazeBase at hb
      omega
    refine ⟨fun hb => ⟨_, exec_registerWrite hlow ha hs (hp _ (by decide) hb), ?_⟩,
      fun hb => ⟨_, exec_registerWrite hlow ha hs (hp _ (by decide) hb), ?_⟩⟩
    · rw [regionWrite_blaze hc, hb.trans (by unfold blazeBase BLZ_CFG; omega : _ = BLZ_CFG n)]
      exact blazeWrite_owner s n v
    · rw [regionWrite_blaze hc, hb.trans (by unfold blazeBase BLZ_STATUS; omega : _ = BLZ_STATUS n)]
      exact blazeWrite_status s n v
  case fallback => exact fun h => ⟨_, if_neg (by simp [h]), fallbackWrite_cases s c v⟩
  case counter =>
    intro counter h
    have hb := ctrlRegWrite_incWord s c k
    exact ⟨_, if_neg (by simp [h]), hb⟩

end Sys2Proof.Machine
end

section
/-! The mailbox: a counterexample. -/
namespace Sys2Proof.Machine
open Host
set_option Elab.async false

/-! ### A store that waits in a merging buffer overtakes the Warden's answer

REST answers the request first and drains the merging buffers of the stopped cores after it (R367), so a core's store to the STATUS byte of
the very block that is answered stands last. -/

/-- The address of the request, the first of bank 0. -/
def restBlock : Nat := bankBase

/-- The Warden at step 8 with a block at the head of its queue that asks REST, and in core 0's merging buffer a store of 0xFF to the
block's STATUS. -/
def restAsked : State :=
  let s := Tests.on.setFld WDN_BOOT fldWDN_BOOT_STEP 8
  let s := s.modMem fun m => { m with bank := [(0, 7)] }
  let s := s.modWdn fun w => { w with mbox := [.block restBlock] }
  s.modCore 0 fun k => { k with mbuf := [⟨restBlock, 0, [(restBlock + 3, 0xFF)], 0⟩] }

/-- The request it spells: command 7 with every other byte 0. -/
def restAsk : Req := reqOf (.block restBlock) (7 :: List.replicate 63 0)

theorem restAsked_asks : Asks restAsked 7 restAsk where
  serves := by decide +kernel
  head := ⟨.block restBlock, [], rfl, by decide +kernel, by decide +kernel, by decide +kernel⟩
  code := rfl
  mode := .inl (by decide +kernel)

theorem restAsked_inBank : inBank restAsked 0 restBlock 64 := by
  refine ⟨?_, ?_, ?_⟩ <;> decide +kernel

/-- STATUS as it stands after a command. -/
def statusAfter (o : Outcome State Fault Refusal) : Nat :=
  match o with
  | .next t => natOfBytes (memBytes t 0 (restBlock + 3) 1)
  | _ => 0

theorem statusAfter_wdnRest : statusAfter (exec .wdnRest restAsked) = 0xFF := by decide +kernel

/-- Refutes O58: a REST that is taken answers its block with STATUS 0, and then the merging buffers drain, so that a store of 0xFF to
STATUS that waited in one of them is what the block holds in the end. -/
theorem not_launchesAndMailboxControl : ¬ Obligations.LaunchesAndMailboxControl := by
  intro h
  obtain ⟨-, -, -, -, -, -, -, -, -, -, -, -, -, hrest, -⟩ := h restAsked restAsk 0 (Tests.mgmt 7 [] []) Tests.boot
  have hdown : (newerState (readDone restAsked restAsk.src) = 0 ∨ newerState (readDone restAsked restAsk.src) = 5) ∧
      (olderState (readDone restAsked restAsk.src) = 0 ∨ olderState (readDone restAsked restAsk.src) = 5) ∧
      restAsked.wdn.launch = none ∧ restAsked.pwr.thermtrip = false := by
    refine ⟨.inl ?_, .inl ?_, rfl, rfl⟩ <;> decide +kernel
  have hrun : devState restAsked = 0 := by decide +kernel
  obtain ⟨t, e, hfin, -⟩ := hrest hdown hrun restAsked_asks
  obtain ⟨-, -, -, hblock, -⟩ := hfin
  obtain ⟨hstatus, -⟩ := hblock restBlock 0 0 rfl restAsked_inBank rfl
  have hff : natOfBytes (memBytes t 0 (restBlock + 3) 1) = 0xFF := by
    have hs := statusAfter_wdnRest
    rw [e] at hs
    exact hs
  rw [hff] at hstatus
  exact absurd hstatus (by decide)

end Sys2Proof.Machine
end
